-- ==== Sys2Proof/Word.lean ====
section
/-! DEFINITION. The plain words and index types of the FJC-8: bytes on the links, readings of the
line clock, and the numbers of slots, ports, terminals, fences, rivet classes and tiers. -/

namespace Sys2Proof

/-- One data byte of a character on a station link (R165). -/
abbrev Byte := BitVec 8

/-- One reading of the line clock: milliseconds, unsigned 32-bit, wrapping (R89). -/
abbrev Clock := BitVec 32

/-- A head slot 0 to 7; slot h belongs to port Ph (R61, R164). -/
abbrev Slot := Fin 8

/-- A station link port P0 to P9 (R164). -/
abbrev PortId := Fin 10

/-- A terminal T0 to T39 (R147). -/
abbrev TermId := Fin 40

/-- A fence id 0 to 3 (R57). -/
abbrev FenceId := Fin 4

/-- A rivet class 1 to 6, held as the number less one (R74, R106). -/
abbrev RivetClass := Fin 6

/-- A tier 0 to 3 of a joint (section 1.4). -/
abbrev Tier := Fin 4

/-- A terminal converter code 0 to 4095 (R155). -/
abbrev ProbeCode := BitVec 12

/-- The supervisor port P8 (R164). -/
abbrev supervisorPort : PortId := 8

/-- The heater port P9 (R164). -/
abbrev heaterPort : PortId := 9

/-- Head port Ph of slot h (R164). -/
abbrev headPort (h : Slot) : PortId := h.castLE (by decide)

end Sys2Proof
end

