-- ==== Sys2Proof/Syntax.lean ====
section
/-! DEFINITION. The commands of the FJC-8: one constructor for each row of spec/opcode_table.json.

A row that names a message (ATTACH to HEATER_QUERY, UNKNOWN_KIND_MESSAGE) is the TAKING of that
message from its port's receive queue (R171). Its operands are the slot whose port holds the message
(head messages only) and the payload the message carries, the bytes of the catalogue of R175. The
other rows are events of the part or of its pins. -/

namespace Sys2Proof

/-- The commands, in the order of the opcode table. -/
inductive Instr where
  /-- Power-on, or RESET_N rising (R163). -/
  | powerOn
  /-- RESET_N going low (R163). -/
  | resetNAssert
  /-- ATTACH from a head station: kind, rail, position (R64). -/
  | attach (slot : Slot) (payload : List Byte)
  /-- DETACH from a head station (R64). -/
  | detach (slot : Slot) (payload : List Byte)
  /-- NEXT from a head station (R67). -/
  | next (slot : Slot) (payload : List Byte)
  /-- TAKE from a head station: hole (R65). -/
  | take (slot : Slot) (payload : List Byte)
  /-- MOVE from a head station: position (R68). -/
  | move (slot : Slot) (payload : List Byte)
  /-- ARRIVED from a head station (R73). -/
  | arrived (slot : Slot) (payload : List Byte)
  /-- PROGRESS from a head station (R72). -/
  | progress (slot : Slot) (payload : List Byte)
  /-- ABANDON from a head station (R77). -/
  | abandon (slot : Slot) (payload : List Byte)
  /-- DRILL_DONE from a head station: measured diameter, measured stack (R75). -/
  | drillDone (slot : Slot) (payload : List Byte)
  /-- FEED from a head station (R112). -/
  | feed (slot : Slot) (payload : List Byte)
  /-- SET_DONE from a head station (R76). -/
  | setDone (slot : Slot) (payload : List Byte)
  /-- HALT_AT from a head station: position (R83). -/
  | haltAt (slot : Slot) (payload : List Byte)
  /-- HEAD_QUERY from a head station (R63). -/
  | headQuery (slot : Slot) (payload : List Byte)
  /-- PLAN_BEGIN from the supervisor: frame id, sizes, x_d (R2). -/
  | planBegin (payload : List Byte)
  /-- PLAN_SEGMENT from the supervisor: k, lower, upper, probe terminal (R3). -/
  | planSegment (payload : List Byte)
  /-- PLAN_BAY from the supervisor: b, lower, upper (R4). -/
  | planBay (payload : List Byte)
  /-- PLAN_HOLE from the supervisor: the static fields of a hole (R5). -/
  | planHole (payload : List Byte)
  /-- PLAN_SEAL from the supervisor (R6). -/
  | planSeal (payload : List Byte)
  /-- PLAN_ABORT from the supervisor (R8). -/
  | planAbort (payload : List Byte)
  /-- PLAN_READ from the supervisor: start, count (R23). -/
  | planRead (payload : List Byte)
  /-- DATUM from the supervisor: J_d (R9). -/
  | datum (payload : List Byte)
  /-- FENCE_SET from the supervisor: id, rail, lo, hi (R58). -/
  | fenceSet (payload : List Byte)
  /-- FENCE_CLEAR from the supervisor: id (R58). -/
  | fenceClear (payload : List Byte)
  /-- HOLE_RELEASE from the supervisor with an action other than ACCEPT: hole, action (R18). -/
  | holeReleaseRedo (payload : List Byte)
  /-- HOLE_RELEASE from the supervisor with action ACCEPT: hole, action (R18). -/
  | holeReleaseAccept (payload : List Byte)
  /-- HOLE_EXCUSE from the supervisor: hole (R19). -/
  | holeExcuse (payload : List Byte)
  /-- HEAD_RECOVER from the supervisor: slot, position (R84). -/
  | headRecover (payload : List Byte)
  /-- HEAD_EVICT from the supervisor: slot (R85). -/
  | headEvict (payload : List Byte)
  /-- DEV_MODE from the supervisor: class, mode (R133). -/
  | devMode (payload : List Byte)
  /-- DEV_CLEAR from the supervisor: class set (R134). -/
  | devClear (payload : List Byte)
  /-- DEV_READ from the supervisor (R135). -/
  | devRead (payload : List Byte)
  /-- LOG_READ from the supervisor: maximum count (R143). -/
  | logRead (payload : List Byte)
  /-- SET_PARAM of a parameter whose write has no behaviour of its own: id, value (R178). -/
  | setParam (payload : List Byte)
  /-- SET_PARAM of PROBE_HOLD (R34). -/
  | setParamProbeHold (payload : List Byte)
  /-- SET_PARAM of STALE_ACTION (R99). -/
  | setParamStaleAction (payload : List Byte)
  /-- SET_PARAM of HEAT_MIN (R105). -/
  | setParamHeatMin (payload : List Byte)
  /-- SET_PARAM of HEAT_MAX (R105). -/
  | setParamHeatMax (payload : List Byte)
  /-- SET_PARAM of BUDGET_1 to BUDGET_6 (R106). -/
  | setParamBudget (payload : List Byte)
  /-- SET_PARAM of LOG_THRESHOLD (R144). -/
  | setParamLogThreshold (payload : List Byte)
  /-- SET_PARAM of DEBOUNCE_MS (R152). -/
  | setParamDebounceMs (payload : List Byte)
  /-- GET_PARAM from the supervisor: id (R178). -/
  | getParam (payload : List Byte)
  /-- TERM_CONFIG from the supervisor: terminal, mode, function, polarity, edge (R149). -/
  | termConfig (payload : List Byte)
  /-- TERM_WRITE from the supervisor: terminal, latch, pending enable (R154). -/
  | termWrite (payload : List Byte)
  /-- TERM_READ from the supervisor: terminal (R161). -/
  | termRead (payload : List Byte)
  /-- TERM_ACK from the supervisor: n, then n terminal numbers (R154). -/
  | termAck (payload : List Byte)
  /-- HEATER_CLEAR from the supervisor (R110). -/
  | heaterClear (payload : List Byte)
  /-- FRAME_END from the supervisor (R24). -/
  | frameEnd (payload : List Byte)
  /-- LINE_QUERY from the supervisor: page (R177). -/
  | lineQuery (payload : List Byte)
  /-- RIVET_OUT from the heater: class, exit temperature (R107). -/
  | rivetOut (payload : List Byte)
  /-- HEATER_QUERY from the heater (R123). -/
  | heaterQuery (payload : List Byte)
  /-- The motion timer of a head expires (R97). -/
  | motionTimerExpiry (slot : Slot)
  /-- The hold of a HELD segment, named by its index, expires (R31). -/
  | holdExpiry (segment : Fin 16)
  /-- A rivet in the queue or the chute, named by its serial, expires (R111). -/
  | rivetExpiry (serial : BitVec 16)
  /-- The pin of a terminal goes to the level given, high or low (R151). -/
  | rawChange (terminal : TermId) (high : Bool)
  /-- The candidate of a terminal is accepted (R151). -/
  | acceptance (terminal : TermId)
  /-- A PROBE_IN terminal is sampled; the converter gives the code (R155). -/
  | probeSample (terminal : TermId) (code : ProbeCode)
  /-- A character arrives on a port: mark bit, data byte, and whether its stop bit is high (R167). -/
  | characterArrival (port : PortId) (mark : Bool) (data : Byte) (stopHigh : Bool)
  /-- The gap of a frame under assembly expires (R168). -/
  | gapExpiry (port : PortId)
  /-- A receive line has stood low for 22 bit times (R170). -/
  | inBreak (port : PortId)
  /-- A receive line returns after a break (R170). -/
  | breakReturn (port : PortId)
  /-- The last character of the frame on a transmit line goes out (R172). -/
  | frameSent (port : PortId)
  /-- A queued message of a kind the port's role does not send is taken (R171). -/
  | unknownKindMessage (port : PortId) (kind : Byte) (payload : List Byte)
  /-- The first character of the oldest frame of a transmit queue goes out (R165). -/
  | frameTransmitStart (port : PortId)
  /-- A receive line falls (R170). -/
  | receiveLineFall (port : PortId)
  deriving DecidableEq, Repr

end Sys2Proof
end

