-- ==== Sys2Proof/Decode.lean ====
section
/-! DEFINITION. The decoder of the opcode table's words. The part is a block without an instruction
word: spec/opcode_table.json gives bits to none of its rows, so no word spells a command. The bytes
that do spell its messages arrive as characters on the links and are read by Machine/Operands.lean. -/

namespace Sys2Proof

/-- The command an opcode-table word of nbits bits spells: none, since no row of the table has bits. -/
def decodeTableWord (_nbits _w : Nat) : Option Instr := none

end Sys2Proof
end

