-- ==== Sys2Proof/Config.lean ====
section
/-! DEFINITION. What the part fixes once and for all, and the values the spec leaves open, all of
them widths and codes of fields of replies. -/

namespace Sys2Proof

/-- The upper end of the jig range, 0 to 2 000 000 in 0.01 mm (section 0.5.1). -/
abbrev Config.jigMax : Int := 2000000

/-- The reference temperature of the frame plan, 20.0 degrees (R38). -/
abbrev Config.referenceTemp : Int := 200

/-- The divisor of the displacement sum (R40). -/
abbrev Config.displacementDivisor : Int := 1000000000

/-- The cap of a travel limit in ms (R91). -/
abbrev Config.travelLimitCap : Nat := 300000

/-- The number of records the Completion Log holds (R137). -/
abbrev Config.logCapacity : Nat := 64

/-- The number of rivets the queue holds (R103). -/
abbrev Config.queueCapacity : Nat := 6

/-- The number of messages a receive queue holds (R164). -/
abbrev Config.receiveCapacity : Nat := 4

/-- The number of frames a transmit queue holds (R164). -/
abbrev Config.transmitCapacity : Nat := 8

/-- The longest payload of a frame sent to the coordinator (R166). -/
abbrev Config.maxPayload : Nat := 60

/-- The longest payload of a frame the coordinator sends (R166). -/
abbrev Config.maxSentPayload : Nat := 240

/-- The time between two samples of a probe terminal, in ms (R155). -/
abbrev Config.samplePeriod : Nat := 250

/-- Model time units in one millisecond. DESIGN CHOICE (log entry 1): one unit is 1/576 000 s, so
that one millisecond (R89) and one bit time (R165) are both whole numbers of units. -/
abbrev Config.unitsPerMs : Nat := 576

/-- Model time units in one bit time of 1/115 200 s (R165). -/
abbrev Config.unitsPerBit : Nat := 5

/-- Model time units in one character of 11 bits (R165). -/
abbrev Config.unitsPerChar : Nat := 11 * Config.unitsPerBit

/-- Model time units in the 22 bit times that make a break (R170). -/
abbrev Config.unitsPerBreak : Nat := 22 * Config.unitsPerBit

/-- Model time units in the 2 ms of the gap expiry (R168). -/
abbrev Config.unitsPerGap : Nat := 2 * Config.unitsPerMs

/-- The fields of replies to TERM_READ, LINE_QUERY and HEATER_QUERY for which the spec gives no width in any
message. -/
inductive OpenField where
  | probeValue
  | probeCode
  | runCount
  | segmentsLoaded
  | baysLoaded
  | holesLoaded
  | stateCount
  | holdEntries
  | redoCount
  | acceptCount
  | datumCount
  | segmentValue
  | entryCount
  | headroom
  | heatBound
  | acceptedCount
  | scrappedCount
  | receiveCount
  | transmitCount
  deriving DecidableEq, Repr

/-- The lists of these replies that the spec gives without a count before them. -/
inductive OpenList where
  | segments
  | rivets
  | waitingClasses
  | waitingSlots
  deriving DecidableEq, Repr

/-- FREE VALUE (log entry 2): the number of bytes a field of no stated width takes. It has no body: nothing
can be proved of it. -/
opaque Config.openWidth : OpenField → Nat

/-- FREE VALUE (log entry 2): what stands before a list of a length, where the rule names no count. -/
opaque Config.listLead : OpenList → Nat → List Byte

/-- FREE VALUE (log entry 2): the code of a receiver state, by whether it is ASSEMBLY, for which R179 lists
none. -/
opaque Config.receiverStateCode : Bool → Byte

/-- FREE VALUE (log entry 2): the bytes of a set of pending notice kinds, of which R179 gives no layout, by
whether each kind of R173 is in it. -/
opaque Config.pendingSetBytes : List Bool → List Byte

end Sys2Proof
end

