-- ==== Sys2Proof/Machine/Catalogue.lean ====
section
/-! DEFINITION. The message catalogue (R175): the kinds a station of each role may send, their codes
and their payload lengths, and the two checks the Station Links make of a message taken (R171). -/

namespace Sys2Proof.Machine

/-- The role of a port, fixed by its number (R164). -/
inductive Role where
  | head
  | supervisor
  | heater
  deriving DecidableEq, Repr

/-- P0 to P7 are head ports, P8 is the supervisor port and P9 the heater port (R164). -/
def roleOf (p : PortId) : Role :=
  if p = heaterPort then .heater else if p = supervisorPort then .supervisor else .head

def kindReply : Byte := 0x01
def kindHold : Byte := 0x02
def kindFeedGiven : Byte := 0x03
def kindPortDeaf : Byte := 0x04
def kindAttentionNotice : Byte := 0x05
def kindDeviation : Byte := 0x06
def kindTerminal : Byte := 0x07
def kindHeadState : Byte := 0x08
def kindAttach : Byte := 0x10
def kindDetach : Byte := 0x11
def kindNext : Byte := 0x12
def kindTake : Byte := 0x13
def kindMove : Byte := 0x14
def kindArrived : Byte := 0x15
def kindProgress : Byte := 0x16
def kindAbandon : Byte := 0x17
def kindDrillDone : Byte := 0x18
def kindFeed : Byte := 0x19
def kindSetDone : Byte := 0x1A
def kindHaltAt : Byte := 0x1B
def kindHeadQuery : Byte := 0x1C
def kindPlanBegin : Byte := 0x40
def kindPlanSegment : Byte := 0x41
def kindPlanBay : Byte := 0x42
def kindPlanHole : Byte := 0x43
def kindPlanSeal : Byte := 0x44
def kindPlanAbort : Byte := 0x45
def kindPlanRead : Byte := 0x46
def kindDatum : Byte := 0x47
def kindFenceSet : Byte := 0x48
def kindFenceClear : Byte := 0x49
def kindHoleRelease : Byte := 0x4A
def kindHoleExcuse : Byte := 0x4B
def kindHeadRecover : Byte := 0x4C
def kindHeadEvict : Byte := 0x4D
def kindDevMode : Byte := 0x4E
def kindDevClear : Byte := 0x4F
def kindDevRead : Byte := 0x50
def kindLogRead : Byte := 0x51
def kindSetParam : Byte := 0x52
def kindGetParam : Byte := 0x53
def kindTermConfig : Byte := 0x54
def kindTermWrite : Byte := 0x55
def kindTermRead : Byte := 0x56
def kindTermAck : Byte := 0x57
def kindHeaterClear : Byte := 0x58
def kindFrameEnd : Byte := 0x59
def kindLineQuery : Byte := 0x5A
def kindRivetOut : Byte := 0x70
def kindHeaterQuery : Byte := 0x71

/-- The kinds of a head station with their payload lengths (R175). -/
def headCatalogue : List (Byte × Nat) :=
  [(kindAttach, 6), (kindDetach, 0), (kindNext, 0), (kindTake, 2), (kindMove, 4), (kindArrived, 0),
   (kindProgress, 0), (kindAbandon, 0), (kindDrillDone, 4), (kindFeed, 0), (kindSetDone, 0),
   (kindHaltAt, 4), (kindHeadQuery, 0)]

/-- The kinds of the supervisor with their payload lengths, but for TERM_ACK (R175). -/
def supervisorCatalogue : List (Byte × Nat) :=
  [(kindPlanBegin, 13), (kindPlanSegment, 10), (kindPlanBay, 9), (kindPlanHole, 16),
   (kindPlanSeal, 0), (kindPlanAbort, 0), (kindPlanRead, 3), (kindDatum, 4), (kindFenceSet, 10),
   (kindFenceClear, 1), (kindHoleRelease, 3), (kindHoleExcuse, 2), (kindHeadRecover, 5),
   (kindHeadEvict, 1), (kindDevMode, 2), (kindDevClear, 2), (kindDevRead, 0), (kindLogRead, 1),
   (kindSetParam, 5), (kindGetParam, 1), (kindTermConfig, 5), (kindTermWrite, 3),
   (kindTermRead, 1), (kindHeaterClear, 0), (kindFrameEnd, 0), (kindLineQuery, 1)]

/-- The kinds of the heater with their payload lengths (R175). -/
def heaterCatalogue : List (Byte × Nat) := [(kindRivetOut, 3), (kindHeaterQuery, 0)]

/-- The fixed-length kinds a station of a role sends (R175). -/
def fixedKinds : Role → List (Byte × Nat)
  | .head => headCatalogue
  | .supervisor => supervisorCatalogue
  | .heater => heaterCatalogue

/-- The kind is one of those a station of the port's role sends (R171, step 1). -/
def kindKnown (p : PortId) (kind : Byte) : Bool :=
  (fixedKinds (roleOf p)).any (fun row => row.1 == kind)
    || (roleOf p == .supervisor && kind == kindTermAck)

/-- The payload length is the one the kind has in the catalogue; a TERM_ACK is one byte longer than
the count it begins with, and one of length 0 has no count (R171, step 2). -/
def lengthFits (p : PortId) (kind : Byte) (payload : List Byte) : Bool :=
  if kind == kindTermAck && roleOf p == .supervisor then
    match payload with
    | [] => false
    | n :: rest => rest.length == n.toNat
  else (fixedKinds (roleOf p)).any (fun row => row.1 == kind && row.2 == payload.length)

end Sys2Proof.Machine
end

