-- ==== Sys2Proof/Machine/State.lean ====
section
/-! DEFINITION. The state of the FJC-8: every block's records as plain data, the levels the outside
world holds on its pins and receive lines, the queue of commands that wait, and the state right after
reset. The signals the blocks compose (permits, freezes of a pin, HEATER_PAUSE, ATTENTION, function
signals, whether a timer runs) are computed from this state by Machine/Flags.lean and held nowhere. -/

namespace Sys2Proof.Machine

/-- The block has no machine fault: no rule of the spec stops the part, so this type has no member. -/
inductive Fault
  deriving DecidableEq, Repr

/-- Why a command has no meaning. No meaning of this model answers with it. -/
inductive Refusal where
  /-- Raised by exec alone, for a command that has no meaning yet; safe, since nothing is claimed. -/
  | notModelled (mnemonic : String)
  deriving DecidableEq, Repr

/-! ### Codes shared by several blocks (R179) -/

/-- A gantry rail (section 0.5.4). -/
inductive Rail where
  | A
  | B
  deriving DecidableEq, Repr

/-- The rails a fence covers (R57). -/
inductive FenceRails where
  | onlyA
  | onlyB
  | both
  deriving DecidableEq, Repr

/-- The kind of a head (R61). -/
inductive HeadKind where
  | drill
  | set
  deriving DecidableEq, Repr

/-- The frame states of R1. -/
inductive FrameState where
  | empty
  | loading
  | ready
  | working
  | complete
  deriving DecidableEq, Repr

/-- The hole states of section 1.4. -/
inductive HoleState where
  | planned
  | drilling
  | drilled
  | setting
  | set
  | held
  | excused
  deriving DecidableEq, Repr

/-- The work a held hole was stopped in (section 1.4, held_from). -/
inductive Work where
  | drilling
  | setting
  deriving DecidableEq, Repr

/-- A report flag (R74). -/
inductive ReportFlag where
  | below
  | within
  | above
  deriving DecidableEq, Repr

/-- The ten deviation classes of R125, in class-number order. -/
inductive DevClass where
  | diaOut
  | stackOut
  | clampLost
  | coldSet
  | noRam
  | workTimeout
  | linkBreak
  | thermalLimit
  | probeSubst
  | heatWindow
  deriving DecidableEq, Repr

/-- The mode of a deviation class (R124). -/
inductive DevMode where
  | noting
  | holding
  deriving DecidableEq, Repr

/-! ### Plan Store (Chapter 1) -/

/-- A drill report (section 1.4). -/
structure DrillReport where
  head : Slot
  diameter : Nat
  stack : Nat
  x : Int
  diaFlag : ReportFlag
  stackFlag : ReportFlag
  time : Clock
  deriving DecidableEq, Repr

/-- A set report; an absent ram age is "no ram" (section 1.4). -/
structure SetReport where
  head : Slot
  serial : BitVec 16
  cls : RivetClass
  ramAge : Option Nat
  x : Int
  time : Clock
  deriving DecidableEq, Repr

/-- A hole record (section 1.4, R10). The marks hold each class at most once (R127). -/
structure Hole where
  joint : Nat
  tier : Tier
  rail : Rail
  xNom : Int
  yNom : Int
  cls : RivetClass
  stackNom : Nat
  state : HoleState
  grantHead : Option Slot
  heldFrom : Option Work
  heldClass : Option DevClass
  drillReport : Option DrillReport
  setReport : Option SetReport
  marks : List DevClass
  deriving DecidableEq, Repr

/-- A joint record (R20). -/
structure Joint where
  members : List Nat
  drillingCount : Nat
  settingCount : Nat
  tierOpen : Vector Nat 4
  deriving DecidableEq, Repr

/-- A segment row of the plan (R3). -/
structure SegmentRow where
  lower : Int
  upper : Int
  probe : TermId
  deriving DecidableEq, Repr

/-- A bay row of the plan (R4). -/
structure BayRow where
  lower : Int
  upper : Int
  deriving DecidableEq, Repr

/-- The identifier, the four sizes and x_d, present together (R1). -/
structure PlanHeader where
  frameId : BitVec 32
  holeCount : Nat
  jointCount : Nat
  segCount : Nat
  bayCount : Nat
  xd : Int
  deriving DecidableEq, Repr

/-- The per-frame counters (R22). The state counts are indexed by the codes of R179. -/
structure FrameCounters where
  segsLoaded : Nat
  baysLoaded : Nat
  holesLoaded : Nat
  stateCounts : Vector Nat 7
  holdEntries : Nat
  redoCount : Nat
  acceptCount : Nat
  datumCount : Nat
  deriving DecidableEq, Repr

/-- The frame record with its tables; an absent row is an index not loaded (R1, R2). -/
structure PlanStore where
  state : FrameState
  header : Option PlanHeader
  jd : Option Int
  holes : List (Option Hole)
  joints : List Joint
  segments : List (Option SegmentRow)
  bays : List (Option BayRow)
  counters : FrameCounters
  deriving DecidableEq, Repr

/-! ### Thermal Unit (Chapter 2) -/

/-- A segment's status with the values that are present in it (R25). -/
inductive SegStatus where
  | live (value : Int)
  | held (lastGood : Int) (start : Clock)
  | substituted
  | unknown
  deriving DecidableEq, Repr

/-- A segment record of the Thermal Unit (R25). -/
structure Segment where
  lower : Int
  upper : Int
  probe : TermId
  status : SegStatus
  deriving DecidableEq, Repr

/-! ### Rail Map (Chapter 3) -/

/-- The owner of a reservation entry, with its kind (R45). -/
inductive Owner where
  | head (slot : Slot)
  | fence (id : FenceId)
  deriving DecidableEq, Repr

/-- The shape of a reservation entry (R45). -/
inductive Shape where
  | footprint
  | hull
  | fence
  deriving DecidableEq, Repr

/-- A reservation entry; the span is present for FOOTPRINT and HULL (R45). -/
structure Entry where
  owner : Owner
  shape : Shape
  lo : Int
  hi : Int
  span : Option (Int × Int)
  deriving DecidableEq, Repr

/-- A present fence record (R57). -/
structure Fence where
  rails : FenceRails
  lo : Int
  hi : Int
  deriving DecidableEq, Repr

/-- The two reservation lists, ascending by lo, and the four fence records (R45, R57). -/
structure RailMap where
  listA : List Entry
  listB : List Entry
  fences : Vector (Option Fence) 4
  deriving DecidableEq, Repr

/-! ### Head Slots (Chapter 4) -/

/-- A rivet (R104). -/
structure Rivet where
  serial : BitVec 16
  cls : RivetClass
  heatOut : Clock
  deriving DecidableEq, Repr

/-- The set phase of a setting head's HOLE grant, with the rivet and the ram age that are present in
it (R62). -/
inductive SetPhase where
  | unfed
  | feedWait
  | fed (rivet : Rivet)
  | rammed (rivet : Rivet) (ramAge : Nat)
  deriving DecidableEq, Repr

/-- The grant record of a HOLE grant; the phase is present for a setting head (R62). -/
structure HoleGrant where
  hole : Nat
  x : Int
  y : Int
  d : Int
  bay : Nat
  p0 : Int
  limit : Nat
  phase : Option SetPhase
  deriving DecidableEq, Repr

/-- The grant record of a MOVE grant (R62). -/
structure MoveGrant where
  x : Int
  p0 : Int
  limit : Nat
  deriving DecidableEq, Repr

/-- The state of an attached head, with the grant record that is present in TRAVEL and WORK (R61).
Only a HOLE grant reaches WORK (R73). -/
inductive HeadStatus where
  | idle
  | travelHole (grant : HoleGrant)
  | travelMove (grant : MoveGrant)
  | work (grant : HoleGrant)
  | halted
  | stale
  | faulted
  deriving DecidableEq, Repr

/-- The last hold of a head (R61). -/
structure LastHold where
  hole : Nat
  cls : DevClass
  time : Clock
  deriving DecidableEq, Repr

/-- The record of an attached head; a DETACHED slot has none (R61). -/
structure Head where
  kind : HeadKind
  rail : Rail
  clearance : Int
  position : Int
  status : HeadStatus
  lastHold : Option LastHold
  deriving DecidableEq, Repr

/-- The seven head states as R179 lists them. -/
inductive HeadState where
  | detached
  | idle
  | travel
  | work
  | halted
  | stale
  | faulted
  deriving DecidableEq, Repr

/-! ### Motion Timers (Chapter 5) -/

/-- The mode of a timer that is not STOPPED (R90). -/
inductive TimerStage where
  | travel
  | work
  deriving DecidableEq, Repr

/-- A motion timer record (R90). -/
inductive MotionTimer where
  | stopped
  | counting (stage : TimerStage) (limit : Nat) (count : Nat)
  deriving DecidableEq, Repr

/-! ### Heat Queue (Chapter 6) -/

/-- The record of the tray and its surroundings (R103). -/
structure HeatQueue where
  queue : List Rivet
  chute : Option Rivet
  overrun : Bool
  serialCounter : BitVec 16
  waiting : List Slot
  fullMark : Bool
  accepted : Nat
  scrapped : Nat
  deriving DecidableEq, Repr

/-! ### Deviation Unit (Chapter 7) -/

/-- The first-deviation record (R128). -/
structure FirstDeviation where
  cls : DevClass
  frame : Option (BitVec 32)
  hole : Option Nat
  head : Option Slot
  time : Clock
  detailA : Int
  detailB : Int
  deriving DecidableEq, Repr

/-- The record of the Deviation Unit, indexed by class number less one (R124). -/
structure DeviationUnit where
  modes : Vector DevMode 10
  flags : Vector Bool 10
  first : Option FirstDeviation
  deriving DecidableEq, Repr

/-! ### Completion Log (Chapter 8) -/

/-- The event of a log record with the fields present for it (R137). The record of a hold at a HOLDING
THERMAL_LIMIT carries the clamped D beside the X computed from it (R44); no other hold has one. -/
inductive LogEvent where
  | drilled (head : Slot) (x : Int) (diameter stack : Nat)
  | set (head : Slot) (x : Int) (serial : BitVec 16) (ramAge : Option Nat)
  | held (head : Slot) (x : Int) (d : Option Int) (cls : DevClass)
  | excused
  deriving DecidableEq, Repr

/-- A log record (R137). -/
structure LogRecord where
  sequence : BitVec 16
  hole : Nat
  event : LogEvent
  accepted : Bool
  time : Clock
  deriving DecidableEq, Repr

/-- The record list, oldest first, the sequence counter and the in-flight count (R137). The threshold
is the parameter LOG_THRESHOLD (R144). -/
structure CompletionLog where
  records : List LogRecord
  sequence : BitVec 16
  inFlight : Nat
  deriving DecidableEq, Repr

/-! ### Terminals (Chapter 9) -/

/-- The mode of a terminal (R147). -/
inductive TermMode where
  | disabled
  | switchIn
  | probeIn
  | out
  deriving DecidableEq, Repr

/-- The function of a terminal (R148). -/
inductive TermFunction where
  | clampBay (bay : Fin 24)
  | ram (slot : Slot)
  | lineStop
  | framePresent
  | probe
  | permit (slot : Slot)
  | heaterPause
  | railFreeze (rail : Rail)
  | attention
  | plain
  deriving DecidableEq, Repr

/-- The polarity of a terminal (R147). -/
inductive Polarity where
  | activeHigh
  | activeLow
  deriving DecidableEq, Repr

/-- The edge field of a terminal (R147). -/
inductive EdgeSelect where
  | rise
  | fall
  | both
  deriving DecidableEq, Repr

/-- A debounce candidate: the level it would become, and the reading at which it began (R147). -/
structure Candidate where
  active : Bool
  since : Clock
  deriving DecidableEq, Repr

/-- A terminal record (R147). A level is true when active. `sampledAt` is the MODEL's own: the reading
at which the terminal entered PROBE_IN or was last sampled, from which R155 counts 250 ms. -/
structure Terminal where
  mode : TermMode
  function : TermFunction
  polarity : Polarity
  edge : EdgeSelect
  pendingEnable : Bool
  pending : Bool
  latch : Bool
  level : Bool
  candidate : Option Candidate
  probeOk : Bool
  probeValue : Option Int
  lastCode : Option ProbeCode
  runCount : Nat
  sampledAt : Clock
  deriving DecidableEq, Repr

/-! ### Parameters (R178) -/

/-- The parameters of R178, each in its own unit. STALE_ACTION is true for FREEZE. -/
structure Params where
  alpha : Nat
  corrLimit : Nat
  probeHold : Nat
  clearDrill : Nat
  clearSet : Nat
  diaTol : Nat
  stackTol : Nat
  travelBaseMs : Nat
  travelSpeed : Nat
  workDrillMs : Nat
  workSetMs : Nat
  staleFreeze : Bool
  heatMin : Nat
  heatMax : Nat
  budgets : Vector Nat 6
  logThreshold : Nat
  debounceMs : Nat
  deriving DecidableEq, Repr

/-! ### Station Links (Chapter 10) -/

/-- A complete message: its kind and payload (R166). -/
structure Message where
  kind : Byte
  payload : List Byte
  deriving DecidableEq, Repr

/-- A frame under assembly: the length is absent while it is awaited (R167). -/
structure Assembly where
  kind : Byte
  length : Option Nat
  payload : List Byte
  sum : Byte
  deriving DecidableEq, Repr

/-- The result codes of R176. -/
inductive ResultCode where
  | ok
  | limited
  | held
  | given
  | wait
  | noneEligible
  | notEligible
  | badState
  | badField
  | unknownKind
  | notAttached
  | duplicate
  | overlap
  | stopped
  | frozen
  | notWorking
  | noFrame
  | thermalUnknown
  | logFull
  | logPending
  | sealFail
  | rejectedTemp
  | overrun
  deriving DecidableEq, Repr

/-- A motion timer as HEAD_QUERY reports it: a STOPPED one by its mode alone, any other with its limit,
its count and whether it is running (R90). -/
inductive TimerReport where
  | stopped
  | counting (stage : TimerStage) (limit count : Nat) (running : Bool)
  deriving DecidableEq, Repr

/-- What HEAD_QUERY reports of an attached head (R63, R60, R90, R88). -/
structure HeadReport where
  head : Head
  entry : Option Entry
  timer : TimerReport
  permit : Bool
  deriving DecidableEq, Repr

/-- What DEV_READ reports: the mode of each class and whether the supervisor may set it, the summary
flags, and the first-deviation record (R135). -/
structure DeviationReport where
  modes : Vector DevMode 10
  settable : Vector Bool 10
  flags : Vector Bool 10
  first : Option FirstDeviation
  deriving DecidableEq, Repr

/-- What HEATER_QUERY reports; each rivet with its serial, class and age in ms (R123). -/
structure HeatReport where
  queue : List (BitVec 16 × RivetClass × Nat)
  chute : Option (BitVec 16 × RivetClass × Nat)
  overrun : Bool
  fullMark : Bool
  pause : Bool
  waitingClasses : List RivetClass
  heatMin : Nat
  heatMax : Nat
  budgetsMs : Vector Nat 6
  accepted : Nat
  scrapped : Nat
  deriving DecidableEq, Repr

/-- What TERM_READ reports of one terminal (R161). A probe is reported by its status, value, last code
and run count; a candidate by its level and age. -/
structure TermReport where
  mode : TermMode
  function : TermFunction
  polarity : Polarity
  edge : EdgeSelect
  pendingEnable : Bool
  latch : Bool
  level : Bool
  pending : Bool
  candidate : Option (Bool × Nat)
  activeLevel : Option Bool
  probe : Option (Bool × Option Int × Option ProbeCode × Nat)
  deriving DecidableEq, Repr

/-- The notice kinds of R173. -/
inductive NoticeKind where
  | hold
  | feedGiven
  | portDeaf
  | attention
  | deviation
  | terminal
  | headState
  deriving DecidableEq, Repr

/-- What page PORTS reports of one port (R164, R177). -/
structure PortReport where
  assembling : Bool
  deaf : Bool
  inBreak : Bool
  receiveCount : Nat
  transmitCount : Nat
  notices : List NoticeKind
  errors : Nat
  deriving DecidableEq, Repr

/-- What page SEGMENTS reports of one segment: status code of R179, value used, hold age (R35). -/
structure SegmentReport where
  status : Fin 4
  value : Option Int
  holdAge : Option Nat
  deriving DecidableEq, Repr

/-- The pages of LINE_QUERY (R177). -/
inductive LinePage where
  | frame (state : FrameState) (header : Option PlanHeader) (jd : Option Int)
      (counters : FrameCounters) (clock : Clock)
  | segments (list : List SegmentReport)
  | rail (rail : Rail) (entries : List Entry)
  | line (clock : Clock) (lineStop staleFreeze frozenA : Bool) (freezingA : List Slot)
      (frozenB : Bool) (freezingB : List Slot) (fences : Vector (Option Fence) 4)
      (flags : Vector Bool 10) (attention : Bool)
  | heat (report : HeatReport) (waiting : List Slot)
  | log (count inFlight headroom threshold : Nat) (condition : Bool) (sequence : BitVec 16)
      (oldest : Option (BitVec 16))
  | ports (list : List PortReport)
  deriving DecidableEq, Repr

/-- The fields a REPLY carries after its three header bytes (R172). -/
inductive ReplyFields where
  | none
  | clearance (c : Int)
  | blockedBy (owner : Owner)
  | heldHole (hole : Nat)
  | holeGranted (hole : Nat) (x y d : Int) (cls : RivetClass) (stackNom bay limit : Nat)
  | moveGranted (x : Int) (limit : Nat)
  | arrivalHeld (hole : Nat) (cls : DevClass)
  | drillJudged (diaFlag stackFlag : ReportFlag) (hole : Nat) (heldClass : Option DevClass)
  | rivetGiven (serial : BitVec 16) (cls : RivetClass) (age : Nat)
  | sealFailed (table : Nat) (index : Nat)
  | planRecords (records : List (Nat × Option Hole))
  | headRecord (state : HeadState) (report : Option HeadReport)
  | modeInForce (mode : DevMode)
  | flagsLeft (flags : Vector Bool 10) (firstPresent : Bool)
  | deviations (report : DeviationReport)
  | logRecords (records : List LogRecord) (remaining : Nat)
  | parameter (id : Byte) (value : Int)
  | terminalSet (set : List TermId)
  | terminalRecord (report : TermReport)
  | discarded (count : Nat)
  | page (page : LinePage)
  | rivetSerial (serial : Option (BitVec 16))
  | heater (report : HeatReport)
  deriving DecidableEq, Repr

/-- A reply: result code, subcode and fields (R172, R176). -/
structure Reply where
  code : ResultCode
  subcode : Nat
  fields : ReplyFields
  deriving DecidableEq, Repr

/-- A notice as built at its sending (R174). -/
inductive Notice where
  | hold (slot : Slot) (state : HeadState) (lastHold : Option LastHold)
  | feedGiven (slot : Slot) (hole : Nat) (rivet : Option (BitVec 16 × RivetClass × Nat))
  | portDeaf (port : PortId) (deaf : Bool) (errors : Nat)
  | deafPorts (deaf : Vector Bool 10) (errors : Vector Nat 10)
  | attention (count threshold inFlight : Nat) (oldest : Option (BitVec 16)) (sequence : BitVec 16)
  | deviation (flags : Vector Bool 10) (first : Option FirstDeviation)
  | terminal (pending active : List TermId)
  | headState (states : Vector HeadState 8)
  deriving DecidableEq, Repr

/-- A frame of a transmit queue: a REPLY with the kind it echoes, or a notice (R172, R173). -/
inductive TxFrame where
  | reply (kind : Byte) (reply : Reply)
  | notice (notice : Notice)
  deriving DecidableEq, Repr

/-- A port record (R164). `assembly` is absent in HUNT. `waiting` is the complete message that waits in
the assembly buffer (R169). `lowFor` is the line watch: absent when the line stands high, else how long
it has stood low. `gapFor` is the time since the last arrival while the gap is armed (R168). `sendingFor`
is the time since the first character of the oldest frame went out, absent before that, and `idleFor`
the time the transmit line has been idle (R165). Times are in units of 1/576 000 s (log entry 1). -/
structure Port where
  assembly : Option Assembly
  waiting : Option Message
  receiveQueue : List Message
  deaf : Bool
  lowFor : Option Nat
  inBreak : Bool
  transmitQueue : List TxFrame
  notices : List NoticeKind
  errors : Nat
  gapFor : Option Nat
  sendingFor : Option Nat
  idleFor : Nat
  deriving DecidableEq, Repr

/-- The whole machine. `inReset` is set while RESET_N is held low (R163). `subMs` is the MODEL's own:
units of 1/576 000 s since the last advance of the line clock. `pinHigh` is the level the outside world
holds on each terminal pin. `pending` is the queue of commands that wait, oldest first. -/
structure State where
  inReset : Bool
  clock : Clock
  subMs : Nat
  params : Params
  plan : PlanStore
  thermal : List Segment
  rails : RailMap
  heads : Vector (Option Head) 8
  timers : Vector MotionTimer 8
  freezeA : Bool
  freezeB : Bool
  heat : HeatQueue
  dev : DeviationUnit
  log : CompletionLog
  terminals : Vector Terminal 40
  ports : Vector Port 10
  pinHigh : Vector Bool 40
  pending : List Instr
  deriving DecidableEq, Repr

/-! ### Reset values -/

/-- The defaults of R178. -/
def Params.defaults : Params where
  alpha := 1150
  corrLimit := 2000
  probeHold := 30
  clearDrill := 60000
  clearSet := 45000
  diaTol := 30
  stackTol := 100
  travelBaseMs := 4000
  travelSpeed := 200
  workDrillMs := 90000
  workSetMs := 30000
  staleFreeze := false
  heatMin := 1000
  heatMax := 1150
  budgets := ⟨#[250, 320, 360, 400, 460, 520], rfl⟩
  logThreshold := 16
  debounceMs := 20

/-- Every per-frame counter at 0 (R22). -/
def FrameCounters.zero : FrameCounters where
  segsLoaded := 0
  baysLoaded := 0
  holesLoaded := 0
  stateCounts := Vector.replicate 7 0
  holdEntries := 0
  redoCount := 0
  acceptCount := 0
  datumCount := 0

/-- The Plan Store of an EMPTY frame (R1). -/
def PlanStore.empty : PlanStore where
  state := .empty
  header := none
  jd := none
  holes := []
  joints := []
  segments := []
  bays := []
  counters := FrameCounters.zero

/-- The Rail Map at power-on (R45, R57). -/
def RailMap.empty : RailMap where
  listA := []
  listB := []
  fences := Vector.replicate 4 none

/-- The Heat Queue at power-on (R103). -/
def HeatQueue.empty : HeatQueue where
  queue := []
  chute := none
  overrun := false
  serialCounter := 0
  waiting := []
  fullMark := false
  accepted := 0
  scrapped := 0

/-- The default modes of R125. -/
def DeviationUnit.defaults : DeviationUnit where
  modes := ⟨#[.holding, .noting, .holding, .holding, .holding, .holding, .holding, .noting, .noting,
    .noting], rfl⟩
  flags := Vector.replicate 10 false
  first := none

/-- The Completion Log at power-on (R137). -/
def CompletionLog.empty : CompletionLog where
  records := []
  sequence := 0
  inFlight := 0

/-- A terminal at power-on (R147). -/
def Terminal.powerOn : Terminal where
  mode := .disabled
  function := .plain
  polarity := .activeHigh
  edge := .rise
  pendingEnable := false
  pending := false
  latch := false
  level := false
  candidate := none
  probeOk := false
  probeValue := none
  lastCode := none
  runCount := 0
  sampledAt := 0

/-- A port at power-on, its receive line at rest (R164). -/
def Port.powerOn : Port where
  assembly := none
  waiting := none
  receiveQueue := []
  deaf := false
  lowFor := none
  inBreak := false
  transmitQueue := []
  notices := []
  errors := 0
  gapFor := none
  sendingFor := none
  idleFor := 0

/-- The machine right after reset: every block at the power-on values its chapter gives (R163). The
pins stand low and the receive lines stand high (log entries 3 and 4), and no command waits. -/
def State.reset : State where
  inReset := false
  clock := 0
  subMs := 0
  params := Params.defaults
  plan := PlanStore.empty
  thermal := []
  rails := RailMap.empty
  heads := Vector.replicate 8 none
  timers := Vector.replicate 8 .stopped
  freezeA := false
  freezeB := false
  heat := HeatQueue.empty
  dev := DeviationUnit.defaults
  log := CompletionLog.empty
  terminals := Vector.replicate 40 Terminal.powerOn
  ports := Vector.replicate 10 Port.powerOn
  pinHigh := Vector.replicate 40 false
  pending := []

end Sys2Proof.Machine
end

