-- ==== Sys2Proof/Machine/Operands.lean ====
section
/-! DEFINITION. The operands of the messages: fields read from a payload, least significant byte first
(R179), the codes of the enumerated fields, and the number codes the coordinator sends. -/

namespace Sys2Proof.Machine

/-! ### Fields of a payload -/

/-- The byte at an offset, as a number. -/
def u8At (payload : List Byte) (i : Nat) : Nat := (payload.getD i 0).toNat

/-- The 2-byte unsigned field at an offset (R179). -/
def u16At (payload : List Byte) (i : Nat) : Nat := u8At payload i + 256 * u8At payload (i + 1)

/-- The 4-byte field at an offset, as 32 bits (R179). -/
def word32At (payload : List Byte) (i : Nat) : BitVec 32 :=
  BitVec.ofNat 32 (u16At payload i + 65536 * u16At payload (i + 2))

/-- The 4-byte signed field at an offset, two's complement (R179). -/
def i32At (payload : List Byte) (i : Nat) : Int := (word32At payload i).toInt

/-- A field with a code below n, as an index; a code not listed is out of range (R179). -/
def indexAt (n : Nat) (payload : List Byte) (i : Nat) : Option (Fin n) :=
  if h : u8At payload i < n then some ⟨u8At payload i, h⟩ else none

/-! ### Ranges -/

/-- A position within the jig range 0 to 2 000 000, both ends included (section 0.5.1). -/
def inJig (x : Int) : Bool := decide (0 ≤ x) && decide (x ≤ Config.jigMax)

/-- A number within a range, both ends included (section 0.5.7). -/
def inRange (lo hi n : Nat) : Bool := decide (lo ≤ n) && decide (n ≤ hi)

/-! ### Received codes (R179); an undefined code gives nothing -/

def railOfCode : Nat → Option Rail
  | 0 => some .A
  | 1 => some .B
  | _ => none

def fenceRailsOfCode : Nat → Option FenceRails
  | 0 => some .onlyA
  | 1 => some .onlyB
  | 2 => some .both
  | _ => none

def headKindOfCode : Nat → Option HeadKind
  | 0 => some .drill
  | 1 => some .set
  | _ => none

def devModeOfCode : Nat → Option DevMode
  | 0 => some .noting
  | 1 => some .holding
  | _ => none

def termModeOfCode : Nat → Option TermMode
  | 0 => some .disabled
  | 1 => some .switchIn
  | 2 => some .probeIn
  | 3 => some .out
  | _ => none

def polarityOfCode : Nat → Option Polarity
  | 0 => some .activeHigh
  | 1 => some .activeLow
  | _ => none

def edgeOfCode : Nat → Option EdgeSelect
  | 0 => some .rise
  | 1 => some .fall
  | 2 => some .both
  | _ => none

/-- The function codes: CLAMP_BAY_b 0x00 + b, RAM_h 0x20 + h, PERMIT_h 0x40 + h and the single ones
(R179). -/
def functionOfCode (c : Nat) : Option TermFunction :=
  if h : c < 24 then some (.clampBay ⟨c, h⟩)
  else if h : 0x20 ≤ c ∧ c < 0x28 then some (.ram ⟨c - 0x20, by omega⟩)
  else if c = 0x30 then some .lineStop
  else if c = 0x31 then some .framePresent
  else if c = 0x38 then some .probe
  else if h : 0x40 ≤ c ∧ c < 0x48 then some (.permit ⟨c - 0x40, by omega⟩)
  else if c = 0x48 then some .heaterPause
  else if c = 0x49 then some (.railFreeze .A)
  else if c = 0x4A then some (.railFreeze .B)
  else if c = 0x4B then some .attention
  else if c = 0x7F then some .plain
  else none

/-- The classes in class-number order (R125). -/
def allClasses : List DevClass :=
  [.diaOut, .stackOut, .clampLost, .coldSet, .noRam, .workTimeout, .linkBreak, .thermalLimit,
   .probeSubst, .heatWindow]

/-- The classes as a row, the class of number c at place c - 1 (R125). -/
def classRow : Vector DevClass 10 := ⟨allClasses.toArray, rfl⟩

/-- The place of a class in the records indexed by class: its number less one (R125). -/
def DevClass.index : DevClass → Fin 10
  | .diaOut => 0
  | .stackOut => 1
  | .clampLost => 2
  | .coldSet => 3
  | .noRam => 4
  | .workTimeout => 5
  | .linkBreak => 6
  | .thermalLimit => 7
  | .probeSubst => 8
  | .heatWindow => 9

/-- The class number, which is also the class's code (R125). -/
def DevClass.number (c : DevClass) : Nat := c.index.val + 1

/-- A class code 1 to 10 (R179). -/
def devClassOfCode (n : Nat) : Option DevClass := allClasses.find? (fun c => c.number == n)

/-- A rivet class 1 to 6 (R107, section 1.4). -/
def rivetClassOfCode (n : Nat) : Option RivetClass :=
  if h : 1 ≤ n ∧ n ≤ 6 then some ⟨n - 1, by omega⟩ else none

/-- A bit value 0 or 1 (R154). -/
def bitOfCode : Nat → Option Bool
  | 0 => some false
  | 1 => some true
  | _ => none

/-- The classes of a 2-byte set: bit c - 1 for class c; none when a bit 10 to 15 is set (R179). -/
def classSetOfCode (n : Nat) : Option (List DevClass) :=
  if n < 1024 then some (allClasses.filter (fun c => n.testBit c.index.val)) else none

/-- The terminals a TERM_ACK names; none when one of its numbers is above 39 (R154, R175). -/
def terminalsNamed : List Byte → Option (List TermId)
  | [] => some []
  | b :: rest =>
    if h : b.toNat < 40 then (terminalsNamed rest).map (fun ts => ⟨b.toNat, h⟩ :: ts) else none

/-! ### Codes the coordinator sends (R179) -/

def Rail.code : Rail → Nat
  | .A => 0
  | .B => 1

/-- The rails of a fence (R179). -/
def FenceRails.code : FenceRails → Nat
  | .onlyA => 0
  | .onlyB => 1
  | .both => 2

def FrameState.code : FrameState → Nat
  | .empty => 0
  | .loading => 1
  | .ready => 2
  | .working => 3
  | .complete => 4

/-- The code of a hole state, by which the state counts are indexed (R22, R179). -/
def HoleState.code : HoleState → Fin 7
  | .planned => 0
  | .drilling => 1
  | .drilled => 2
  | .setting => 3
  | .set => 4
  | .held => 5
  | .excused => 6

def HeadKind.code : HeadKind → Nat
  | .drill => 0
  | .set => 1

def HeadState.code : HeadState → Nat
  | .detached => 0
  | .idle => 1
  | .travel => 2
  | .work => 3
  | .halted => 4
  | .stale => 5
  | .faulted => 6

def ReportFlag.code : ReportFlag → Nat
  | .below => 0
  | .within => 1
  | .above => 2

def DevMode.code : DevMode → Nat
  | .noting => 0
  | .holding => 1

/-- The result codes of R176. -/
def ResultCode.code : ResultCode → Nat
  | .ok => 0x00
  | .limited => 0x01
  | .held => 0x02
  | .given => 0x03
  | .wait => 0x04
  | .noneEligible => 0x05
  | .notEligible => 0x10
  | .badState => 0x11
  | .badField => 0x12
  | .unknownKind => 0x13
  | .notAttached => 0x14
  | .duplicate => 0x15
  | .overlap => 0x16
  | .stopped => 0x17
  | .frozen => 0x18
  | .notWorking => 0x19
  | .noFrame => 0x1A
  | .thermalUnknown => 0x1B
  | .logFull => 0x1C
  | .logPending => 0x1D
  | .sealFail => 0x1E
  | .rejectedTemp => 0x1F
  | .overrun => 0x20

/-- The hole state of the work a held hole was stopped in, by whose code held_from is sent (section 1.4). -/
def Work.holeState : Work → HoleState
  | .drilling => .drilling
  | .setting => .setting

/-- The code of a set phase (R179). -/
def SetPhase.code : SetPhase → Nat
  | .unfed => 0
  | .feedWait => 1
  | .fed _ => 2
  | .rammed _ _ => 3

/-- The code of a grant's kind, absent for a head that holds none (R179). -/
def HeadStatus.grantCode : HeadStatus → Option Nat
  | .travelHole _ => some 0
  | .work _ => some 0
  | .travelMove _ => some 1
  | _ => none

/-- The code of an entry's shape (R179). -/
def Shape.code : Shape → Nat
  | .footprint => 0
  | .hull => 1
  | .fence => 2

/-- The code of a timer's mode (R179). -/
def TimerReport.modeCode : TimerReport → Nat
  | .stopped => 0
  | .counting .travel _ _ _ => 1
  | .counting .work _ _ _ => 2

def TermMode.code : TermMode → Nat
  | .disabled => 0
  | .switchIn => 1
  | .probeIn => 2
  | .out => 3

def Polarity.code : Polarity → Nat
  | .activeHigh => 0
  | .activeLow => 1

def EdgeSelect.code : EdgeSelect → Nat
  | .rise => 0
  | .fall => 1
  | .both => 2

/-- The function codes, as functionOfCode reads them (R179). -/
def TermFunction.code : TermFunction → Nat
  | .clampBay b => b.val
  | .ram h => 0x20 + h.val
  | .lineStop => 0x30
  | .framePresent => 0x31
  | .probe => 0x38
  | .permit h => 0x40 + h.val
  | .heaterPause => 0x48
  | .railFreeze .A => 0x49
  | .railFreeze .B => 0x4A
  | .attention => 0x4B
  | .plain => 0x7F

/-- The code of a probe status, OK or FAULTED (R179). -/
def probeStatusCode (ok : Bool) : Nat := if ok then 0 else 1

/-- The owner kind of an entry (R179). -/
def Owner.kindCode : Owner → Nat
  | .head _ => 0
  | .fence _ => 1

/-- The number of an entry's owner (R45). -/
def Owner.number : Owner → Nat
  | .head h => h.val
  | .fence f => f.val

/-! ### Parameters (R178) -/

/-- The numeric parameters of R178 by id, with their ranges. -/
def paramRange : Nat → Option (Nat × Nat)
  | 1 => some (0, 2000)
  | 2 => some (0, 5000)
  | 3 => some (0, 600)
  | 4 => some (10000, 150000)
  | 5 => some (10000, 150000)
  | 6 => some (0, 100)
  | 7 => some (0, 500)
  | 8 => some (0, 60000)
  | 9 => some (10, 1000)
  | 10 => some (1000, 600000)
  | 11 => some (1000, 600000)
  | 12 => some (0, 1)
  | 13 => some (600, 1300)
  | 14 => some (600, 1300)
  | 15 => some (50, 1200)
  | 16 => some (50, 1200)
  | 17 => some (50, 1200)
  | 18 => some (50, 1200)
  | 19 => some (50, 1200)
  | 20 => some (50, 1200)
  | 22 => some (0, 255)
  | _ => none

/-- A written value saturated to a range; a negative value stands below every range (R178). -/
def saturate (lo hi : Nat) (v : Int) : Nat := min hi (max lo v.toNat)

/-- The reply code of a saturated write: LIMITED when the value lay outside the range (R178). -/
def limitedCode (v : Int) (stored : Nat) : ResultCode :=
  if v = (stored : Int) then .ok else .limited

/-- LOG_THRESHOLD rounded up to 1, 16, 48 or 64, and to 64 above it (R144). -/
def roundThreshold (v : Int) : Nat :=
  if v ≤ 1 then 1 else if v ≤ 16 then 16 else if v ≤ 48 then 48 else 64

/-- The ids whose write has a behaviour of its own, each with a command of its own (R178). -/
def ownWriteIds : List Nat := [3, 12, 13, 14, 15, 16, 17, 18, 19, 20, 21, 22]

/-- The payload writes a parameter with one of the ids given (R175, R178). -/
def writesOneOf (ids : List Nat) (payload : List Byte) : Bool :=
  payload.length == 5 && ids.contains (u8At payload 0)

/-- The payload is a HOLE_RELEASE with action ACCEPT (R18, R175). -/
def releasesAccept (payload : List Byte) : Bool :=
  payload.length == 3 && u8At payload 2 == 1

end Sys2Proof.Machine
end

