-- ==== Sys2Proof/Machine/Flags.lean ====
section
/-! DEFINITION. The signals and flags the blocks compose, each computed afresh from the state (R88,
R94, R100, R119, R120, R148, R158, R159), the report flags of R74, and the ages of section 0.5.3. -/

namespace Sys2Proof.Machine

/-- An age: the later reading less the earlier, modulo 2^32 (R89). -/
def age (now since : Clock) : Nat := (now - since).toNat

/-- A list of every index below n, ascending. -/
def indices (n : Nat) : List (Fin n) := List.finRange n

/-! ### Terminals -/

/-- The physical level of a pin read through a polarity: true when active (R151). -/
def activeThrough (polarity : Polarity) (high : Bool) : Bool :=
  match polarity with
  | .activeHigh => high
  | .activeLow => !high

/-- The function stands on some terminal, whatever its mode (R148). -/
def State.stands (s : State) (f : TermFunction) : Bool :=
  s.terminals.toList.any (fun t => t.function == f)

/-- The function signal of an input function (R148). -/
def State.functionSignal (s : State) (f : TermFunction) : Bool :=
  s.terminals.toList.any (fun t => t.function == f && t.mode == .switchIn && t.level)

/-- The line-stop signal (R160). -/
def State.lineStop (s : State) : Bool := s.functionSignal .lineStop

/-- The CLAMP_BAY_b signal of a bay number (R66). -/
def State.clampActive (s : State) (bay : Nat) : Bool :=
  if h : bay < 24 then s.functionSignal (.clampBay ⟨bay, h⟩) else false

/-- A mode and a function that fit each other (R148). A DISABLED terminal may hold any function. -/
def functionFits (mode : TermMode) (f : TermFunction) : Bool :=
  match mode, f with
  | .disabled, _ => true
  | .switchIn, .clampBay _ => true
  | .switchIn, .ram _ => true
  | .switchIn, .lineStop => true
  | .switchIn, .framePresent => true
  | .switchIn, .plain => true
  | .probeIn, .probe => true
  | .out, .permit _ => true
  | .out, .heaterPause => true
  | .out, .railFreeze _ => true
  | .out, .attention => true
  | .out, .plain => true
  | _, _ => false

/-- An accepted edge is selected by the edge field (R153). -/
def edgeSelected (e : EdgeSelect) (toActive : Bool) : Bool :=
  match e with
  | .rise => toActive
  | .fall => !toActive
  | .both => true

/-! ### Heads, permits and timers -/

/-- The head state of a slot (R61). -/
def headStateOf : Option Head → HeadState
  | none => .detached
  | some hd =>
    match hd.status with
    | .idle => .idle
    | .travelHole _ => .travel
    | .travelMove _ => .travel
    | .work _ => .work
    | .halted => .halted
    | .stale => .stale
    | .faulted => .faulted

/-- A head that holds a grant record, of either kind (R9, R24). -/
def HeadStatus.hasGrant : HeadStatus → Bool
  | .travelHole _ => true
  | .travelMove _ => true
  | .work _ => true
  | _ => false

/-- A head that is HALTED, STALE or FAULTED (R87). -/
def HeadStatus.inTrouble : HeadStatus → Bool
  | .halted => true
  | .stale => true
  | .faulted => true
  | _ => false

/-- A head that freezes its rail under FREEZE: STALE or FAULTED (R100). -/
def HeadStatus.freezes : HeadStatus → Bool
  | .stale => true
  | .faulted => true
  | _ => false

/-- The grant record of a HOLE grant, if the head holds one (R62). -/
def HeadStatus.holeGrant : HeadStatus → Option HoleGrant
  | .travelHole g => some g
  | .work g => some g
  | _ => none

/-- Whether a rail is frozen (R100). -/
def State.frozen (s : State) : Rail → Bool
  | .A => s.freezeA
  | .B => s.freezeB

/-- The slots on a rail that are STALE or FAULTED, ascending (R100, R102). -/
def State.freezingSlots (s : State) (r : Rail) : List Slot :=
  (indices 8).filter (fun h =>
    match s.heads[h] with
    | some hd => hd.rail == r && hd.status.freezes
    | none => false)

/-- The permit signal of a slot: TRAVEL or WORK, no line stop, rail not frozen (R88). -/
def State.permit (s : State) (h : Slot) : Bool :=
  match s.heads[h] with
  | some hd => hd.status.hasGrant && !s.lineStop && !s.frozen hd.rail
  | none => false

/-- The set phase of the head is FEED_WAIT (R94). -/
def Head.inFeedWait (hd : Head) : Bool :=
  match hd.status with
  | .work g => g.phase == some .feedWait
  | .travelHole g => g.phase == some .feedWait
  | _ => false

/-- Whether a slot's timer runs (R94). -/
def State.timerRunning (s : State) (h : Slot) : Bool :=
  match s.timers[h] with
  | .stopped => false
  | .counting _ _ _ =>
    s.permit h &&
      match s.heads[h] with
      | some hd => !hd.inFeedWait
      | none => false

/-! ### Heat Queue -/

/-- The full mark after the queue count has become n (R120). -/
def fullMarkAfter (mark : Bool) (n : Nat) : Bool :=
  if Config.queueCapacity ≤ n then true else if n ≤ 4 then false else mark

/-- The HEATER_PAUSE signal (R119). -/
def State.heaterPause (s : State) : Bool :=
  s.heat.fullMark || s.heat.overrun || s.lineStop ||
    (s.dev.modes[DevClass.heatWindow.index] == .holding
      && s.dev.flags[DevClass.heatWindow.index])

/-! ### Attention -/

/-- The log's attention condition (R145). -/
def State.logAttention (s : State) : Bool :=
  decide (s.params.logThreshold ≤ s.log.records.length)

/-- Some head is HALTED, STALE or FAULTED (R87). -/
def State.anyTrouble (s : State) : Bool :=
  s.heads.toList.any (fun o =>
    match o with
    | some hd => hd.status.inTrouble
    | none => false)

/-- Some head holds a grant record (R9, R24). -/
def State.anyGrant (s : State) : Bool :=
  s.heads.toList.any (fun o =>
    match o with
    | some hd => hd.status.hasGrant
    | none => false)

/-- The attention signal (R159). -/
def State.attention (s : State) : Bool :=
  s.logAttention || s.dev.flags.toList.any id || s.anyTrouble

/-! ### Outputs -/

/-- The active level composed for a terminal from its function's signal and its latch (R158). -/
def State.activeLevel (s : State) (t : Terminal) : Bool :=
  match t.function with
  | .permit h => s.permit h && !t.latch
  | .heaterPause => s.heaterPause || t.latch
  | .railFreeze r => s.frozen r || t.latch
  | .attention => s.attention || t.latch
  | .plain => t.latch
  | _ => false

/-- What the part drives on a terminal's pin: nothing when it is not OUT or RESET_N is low, else
whether the pin is high (R158, R163). -/
def State.pinDriven (s : State) (n : TermId) : Option Bool :=
  if s.inReset then none
  else
    match s.terminals[n].mode with
    | .out => some (activeThrough s.terminals[n].polarity (s.activeLevel s.terminals[n]))
    | _ => none

/-- Whether the part drives the transmit pins of the links; while RESET_N is low it releases them
(R163). -/
def State.transmitPinsDriven (s : State) : Bool := !s.inReset

/-! ### Report flags and log headroom -/

/-- A measured value against a nominal and a tolerance, both bounds included (R74). -/
def reportFlag (v n tol : Int) : ReportFlag :=
  if v < n - tol then .below else if n + tol < v then .above else .within

/-- The nominal hole diameter of each class (R74). -/
def nominalDiameter (c : RivetClass) : Nat :=
  match c with
  | 0 => 1750
  | 1 => 2150
  | 2 => 2350
  | 3 => 2550
  | 4 => 2850
  | 5 => 3150

/-- The heat budget of a class in ms (R106). -/
def State.budgetMs (s : State) (c : RivetClass) : Nat := s.params.budgets[c] * 100

/-- The headroom suffices for one more place (R141). -/
def State.headroomForOne (s : State) : Bool :=
  decide (s.log.records.length + s.log.inFlight + 1 ≤ Config.logCapacity)

end Sys2Proof.Machine
end

