-- ==== Sys2Proof/Machine/Ops.lean ====
section
/-! DEFINITION. The named operations over the state: one update for each table, the pending notices,
the reservation lists, the hole transitions with their counts, the log, and the raising of a deviation.
Every meaning goes through these. -/

namespace Sys2Proof.Machine

/-! ### Updates of one row of a table -/

def State.setHead (s : State) (h : Slot) (v : Option Head) : State :=
  { s with heads := s.heads.set h v }

def State.setTimer (s : State) (h : Slot) (v : MotionTimer) : State :=
  { s with timers := s.timers.set h v }

def State.setTerminal (s : State) (t : TermId) (v : Terminal) : State :=
  { s with terminals := s.terminals.set t v }

def State.setPort (s : State) (p : PortId) (v : Port) : State :=
  { s with ports := s.ports.set p v }

def State.setPin (s : State) (t : TermId) (high : Bool) : State :=
  { s with pinHigh := s.pinHigh.set t high }

def State.setParams (s : State) (v : Params) : State := { s with params := v }

def State.setPlan (s : State) (v : PlanStore) : State := { s with plan := v }

def State.setThermal (s : State) (v : List Segment) : State := { s with thermal := v }

def State.setRails (s : State) (v : RailMap) : State := { s with rails := v }

def State.setHeat (s : State) (v : HeatQueue) : State := { s with heat := v }

def State.setDev (s : State) (v : DeviationUnit) : State := { s with dev := v }

def State.setLog (s : State) (v : CompletionLog) : State := { s with log := v }

def State.setFreeze (s : State) (a b : Bool) : State := { s with freezeA := a, freezeB := b }

/-! ### Pending notices (R173) -/

/-- A kind joins a port's pending set, in which it stands at most once (R173). -/
def State.makePending (s : State) (p : PortId) (k : NoticeKind) : State :=
  if s.ports[p].notices.contains k then s
  else s.setPort p { s.ports[p] with notices := s.ports[p].notices ++ [k] }

/-- A kind leaves a port's pending set unsent (R81, R115). -/
def State.clearPending (s : State) (p : PortId) (k : NoticeKind) : State :=
  s.setPort p { s.ports[p] with notices := s.ports[p].notices.filter (fun x => !(x == k)) }

/-- The HEAD_STATE notice of R87: made pending on P8 when a head enters or leaves HALTED, STALE or
FAULTED. -/
def State.noteTrouble (s : State) (before after : HeadState) : State :=
  let trouble : HeadState → Bool := fun st => st == .halted || st == .stale || st == .faulted
  if (trouble before || trouble after) && !(before == after) then
    s.makePending supervisorPort .headState
  else s

/-! ### Reservation lists (Chapter 3) -/

/-- The reservation list of a rail. -/
def RailMap.list (m : RailMap) : Rail → List Entry
  | .A => m.listA
  | .B => m.listB

/-- The Rail Map with the list of one rail replaced. -/
def RailMap.setList (m : RailMap) (r : Rail) (l : List Entry) : RailMap :=
  match r with
  | .A => { m with listA := l }
  | .B => { m with listB := l }

/-- Two half-open intervals overlap (R46). -/
def overlaps (lo hi lo' hi' : Int) : Bool := decide (lo' < hi) && decide (lo < hi')

/-- The overlap test of a proposal: the owner of the conflicting entry of lowest lo, or CLEAR (R46). -/
def conflict (l : List Entry) (owner : Owner) (lo hi : Int) : Option Owner :=
  (l.find? (fun e => !(e.owner == owner) && overlaps lo hi e.lo e.hi)).map Entry.owner

/-- An entry in its place by lo (R45). -/
def insertEntry (e : Entry) : List Entry → List Entry
  | [] => [e]
  | x :: xs => if e.lo < x.lo then e :: x :: xs else x :: insertEntry e xs

/-- The list without an owner's entry (R56). -/
def removeOwner (owner : Owner) (l : List Entry) : List Entry :=
  l.filter (fun e => !(e.owner == owner))

/-- The owner's entry is replaced in one taking, never doubled (R53). -/
def placeEntry (e : Entry) (l : List Entry) : List Entry := insertEntry e (removeOwner e.owner l)

/-- A bound clamped to the jig (R47). -/
def clampJig (x : Int) : Int := max 0 (min Config.jigMax x)

/-- The footprint of a head at q (R47). -/
def footprint (h : Slot) (c q : Int) : Entry where
  owner := .head h
  shape := .footprint
  lo := clampJig (q - c)
  hi := clampJig (q + c)
  span := some (q, q)

/-- The hull of a travel from p to x (R47). -/
def hull (h : Slot) (c p x : Int) : Entry where
  owner := .head h
  shape := .hull
  lo := clampJig (min p x - c)
  hi := clampJig (max p x + c)
  span := some (min p x, max p x)

/-- The entry of a head on a rail (R53). -/
def RailMap.entryOf (m : RailMap) (r : Rail) (h : Slot) : Option Entry :=
  (m.list r).find? (fun e => e.owner == .head h)

/-- An entry is placed on a rail (R48, R49, R51, R54, R55). -/
def State.placeOn (s : State) (r : Rail) (e : Entry) : State :=
  s.setRails (s.rails.setList r (placeEntry e (s.rails.list r)))

/-- A head's entry is removed from its rail (R56). -/
def State.removeEntry (s : State) (r : Rail) (h : Slot) : State :=
  s.setRails (s.rails.setList r (removeOwner (.head h) (s.rails.list r)))

/-! ### The record of a hole (Chapter 1) -/

/-- The record of a loaded hole. -/
def PlanStore.hole? (p : PlanStore) (i : Nat) : Option Hole := (p.holes[i]?).join

/-- hole_count, 0 while no plan is held (R1). -/
def PlanStore.holeCount (p : PlanStore) : Nat :=
  match p.header with
  | some hd => hd.holeCount
  | none => 0

/-- SET and EXCUSED are final (section 1.4). -/
def HoleState.final : HoleState → Bool
  | .set => true
  | .excused => true
  | _ => false

/-- A count that has reached its upper limit stays there (R22). -/
def saturatingSucc (limit n : Nat) : Nat := min limit (n + 1)

/-- A Nat count goes from one state to another: the first falls by one, the second rises by one. -/
def moveCount {n : Nat} (v : Vector Nat n) (i j : Fin n) : Vector Nat n :=
  let w := v.set i (v[i] - 1)
  w.set j (w[j] + 1)

/-- A joint's counts after one of its holes went from one state to another (R20). -/
def Joint.follow (j : Joint) (tier : Tier) (before after : HoleState) : Joint :=
  { j with
    drillingCount := j.drillingCount - (if before = .drilling then 1 else 0)
      + (if after = .drilling then 1 else 0)
    settingCount := j.settingCount - (if before = .setting then 1 else 0)
      + (if after = .setting then 1 else 0)
    tierOpen := if after.final && !before.final then
        j.tierOpen.set tier (j.tierOpen[tier] - 1) else j.tierOpen }

/-- One hole's record changes, with the state counts, the joint's counts and the hold entries counter
(R11, R20, R22). -/
def PlanStore.changeHole (p : PlanStore) (i : Nat) (f : Hole → Hole) : PlanStore :=
  match p.hole? i with
  | none => p
  | some h =>
    let h' := f h
    let p' := { p with holes := p.holes.set i (some h') }
    if h'.state = h.state then p'
    else
      { p' with
        joints := p.joints.modify h.joint (fun j => j.follow h.tier h.state h'.state)
        counters :=
          { p.counters with
            stateCounts := moveCount p.counters.stateCounts h.state.code h'.state.code
            holdEntries := if h'.state = .held then
              saturatingSucc 65535 p.counters.holdEntries else p.counters.holdEntries } }

def State.changeHole (s : State) (i : Nat) (f : Hole → Hole) : State :=
  s.setPlan (s.plan.changeHole i f)

/-- A hole enters HELD: held_from says the work stopped, and grant_head is removed (R13 to R16). -/
def Hole.hold (h : Hole) (from_ : Work) (cls : DevClass) : Hole :=
  { h with state := .held, grantHead := none, heldFrom := some from_, heldClass := some cls }

/-- A hole enters a state other than HELD: held_from and held_class go, grant_head is as given (R10). -/
def Hole.goto (h : Hole) (state : HoleState) (grantHead : Option Slot) : Hole :=
  { h with state := state, grantHead := grantHead, heldFrom := none, heldClass := none }

/-- The work of a head of a kind (R15). -/
def HeadKind.work : HeadKind → Work
  | .drill => .drilling
  | .set => .setting

/-- The completion test made after a transition into SET or EXCUSED (R21). -/
def PlanStore.testComplete (p : PlanStore) : PlanStore :=
  if p.state = .working ∧
      p.counters.stateCounts[HoleState.set.code] + p.counters.stateCounts[HoleState.excused.code]
        = p.holeCount then
    { p with state := .complete }
  else p

def State.testComplete (s : State) : State := s.setPlan s.plan.testComplete

/-! ### The log (Chapter 8) -/

/-- A record joins the end of the list with the counter's number; an ATTENTION notice is made pending
when the count rises from below the threshold to the threshold (R138, R139, R145). -/
def State.writeLog (s : State) (hole : Nat) (event : LogEvent) (accepted : Bool) : State :=
  let rec_ : LogRecord :=
    { sequence := s.log.sequence, hole := hole, event := event, accepted := accepted,
      time := s.clock }
  let s' := s.setLog
    { s.log with records := s.log.records ++ [rec_], sequence := s.log.sequence + 1 }
  if s.log.records.length < s.params.logThreshold
      ∧ s.params.logThreshold ≤ s.log.records.length + 1 then
    s'.makePending supervisorPort .attention
  else s'

/-! ### Raising a deviation (Chapter 7) -/

/-- The mode of a class (R124). -/
def State.modeOf (s : State) (c : DevClass) : DevMode := s.dev.modes[c.index]

/-- A class joins a hole's marks, in which it stands at most once (R127). -/
def Hole.mark (h : Hole) (c : DevClass) : Hole :=
  if h.marks.contains c then h else { h with marks := h.marks ++ [c] }

/-- The first-deviation record is filled from a raising when it is absent (R128). -/
def State.fillFirst (s : State) (c : DevClass) (hole : Option Nat) (head : Option Slot)
    (a b : Int) : State :=
  match s.dev.first with
  | some _ => s
  | none => s.setDev
      { s.dev with
        first := some { cls := c, frame := s.plan.header.map PlanHeader.frameId, hole := hole,
                        head := head, time := s.clock, detailA := a, detailB := b } }

/-- The summary flag of a class is set; a DEVIATION notice is made pending when it was clear (R126). -/
def State.setFlag (s : State) (c : DevClass) : State :=
  let s' := s.setDev { s.dev with flags := s.dev.flags.set c.index true }
  if s.dev.flags[c.index] then s' else s'.makePending supervisorPort .deviation

/-- A raising of a class bound to a hole, by the head given: flag, mark, first record (R126). -/
def State.raiseForHole (s : State) (c : DevClass) (hole : Nat) (head : Slot) (a b : Int) : State :=
  ((s.setFlag c).changeHole hole (fun h => h.mark c)).fillFirst c (some hole) (some head) a b

/-- A raising of a class that is not bound to a hole: flag, first record (R126). -/
def State.raiseUnbound (s : State) (c : DevClass) (a b : Int) : State :=
  (s.setFlag c).fillFirst c none none a b

/-! ### Motion timers (Chapter 5) -/

/-- The travel limit of a travel from p to x (R91). -/
def travelLimit (q : Params) (p x : Int) : Nat :=
  min Config.travelLimitCap
    (q.travelBaseMs + ((x - p).natAbs * 10 + (q.travelSpeed - 1)) / q.travelSpeed)

/-- The work limit of a kind of head (R92). -/
def workLimit (q : Params) : HeadKind → Nat
  | .drill => q.workDrillMs
  | .set => q.workSetMs

/-- A timer starts at 0 in a mode with a limit (R93). -/
def State.startTimer (s : State) (h : Slot) (stage : TimerStage) (limit : Nat) : State :=
  s.setTimer h (.counting stage limit 0)

/-- A timer stops (R93). -/
def State.stopTimer (s : State) (h : Slot) : State := s.setTimer h .stopped

/-- A rail is frozen under FREEZE while a head of it is STALE or FAULTED (R99, R100, R101). -/
def State.judgeFreeze (s : State) : State :=
  s.setFreeze (s.params.staleFreeze && !(s.freezingSlots .A).isEmpty)
    (s.params.staleFreeze && !(s.freezingSlots .B).isEmpty)

/-! ### The tray (Chapter 6) -/

/-- The scrapped count rises by one, saturating (R122). -/
def HeatQueue.scrapOne (q : HeatQueue) : HeatQueue :=
  { q with scrapped := saturatingSucc 4294967295 q.scrapped }

/-- The queue after a removal: the chute rivet moves to its end, and the full mark follows (R109,
R120). -/
def HeatQueue.afterRemoval (q : HeatQueue) (left : List Rivet) : HeatQueue :=
  match q.chute with
  | some r => { q with queue := left ++ [r], chute := none,
                       fullMark := fullMarkAfter q.fullMark (left.length + 1) }
  | none => { q with queue := left, fullMark := fullMarkAfter q.fullMark left.length }

/-- The rivet a set phase holds (R62). -/
def SetPhase.rivet : SetPhase → Option Rivet
  | .fed r => some r
  | .rammed r _ => some r
  | _ => none

/-- The rivet of a grant record (R62). -/
def HoleGrant.rivet (g : HoleGrant) : Option Rivet := g.phase.bind SetPhase.rivet

/-- What the end of a setting head's grant does to the Heat Queue: the slot leaves the waiting list,
and a rivet it holds is scrapped unless it was spent (R115). -/
def HeatQueue.releaseHead (q : HeatQueue) (h : Slot) (scrap : Bool) : HeatQueue :=
  let q' := { q with waiting := q.waiting.filter (fun w => !(w == h)) }
  if scrap then q'.scrapOne else q'

/-! ### The end of a grant (R78) -/

/-- The status of a head, its other fields kept. -/
def State.setStatus (s : State) (h : Slot) (status : HeadStatus) : State :=
  match s.heads[h] with
  | none => s
  | some hd => s.setHead h (some { hd with status := status })

/-- A head's last hold becomes a hole and class (R61). -/
def State.setLastHold (s : State) (h : Slot) (hole : Nat) (cls : DevClass) : State :=
  match s.heads[h] with
  | none => s
  | some hd => s.setHead h (some { hd with lastHold := some ⟨hole, cls, s.clock⟩ })

/-- A MOVE grant ends: the timer stops, the record is removed and the head takes its status (R78). -/
def State.endMoveGrant (s : State) (h : Slot) (status : HeadStatus) : State :=
  (s.stopTimer h).setStatus h status

/-- A HOLE grant ends: the Heat Queue is told, a pending FEED_GIVEN is cleared, the in-flight count
falls, the timer stops, the record is removed and the head takes its status (R78, R115, R140). The
hole's state is the caller's. -/
def State.endHoleGrant (s : State) (h : Slot) (g : HoleGrant) (spent : Bool) (status : HeadStatus) :
    State :=
  let s1 := s.setHeat (s.heat.releaseHead h (g.rivet.isSome && !spent))
  let s2 := s1.clearPending (headPort h) .feedGiven
  let s3 := s2.setLog { s2.log with inFlight := s2.log.inFlight - 1 }
  (s3.stopTimer h).setStatus h status

/-- A HOLE grant ends with its hole held and no done report: the hole goes to HELD, the grant ends, the
hold is logged and becomes the head's last hold (R15, R78, R139). -/
def State.endWithHold (s : State) (h : Slot) (hd : Head) (g : HoleGrant) (cls : DevClass)
    (status : HeadStatus) : State :=
  let s1 := s.changeHole g.hole (fun x => x.hold hd.kind.work cls)
  let s2 := s1.endHoleGrant h g false status
  let s3 := s2.writeLog g.hole (.held h g.x none cls) false
  s3.setLastHold h g.hole cls

/-! ### Clamp drops (R80) -/

/-- One head is judged by a clamp drop: CLAMP_LOST is raised for it, and under HOLDING it is withdrawn
with a HOLD notice (R80, R81). -/
def State.judgeDrop (s : State) (bay : Nat) (h : Slot) : State :=
  match s.heads[h] with
  | none => s
  | some hd =>
    match hd.status with
    | .work g =>
      if g.bay = bay then
        let s1 := s.raiseForHole .clampLost g.hole h g.bay 0
        match s1.modeOf .clampLost with
        | .noting => s1
        | .holding =>
          (s1.endWithHold h hd g .clampLost .idle).makePending (headPort h) .hold
      else s
    | _ => s

/-- A clamp drop judges every head in WORK on the bay, in ascending slot (R80). -/
def State.clampDrop (s : State) (bay : Nat) : State :=
  (indices 8).foldl (fun acc h => acc.judgeDrop bay h) s

end Sys2Proof.Machine
end

