-- ==== Sys2Proof/Machine/Layout.lean ====
section
/-! DEFINITION. The bytes of the frames the coordinator sends: the layouts of R174, R179 and R180, the
check of R166, and the time a frame takes on the line (R165). -/

namespace Sys2Proof.Machine

/-- A number in n bytes, least significant first (R179). -/
def leBytes : Nat → Nat → List Byte
  | 0, _ => []
  | n + 1, v => BitVec.ofNat 8 v :: leBytes n (v / 256)

/-- A signed number in n bytes, two's complement (R179). -/
def leInt (n : Nat) (v : Int) : List Byte := leBytes n (v % ((256 ^ n : Nat) : Int)).toNat

/-- An optional field: its presence byte, and zeros for its bytes when it is absent (R179). -/
def optBytes {α : Type} (width : Nat) (encode : α → List Byte) : Option α → List Byte
  | some v => 1 :: encode v
  | none => 0 :: List.replicate width 0

/-- A number in the free width of its field (log entry 2). -/
def openNat (field : OpenField) (v : Nat) : List Byte := leBytes (Config.openWidth field) v

/-- A signed number in the free width of its field (log entry 2). -/
def openInt (field : OpenField) (v : Int) : List Byte := leInt (Config.openWidth field) v

/-- An optional field of a free width with its presence byte (R179, log entry 2). -/
def optOpen {α : Type} (field : OpenField) (encode : α → List Byte) : Option α → List Byte :=
  optBytes (Config.openWidth field) encode

/-- The notice kinds, in the order of the table of R174. -/
def allNoticeKinds : List NoticeKind :=
  [.hold, .feedGiven, .portDeaf, .attention, .deviation, .terminal, .headState]

/-- A level, a signal or a flag as a byte, 1 for active, set or yes. For the codes 0 and 1 of `accepted`
(R180), of pending, pending enable and latch (R147) this is the manual's; for the others it is a DESIGN CHOICE,
log entry 26. -/
def flagByte (b : Bool) : Byte := if b then 1 else 0

/-- A set of indices as a number, bit i for index i (R179). -/
def setBits {n : Nat} (set : List (Fin n)) : Nat :=
  (List.range n).foldl (fun acc i => if set.any (fun x => x.val == i) then acc + 2 ^ i else acc) 0

/-- A row of flags as a number, bit i for place i (R179). -/
def rowBits {n : Nat} (v : Vector Bool n) : Nat :=
  (List.range n).foldl (fun acc i => if v.toList.getD i false then acc + 2 ^ i else acc) 0

/-- The number of a rivet class (R106). -/
def classNumber (c : RivetClass) : Nat := c.val + 1

/-- A rivet with its age: serial, class, age in ms (R174). -/
def rivetBytes (r : BitVec 16 × RivetClass × Nat) : List Byte :=
  leBytes 2 r.1.toNat ++ leBytes 1 (classNumber r.2.1) ++ leBytes 4 r.2.2

/-- The first-deviation record after its presence byte (R179). -/
def firstDeviationBytes (f : FirstDeviation) : List Byte :=
  leBytes 1 f.cls.number
    ++ optBytes 4 (fun v : BitVec 32 => leBytes 4 v.toNat) f.frame
    ++ optBytes 2 (leBytes 2) f.hole
    ++ optBytes 1 (fun h : Slot => leBytes 1 h.val) f.head
    ++ leBytes 4 f.time.toNat ++ leInt 4 f.detailA ++ leInt 4 f.detailB

/-- The event code, head, target X and event area of a log record (R180). -/
def LogEvent.code : LogEvent → Nat
  | .drilled _ _ _ _ => 0
  | .set _ _ _ _ => 1
  | .held _ _ _ _ => 2
  | .excused => 3

def LogEvent.head : LogEvent → Option Slot
  | .drilled h _ _ _ => some h
  | .set h _ _ _ => some h
  | .held h _ _ _ => some h
  | .excused => none

def LogEvent.x : LogEvent → Option Int
  | .drilled _ x _ _ => some x
  | .set _ x _ _ => some x
  | .held _ x _ _ => some x
  | .excused => none

/-- The 7 bytes of the event area, the unused ones zero; a HELD event's D has no place there (R180, log
entry 13). -/
def LogEvent.area : LogEvent → List Byte
  | .drilled _ _ diameter stack => leBytes 2 diameter ++ leBytes 2 stack ++ List.replicate 3 0
  | .set _ _ serial ramAge => leBytes 2 serial.toNat ++ optBytes 4 (leBytes 4) ramAge
  | .held _ _ _ cls => leBytes 1 cls.number ++ List.replicate 6 0
  | .excused => List.replicate 7 0

/-- The 24 bytes of a log record (R180). -/
def LogRecord.bytes (r : LogRecord) : List Byte :=
  leBytes 2 r.sequence.toNat ++ leBytes 2 r.hole ++ leBytes 1 r.event.code
    ++ [flagByte r.accepted]
    ++ optBytes 1 (fun h : Slot => leBytes 1 h.val) r.event.head
    ++ leBytes 4 r.time.toNat
    ++ optBytes 4 (leInt 4) r.event.x
    ++ r.event.area

/-! ### The records the queries report, in the order of their rules (log entry 11) -/

/-- The code of a deviation class as an optional field (R179). -/
def classBytes (c : DevClass) : List Byte := leBytes 1 c.number

/-- The static fields of a hole, in the order of section 1.4. -/
def Hole.staticBytes (h : Hole) : List Byte :=
  leBytes 1 h.joint ++ leBytes 1 h.tier.val ++ leBytes 1 h.rail.code ++ leInt 4 h.xNom
    ++ leInt 4 h.yNom ++ leBytes 1 (classNumber h.cls) ++ leBytes 2 h.stackNom

/-- The 15 bytes of a drill report (section 1.4). -/
def DrillReport.bytes (r : DrillReport) : List Byte :=
  leBytes 1 r.head.val ++ leBytes 2 r.diameter ++ leBytes 2 r.stack ++ leInt 4 r.x
    ++ leBytes 1 r.diaFlag.code ++ leBytes 1 r.stackFlag.code ++ leBytes 4 r.time.toNat

/-- The 17 bytes of a set report; an absent ram age is "no ram" (section 1.4). -/
def SetReport.bytes (r : SetReport) : List Byte :=
  leBytes 1 r.head.val ++ leBytes 2 r.serial.toNat ++ leBytes 1 (classNumber r.cls)
    ++ optBytes 4 (leBytes 4) r.ramAge ++ leInt 4 r.x ++ leBytes 4 r.time.toNat

/-- The marks of a hole as a set of classes (R179). -/
def marksBits (marks : List DevClass) : Nat := setBits (marks.map DevClass.index)

/-- A loaded hole record: static fields, state, each optional part with its presence byte, marks (R23). -/
def Hole.bytes (h : Hole) : List Byte :=
  h.staticBytes ++ leBytes 1 h.state.code.val
    ++ optBytes 1 (fun g : Slot => leBytes 1 g.val) h.grantHead
    ++ optBytes 1 (fun w : Work => leBytes 1 w.holeState.code.val) h.heldFrom
    ++ optBytes 1 classBytes h.heldClass
    ++ optBytes 15 DrillReport.bytes h.drillReport
    ++ optBytes 17 SetReport.bytes h.setReport
    ++ leBytes 2 (marksBits h.marks)

/-- The number of bytes of a loaded hole record. -/
def holeWidth : Nat := 57

/-- A record of PLAN_READ: its loaded mark, then its fields, which are zeros for an index not loaded
(R23). -/
def planRecordBytes : Option Hole → List Byte := optBytes holeWidth Hole.bytes

/-- An entry of a reservation list, the span present for head entries (R60). -/
def Entry.bytes (e : Entry) : List Byte :=
  leBytes 1 e.owner.kindCode ++ leBytes 1 e.owner.number ++ leBytes 1 e.shape.code ++ leInt 4 e.lo
    ++ leInt 4 e.hi ++ optBytes 8 (fun p : Int × Int => leInt 4 p.1 ++ leInt 4 p.2) e.span

/-- An entry on a page of LINE_QUERY, which carries the span for head entries alone (R60, log entry 11). -/
def Entry.pageBytes (e : Entry) : List Byte :=
  match e.owner with
  | .head _ => e.bytes
  | .fence _ => leBytes 1 e.owner.kindCode ++ leBytes 1 e.owner.number ++ leBytes 1 e.shape.code
      ++ leInt 4 e.lo ++ leInt 4 e.hi

/-- A last hold: hole, class, time (R61, R81). -/
def LastHold.bytes (l : LastHold) : List Byte :=
  leBytes 2 l.hole ++ classBytes l.cls ++ leBytes 4 l.time.toNat

/-- The ram age of a set phase, present from the ram capture on (R62). -/
def SetPhase.ramAge : SetPhase → Option Nat
  | .rammed _ a => some a
  | _ => none

/-- A rivet of a grant record: serial, class, heat-out time (R62). -/
def Rivet.bytes (r : Rivet) : List Byte :=
  leBytes 2 r.serial.toNat ++ leBytes 1 (classNumber r.cls) ++ leBytes 4 r.heatOut.toNat

/-- The target X of a grant record (R62). -/
def HeadStatus.grantX : HeadStatus → Option Int
  | .travelHole g => some g.x
  | .work g => some g.x
  | .travelMove g => some g.x
  | _ => none

/-- The position p₀ of a grant record (R62). -/
def HeadStatus.grantStart : HeadStatus → Option Int
  | .travelHole g => some g.p0
  | .work g => some g.p0
  | .travelMove g => some g.p0
  | _ => none

/-- The travel limit of a grant record (R62). -/
def HeadStatus.grantLimit : HeadStatus → Option Nat
  | .travelHole g => some g.limit
  | .work g => some g.limit
  | .travelMove g => some g.limit
  | _ => none

/-- The fields of a grant record in the order of R62, each optional one with its presence byte. -/
def HeadStatus.grantBytes (st : HeadStatus) : List Byte :=
  let g := st.holeGrant
  let phase := g.bind HoleGrant.phase
  leBytes 1 (st.grantCode.getD 0)
    ++ optBytes 2 (leBytes 2) (g.map HoleGrant.hole)
    ++ leInt 4 (st.grantX.getD 0)
    ++ optBytes 4 (leInt 4) (g.map HoleGrant.y)
    ++ optBytes 2 (leInt 2) (g.map HoleGrant.d)
    ++ optBytes 1 (leBytes 1) (g.map HoleGrant.bay)
    ++ leInt 4 (st.grantStart.getD 0)
    ++ leBytes 4 (st.grantLimit.getD 0)
    ++ optBytes 1 (fun ph : SetPhase => leBytes 1 ph.code) phase
    ++ optBytes 7 Rivet.bytes (phase.bind SetPhase.rivet)
    ++ optBytes 4 (leBytes 4) (phase.bind SetPhase.ramAge)

/-- The number of bytes of a grant record. -/
def grantWidth : Nat := 41

/-- A timer of a HEAD_QUERY: its mode alone when STOPPED, else mode, limit, count, running (R90). -/
def TimerReport.bytes (t : TimerReport) : List Byte :=
  leBytes 1 t.modeCode ++ match t with
    | .stopped => []
    | .counting _ limit count running => leBytes 4 limit ++ leBytes 4 count ++ [flagByte running]

/-- An attached head after its state byte: kind, rail, C, p, entry, grant record, last hold, timer, permit
(R63, R88, R90). -/
def HeadReport.bytes (r : HeadReport) : List Byte :=
  leBytes 1 r.head.kind.code ++ leBytes 1 r.head.rail.code ++ leInt 4 r.head.clearance
    ++ leInt 4 r.head.position
    ++ optBytes 20 Entry.bytes r.entry
    ++ optBytes grantWidth HeadStatus.grantBytes
        (if r.head.status.hasGrant then some r.head.status else none)
    ++ optBytes 7 LastHold.bytes r.head.lastHold
    ++ r.timer.bytes ++ [flagByte r.permit]

/-- A terminal of a TERM_READ: the fields every mode has, then those of its mode (R161). The widths of a
temperature, a probe code and a run count are free (log entry 2), and the code of a level is a
DESIGN CHOICE (log entry 26). -/
def TermReport.bytes (r : TermReport) : List Byte :=
  leBytes 1 r.mode.code ++ leBytes 1 r.function.code ++ leBytes 1 r.polarity.code
    ++ leBytes 1 r.edge.code ++ [flagByte r.pendingEnable, flagByte r.latch]
    ++ match r.activeLevel, r.probe with
      | some active, _ => [flagByte active]
      | none, some (ok, value, code, run) =>
          leBytes 1 (probeStatusCode ok)
            ++ optOpen .probeValue (openInt .probeValue) value
            ++ optOpen .probeCode (fun c : ProbeCode => openNat .probeCode c.toNat) code
            ++ openNat .runCount run ++ [flagByte r.level, flagByte r.pending]
      | none, none =>
          [flagByte r.level, flagByte r.pending] ++
            (if r.mode = .switchIn then
              optBytes 5 (fun c : Bool × Nat => flagByte c.1 :: leBytes 4 c.2) r.candidate
            else [])

/-- A row of flags of the classes in two bytes, and the first-deviation record with its presence byte
(R179). -/
def DeviationReport.bytes (r : DeviationReport) : List Byte :=
  r.modes.toList.flatMap (fun m => leBytes 1 m.code) ++ leBytes 2 (rowBits r.settable)
    ++ leBytes 2 (rowBits r.flags) ++ optBytes 23 firstDeviationBytes r.first

/-! ### The pages of LINE_QUERY and the picture of HEATER_QUERY, in the order of their rules (log entries 2
and 11) -/

/-- The counters of a frame, in the order of R22. -/
def FrameCounters.bytes (c : FrameCounters) : List Byte :=
  openNat .segmentsLoaded c.segsLoaded ++ openNat .baysLoaded c.baysLoaded
    ++ openNat .holesLoaded c.holesLoaded ++ c.stateCounts.toList.flatMap (openNat .stateCount)
    ++ openNat .holdEntries c.holdEntries ++ openNat .redoCount c.redoCount
    ++ openNat .acceptCount c.acceptCount ++ openNat .datumCount c.datumCount

/-- Identifier, sizes and x_d, each with its presence byte, with the widths of PLAN_BEGIN (R175, R177). -/
def headerBytes (header : Option PlanHeader) : List Byte :=
  optBytes 4 (fun hd : PlanHeader => leBytes 4 hd.frameId.toNat) header
    ++ optBytes 2 (fun hd : PlanHeader => leBytes 2 hd.holeCount) header
    ++ optBytes 1 (fun hd : PlanHeader => leBytes 1 hd.jointCount) header
    ++ optBytes 1 (fun hd : PlanHeader => leBytes 1 hd.segCount) header
    ++ optBytes 1 (fun hd : PlanHeader => leBytes 1 hd.bayCount) header
    ++ optBytes 4 (fun hd : PlanHeader => leInt 4 hd.xd) header

/-- A segment: status, value used, age of the hold (R35). -/
def SegmentReport.bytes (r : SegmentReport) : List Byte :=
  leBytes 1 r.status.val ++ optOpen .segmentValue (openInt .segmentValue) r.value
    ++ optBytes 4 (leBytes 4) r.holdAge

/-- A fence record: rails, lo, hi (R57). -/
def Fence.bytes (f : Fence) : List Byte := leBytes 1 f.rails.code ++ leInt 4 f.lo ++ leInt 4 f.hi

/-- The picture of the Heat Queue (R123). -/
def HeatReport.bytes (r : HeatReport) : List Byte :=
  Config.listLead .rivets r.queue.length ++ r.queue.flatMap rivetBytes
    ++ optBytes 7 rivetBytes r.chute
    ++ [flagByte r.overrun, flagByte r.fullMark, flagByte r.pause]
    ++ Config.listLead .waitingClasses r.waitingClasses.length
    ++ r.waitingClasses.flatMap (fun c => leBytes 1 (classNumber c))
    ++ openNat .heatBound r.heatMin ++ openNat .heatBound r.heatMax
    ++ r.budgetsMs.toList.flatMap (leBytes 4)
    ++ openNat .acceptedCount r.accepted ++ openNat .scrappedCount r.scrapped

/-- A port of page PORTS, with the error count in one byte as in PORT_DEAF (R164, R174). -/
def PortReport.bytes (r : PortReport) : List Byte :=
  [Config.receiverStateCode r.assembling, flagByte r.deaf, flagByte r.inBreak]
    ++ openNat .receiveCount r.receiveCount ++ openNat .transmitCount r.transmitCount
    ++ Config.pendingSetBytes (allNoticeKinds.map (fun k => decide (k ∈ r.notices)))
    ++ leBytes 1 r.errors

/-- The bytes of a page (R177): the order is that of the page's rule, and record count, in-flight count and
threshold take one byte each as in ATTENTION (R174). -/
def LinePage.bytes : LinePage → List Byte
  | .frame state header jd counters clock =>
      leBytes 1 state.code ++ headerBytes header ++ optBytes 4 (leInt 4) jd ++ counters.bytes
        ++ leBytes 4 clock.toNat
  | .segments list => Config.listLead .segments list.length ++ list.flatMap SegmentReport.bytes
  | .rail _ entries => openNat .entryCount entries.length ++ entries.flatMap Entry.pageBytes
  | .line clock lineStop staleFreeze frozenA freezingA frozenB freezingB fences flags attention =>
      leBytes 4 clock.toNat ++ [flagByte lineStop, flagByte staleFreeze]
        ++ [flagByte frozenA] ++ leBytes 1 (setBits freezingA)
        ++ [flagByte frozenB] ++ leBytes 1 (setBits freezingB)
        ++ fences.toList.flatMap (optBytes 9 Fence.bytes)
        ++ leBytes 2 (rowBits flags) ++ [flagByte attention]
  | .heat report waiting =>
      report.bytes ++ Config.listLead .waitingSlots waiting.length
        ++ waiting.flatMap (fun h => leBytes 1 h.val)
  | .log count inFlight headroom threshold condition sequence oldest =>
      leBytes 1 count ++ leBytes 1 inFlight ++ openNat .headroom headroom ++ leBytes 1 threshold
        ++ [flagByte condition] ++ leBytes 2 sequence.toNat
        ++ optBytes 2 (fun v : BitVec 16 => leBytes 2 v.toNat) oldest
  | .ports list => list.flatMap PortReport.bytes

/-- The fields of a reply from offset 3 (R176, R179, R180). Where a width is free the bytes end at the 240 of
R166 (log entry 2). The reply to MOVE carries X, as R71 says (log entry 10). The two counts of a
LOG_READ reply, to which R143 and R180 give no width, take one byte each: DEDUCED, log entry 11. -/
def ReplyFields.bytes : ReplyFields → List Byte
  | .none => []
  | .clearance c => leInt 4 c
  | .blockedBy o => leBytes 1 o.kindCode ++ leBytes 1 o.number
  | .heldHole hole => leBytes 2 hole
  | .holeGranted hole x y d cls stackNom bay limit =>
      [0] ++ leBytes 2 hole ++ leInt 4 x ++ leInt 4 y ++ leInt 2 d ++ leBytes 1 (classNumber cls)
        ++ leBytes 2 stackNom ++ leBytes 1 bay ++ leBytes 4 limit
  | .moveGranted x limit =>
      [1] ++ leBytes 2 0 ++ leInt 4 x ++ leInt 4 0 ++ leInt 2 0 ++ leBytes 1 0
        ++ leBytes 2 0 ++ leBytes 1 0 ++ leBytes 4 limit
  | .arrivalHeld hole cls => leBytes 2 hole ++ leBytes 1 cls.number
  | .drillJudged diaFlag stackFlag hole heldClass =>
      leBytes 1 diaFlag.code ++ leBytes 1 stackFlag.code ++ leBytes 2 hole
        ++ optBytes 1 (fun c : DevClass => leBytes 1 c.number) heldClass
  | .rivetGiven serial cls ms => rivetBytes (serial, cls, ms)
  | .sealFailed table index => leBytes 1 table ++ leBytes 2 index
  | .modeInForce mode => leBytes 1 mode.code
  | .flagsLeft flags firstPresent => leBytes 2 (rowBits flags) ++ [flagByte firstPresent]
  | .logRecords records remaining =>
      leBytes 1 records.length ++ leBytes 1 remaining ++ records.flatMap LogRecord.bytes
  | .parameter id value => id :: leInt 4 value
  | .terminalSet set => leBytes 5 (setBits set)
  | .discarded count => leBytes 1 count
  | .rivetSerial serial => optBytes 2 (fun v : BitVec 16 => leBytes 2 v.toNat) serial
  | .planRecords records => records.flatMap (fun r => planRecordBytes r.2)
  | .headRecord state report => leBytes 1 state.code ++ (report.map HeadReport.bytes).getD []
  | .deviations report => report.bytes
  | .terminalRecord report => report.bytes.take (Config.maxSentPayload - 3)
  | .page content => content.bytes.take (Config.maxSentPayload - 3)
  | .heater report => report.bytes.take (Config.maxSentPayload - 3)

/-- The kind code of a notice (R174). -/
def Notice.kind : Notice → Byte
  | .hold _ _ _ => 0x02
  | .feedGiven _ _ _ => 0x03
  | .portDeaf _ _ _ => 0x04
  | .deafPorts _ _ => 0x04
  | .attention _ _ _ _ _ => 0x05
  | .deviation _ _ => 0x06
  | .terminal _ _ => 0x07
  | .headState _ => 0x08

/-- The payload of a notice (R174). -/
def Notice.bytes : Notice → List Byte
  | .hold slot state lastHold =>
      leBytes 1 slot.val ++ leBytes 1 state.code
        ++ optBytes 7 LastHold.bytes lastHold
  | .feedGiven slot hole rivet =>
      leBytes 1 slot.val ++ leBytes 2 hole ++ optBytes 7 rivetBytes rivet
  | .portDeaf port deaf errors => leBytes 1 port.val ++ [flagByte deaf] ++ leBytes 1 errors
  | .deafPorts deaf errors => leBytes 2 (rowBits deaf) ++ errors.toList.flatMap (leBytes 1)
  | .attention count threshold inFlight oldest sequence =>
      leBytes 1 count ++ leBytes 1 threshold ++ leBytes 1 inFlight
        ++ optBytes 2 (fun v : BitVec 16 => leBytes 2 v.toNat) oldest
        ++ leBytes 2 sequence.toNat
  | .deviation flags first =>
      leBytes 2 (rowBits flags) ++ optBytes 23 firstDeviationBytes first
  | .terminal pending active => leBytes 5 (setBits pending) ++ leBytes 5 (setBits active)
  | .headState states => states.toList.flatMap (fun st => leBytes 1 st.code)

/-- The kind code of a frame (R172, R174). -/
def TxFrame.kind : TxFrame → Byte
  | .reply _ _ => kindReply
  | .notice n => n.kind

/-- The payload of a frame: a REPLY begins with the echoed kind, the result code and the subcode
(R179). -/
def TxFrame.payload : TxFrame → List Byte
  | .reply kind r => [kind] ++ leBytes 1 r.code.code ++ leBytes 1 r.subcode ++ r.fields.bytes
  | .notice n => n.bytes

/-- The sum of bytes modulo 256 (R166). -/
def byteSum (bytes : List Byte) : Byte := bytes.foldl (· + ·) 0

/-- The characters of a frame, each with its mark bit: header, length, payload, check (R166). -/
def TxFrame.characters (f : TxFrame) : List (Bool × Byte) :=
  let body : List Byte := BitVec.ofNat 8 f.payload.length :: f.payload
  (true, f.kind) :: (body.map (fun b => (false, b)) ++ [(false, 0 - byteSum (f.kind :: body))])

/-- The 11 bits of a character in the order they are sent: the start bit, low; the data bits, least
significant first; the mark bit; the stop bit, high (R165). -/
def characterBits (mark : Bool) (data : Byte) : List Bool :=
  false :: ((List.range 8).map (fun i => data.getLsbD i) ++ [mark, true])

/-- The bits of a frame, an unbroken run of characters (R165). -/
def TxFrame.bits (f : TxFrame) : List Bool :=
  f.characters.flatMap (fun c => characterBits c.1 c.2)

/-- Whether a transmit line stands high: at the bit of the oldest frame that its time has reached, and at
rest before and after (R165). -/
def Port.transmitHigh (q : Port) : Bool :=
  match q.sendingFor, q.transmitQueue with
  | some n, f :: _ => (f.bits[n / Config.unitsPerBit]?).getD true
  | _, _ => true

/-- The time a frame takes on the line, one character time for each character (R165, R172). -/
def TxFrame.duration (f : TxFrame) : Nat := f.characters.length * Config.unitsPerChar

end Sys2Proof.Machine
end

