-- ==== Sys2Proof/Machine/Links.lean ====
section
/-! DEFINITION. The Station Links' part of a taking: when a message is taken, its reply, and the
sending of notices (R171 to R174). -/

namespace Sys2Proof.Machine

/-! ### Notices -/

/-- The order in which a port's pending notices are sent (R173). The kinds a role never holds have no
place of their own in the order, and stand at its end. -/
def sendingOrder : Role → List NoticeKind
  | .head => [.hold, .feedGiven, .portDeaf, .attention, .deviation, .terminal, .headState]
  | .supervisor => [.attention, .deviation, .terminal, .headState, .portDeaf, .hold, .feedGiven]
  | .heater => [.portDeaf, .hold, .feedGiven, .attention, .deviation, .terminal, .headState]

/-- The slot a head port serves (R164); 0 for the two other ports, which hold no head notice. -/
def slotOf (p : PortId) : Slot := if h : p.val < 8 then ⟨p.val, h⟩ else 0

/-- A rivet with its age at a reading (R104). -/
def Rivet.withAge (r : Rivet) (now : Clock) : BitVec 16 × RivetClass × Nat :=
  (r.serial, r.cls, age now r.heatOut)

/-- The sequence of the oldest log record (R145). -/
def CompletionLog.oldest (l : CompletionLog) : Option (BitVec 16) :=
  l.records.head?.map LogRecord.sequence

/-- The terminals a test holds for, ascending. -/
def State.terminalsWhere (s : State) (test : Terminal → Bool) : List TermId :=
  (indices 40).filter (fun t => test s.terminals[t])

/-- A function of each place of a row, applied place by place. -/
def mapRow {α β : Type} {n : Nat} (f : α → β) (v : Vector α n) : Vector β n :=
  ⟨(v.toList.map f).toArray, by simp⟩

/-- The frame of a notice kind, built from the state as it stands (R174). -/
def State.buildNotice (s : State) (p : PortId) : NoticeKind → Notice
  | .hold =>
      .hold (slotOf p) (headStateOf s.heads[slotOf p]) (s.heads[slotOf p].bind Head.lastHold)
  | .feedGiven =>
      let g := s.heads[slotOf p].bind (fun hd => hd.status.holeGrant)
      .feedGiven (slotOf p) ((g.map HoleGrant.hole).getD 0)
        ((g.bind HoleGrant.rivet).map (fun r => r.withAge s.clock))
  | .portDeaf =>
      if p = supervisorPort then .deafPorts (mapRow Port.deaf s.ports) (mapRow Port.errors s.ports)
      else .portDeaf p s.ports[p].deaf s.ports[p].errors
  | .attention =>
      .attention s.log.records.length s.params.logThreshold s.log.inFlight s.log.oldest
        s.log.sequence
  | .deviation => .deviation s.dev.flags s.dev.first
  | .terminal =>
      .terminal (s.terminalsWhere Terminal.pending)
        (s.terminalsWhere (fun t => t.mode == .switchIn && t.level))
  | .headState => .headState (mapRow headStateOf s.heads)

/-- The first pending kind of a port in its sending order (R173). -/
def State.firstPending (s : State) (p : PortId) : Option NoticeKind :=
  (sendingOrder (roleOf p)).find? (fun k => s.ports[p].notices.contains k)

/-- A port whose transmit queue is empty while its pending set is not sends its first pending notice
(R173). -/
def State.sendNotice (s : State) (p : PortId) : State :=
  if s.ports[p].transmitQueue.isEmpty then
    match s.firstPending p with
    | none => s
    | some k =>
      s.setPort p
        { s.ports[p] with
          notices := s.ports[p].notices.filter (fun x => !(x == k))
          transmitQueue := [.notice (s.buildNotice p k)] }
  else s

/-- The end of a taking: every port that can send a notice sends one (R173). -/
def State.sendNotices (s : State) : State :=
  (indices 10).foldl State.sendNotice s

/-! ### Taking a message -/

/-- The message stands at the head of the port's receive queue and may be taken: the port is not in
break and its transmit queue holds fewer than 8 frames (R171). Nothing is taken while RESET_N is low
(R163). -/
def State.takes (s : State) (p : PortId) (m : Message) : Bool :=
  !s.inReset && !s.ports[p].inBreak
    && decide (s.ports[p].transmitQueue.length < Config.transmitCapacity)
    && s.ports[p].receiveQueue.head? == some m

/-- A message leaves the receive queue, and a message waiting in the buffer moves to its end (R171). -/
def Port.dequeue (q : Port) : Port :=
  { q with receiveQueue := q.receiveQueue.tail ++ q.waiting.toList, waiting := none }

/-- One reply joins the port's transmit queue (R172). -/
def State.appendReply (s : State) (p : PortId) (kind : Byte) (r : Reply) : State :=
  s.setPort p { s.ports[p] with transmitQueue := s.ports[p].transmitQueue ++ [.reply kind r] }

/-- A reply with no subcode and no fields (R176). -/
def plainReply (code : ResultCode) : Reply := ⟨code, 0, .none⟩

/-- A refusal by code alone. The REPLY to a RIVET_OUT carries its serial field, absent, in every case
(R179). -/
def refusal (kind : Byte) (code : ResultCode) : Reply :=
  if kind = kindRivetOut then ⟨code, 0, .rivetSerial none⟩ else plainReply code

/-- The result of an owning block's rule: the state it leaves and the reply (R171, R172). -/
abbrev Taken := State × Reply

/-- The two checks of the Station Links, then the owning block's rule (R171). -/
def judgeMessage (p : PortId) (m : Message) (rule : State → Taken) (s : State) : Taken :=
  if !kindKnown p m.kind then (s, refusal m.kind .unknownKind)
  else if !lengthFits p m.kind m.payload then (s, refusal m.kind .badField)
  else rule s

/-- The state after the taking of a message that stands at the head of its queue: the message leaves,
it is judged, its one reply is appended, and notices are sent (R171 to R173). -/
def State.afterTaking (s : State) (p : PortId) (m : Message) (rule : State → Taken) : State :=
  let r := judgeMessage p m rule (s.setPort p s.ports[p].dequeue)
  (r.1.appendReply p m.kind r.2).sendNotices

/-- The taking of a message. A message that does not stand at the head of its port's receive queue, or
that may not be taken yet, is not taken, and nothing changes (R171, log entry 5). -/
def takeMessage (p : PortId) (kind : Byte) (payload : List Byte) (rule : State → Taken) (s : State) :
    Host.Outcome State Fault Refusal :=
  if s.takes p ⟨kind, payload⟩ then .next (s.afterTaking p ⟨kind, payload⟩ rule) else .next s

/-- The taking of an event that is due: its effect, then the notices (R173). An event that is not due
has not come about, and nothing changes; nor does one while RESET_N is low (log entry 6). -/
def takeEvent (due : Bool) (effect : State → State) (s : State) :
    Host.Outcome State Fault Refusal :=
  if !s.inReset && due then .next (effect s).sendNotices else .next s

end Sys2Proof.Machine
end

