-- ==== Sys2Proof/Machine/Thermal.lean ====
section
/-! DEFINITION. The Thermal Unit (Chapter 2): the value used for each segment, the test between
SUBSTITUTED and UNKNOWN, the probe events, hold expiry, and the target computation. -/

namespace Sys2Proof.Machine

/-! ### The segment picture -/

/-- The value a segment supplies: LIVE and HELD segments supply their own (section 2.1). -/
def SegStatus.supply : SegStatus → Option Int
  | .live v => some v
  | .held v _ => some v
  | .substituted => none
  | .unknown => none

/-- The nearest supplying value of a list, taken from its front (R32). -/
def nearestSupply (l : List Segment) : Option Int := l.findSome? (fun g => g.status.supply)

/-- The value derived for a SUBSTITUTED segment k from its nearest supplying neighbours (R32). -/
def substituteValue (segs : List Segment) (k : Nat) : Option Int :=
  match nearestSupply (segs.take k).reverse, nearestSupply (segs.drop (k + 1)) with
  | some a, some b => some ((a + b).tdiv 2)
  | some a, none => some a
  | none, some b => some b
  | none, none => none

/-- The value used for a segment: none for an UNKNOWN one (section 2.1). -/
def valueUsed (segs : List Segment) (k : Nat) : Option Int :=
  match segs[k]? with
  | none => none
  | some g =>
    match g.status with
    | .live v => some v
    | .held v _ => some v
    | .substituted => substituteValue segs k
    | .unknown => none

/-- The test of R27, applied to every segment that does not supply. -/
def settleSegments (segs : List Segment) : List Segment :=
  let some_ := segs.any (fun g => g.status.supply.isSome)
  segs.map (fun g =>
    match g.status.supply with
    | some _ => g
    | none => { g with status := if some_ then .substituted else .unknown })

/-- The segments that are SUBSTITUTED in the new picture and were not before, ascending (R33). -/
def enteredSubstituted (before after : List Segment) : List Nat :=
  (List.range after.length).filter (fun k =>
    (after[k]?.map Segment.status) == some .substituted
      && !((before[k]?.map Segment.status) == some .substituted))

/-- PROBE_SUBST is raised for each segment given, with the value of the picture that stands (R33). -/
def State.raiseSubst (s : State) (ks : List Nat) : State :=
  ks.foldl (fun (acc : State) (k : Nat) =>
    acc.raiseUnbound .probeSubst (k : Int) ((valueUsed acc.thermal k).getD 0)) s

/-- One event changes segment records together: the test of R27 once, then the raisings (R26, R33). -/
def State.changeSegments (s : State) (f : Segment → Segment) : State :=
  let after := settleSegments (s.thermal.map f)
  (s.setThermal after).raiseSubst (enteredSubstituted s.thermal after)

/-! ### Probe events (R26) -/

/-- A reading whose status is OK makes the segment LIVE (R29). -/
def Segment.read (t : TermId) (v : Int) (g : Segment) : Segment :=
  if g.probe = t then { g with status := .live v } else g

/-- A fault takes a LIVE segment to HELD, or with PROBE_HOLD 0 out of supply (R30). -/
def Segment.fault (t : TermId) (holdSeconds : Nat) (now : Clock) (g : Segment) : Segment :=
  if g.probe = t then
    match g.status with
    | .live v => { g with status := if 0 < holdSeconds then .held v now else .unknown }
    | _ => g
  else g

/-- A reading with status OK, a recovery being the first such reading, reaches every segment that names
the terminal (R26, R29). -/
def State.probeReading (s : State) (t : TermId) (v : Int) : State :=
  s.changeSegments (Segment.read t v)

/-- A fault of a terminal reaches every segment that names it (R26, R30). -/
def State.probeFault (s : State) (t : TermId) : State :=
  s.changeSegments (Segment.fault t s.params.probeHold s.clock)

/-! ### Hold expiry (R31, R34) -/

/-- The hold of a segment has reached PROBE_HOLD (R31). -/
def State.holdDue (s : State) (k : Nat) : Bool :=
  match s.thermal[k]? with
  | some g =>
    match g.status with
    | .held _ start => decide (s.params.probeHold * 1000 ≤ age s.clock start)
    | _ => false
  | none => false

/-- The hold of segment k ends: the last good value and the hold start are removed, and the test of R27
follows (R31). -/
def State.expireHold (s : State) (k : Nat) : State :=
  let changed := s.thermal.modify k (fun g => { g with status := .unknown })
  let after := settleSegments changed
  (s.setThermal after).raiseSubst (enteredSubstituted s.thermal after)

/-- In a write of PROBE_HOLD each HELD segment, ascending, whose age has reached the value expires
(R34). -/
def State.expireDueHolds (s : State) : State :=
  (List.range s.thermal.length).foldl (fun acc k =>
    if acc.holdDue k then acc.expireHold k else acc) s

/-! ### The seal -/

/-- The first status of the record of a segment row: LIVE when its probe is OK (R28). -/
def State.firstRecord (s : State) (row : SegmentRow) : Segment :=
  let t := s.terminals[row.probe]
  { lower := row.lower, upper := row.upper, probe := row.probe,
    status :=
      if t.mode == .probeIn && t.probeOk then
        match t.probeValue with
        | some v => .live v
        | none => .unknown
      else .unknown }

/-- The Thermal Unit takes the segment table at a seal (R7, R28). -/
def State.takeSegments (s : State) : State :=
  let after := settleSegments ((s.plan.segments.filterMap id).map s.firstRecord)
  (s.setThermal after).raiseSubst (enteredSubstituted [] after)

/-! ### The target computation (section 2.2) -/

/-- The length of the overlap of two half-open intervals, 0 when they do not overlap (R38). -/
def overlapLength (a b c d : Int) : Int := max 0 (min b d - max a c)

/-- The overlap of a segment with the span of x from the datum (R37). -/
def spanOverlap (g : Segment) (x xd : Int) : Int :=
  overlapLength g.lower g.upper (min x xd) (max x xd)

/-- The hole at x is AVAILABLE: no taking-part segment is UNKNOWN, nor SUBSTITUTED while PROBE_SUBST
is HOLDING (R37). -/
def available (segs : List Segment) (substMode : DevMode) (x xd : Int) : Bool :=
  segs.all (fun g =>
    !decide (0 < spanOverlap g x xd) ||
      (!(g.status == .unknown) && !(g.status == .substituted && substMode == .holding)))

/-- The signed length of a segment's part of the span (R38). -/
def signedLength (g : Segment) (x xd : Int) : Int :=
  if xd ≤ x then spanOverlap g x xd else -(spanOverlap g x xd)

/-- The exact sum of L_k times ALPHA times the temperature difference (R39). -/
def displacementSum (segs : List Segment) (alpha : Nat) (x xd : Int) : Int :=
  ((List.range segs.length).map (fun k =>
    match segs[k]? with
    | some g => signedLength g x xd * (alpha : Int)
        * ((valueUsed segs k).getD Config.referenceTemp - Config.referenceTemp)
    | none => 0)).sum

/-- The sum divided by 10^9, rounded once, half away from zero (R40). -/
def roundDisplacement (sum : Int) : Int :=
  let q : Nat := (sum.natAbs + 500000000) / 1000000000
  if sum < 0 then -(q : Int) else (q : Int)

/-- A displacement saturated to plus or minus CORR_LIMIT (R41). -/
def saturateDisplacement (limit : Nat) (d : Int) : Int := max (-(limit : Int)) (min limit d)

/-- What a target computation hands back for an AVAILABLE hole (R36). -/
structure Target where
  dRaw : Int
  d : Int
  beyond : Bool
  x : Int
  deriving DecidableEq, Repr

/-- The target computation of one hole; none is THERMAL_UNKNOWN (R36 to R42). x_d and J_d are present
in WORKING (R1). -/
def State.target (s : State) (hole : Hole) : Option Target :=
  let xd : Int := (s.plan.header.map PlanHeader.xd).getD 0
  let jd : Int := s.plan.jd.getD 0
  if available s.thermal (s.modeOf .probeSubst) hole.xNom xd then
    let dRaw := roundDisplacement (displacementSum s.thermal s.params.alpha hole.xNom xd)
    let d := saturateDisplacement s.params.corrLimit dRaw
    some { dRaw := dRaw, d := d, beyond := decide (s.params.corrLimit < dRaw.natAbs),
           x := jd + (hole.xNom - xd) + d }
  else none

end Sys2Proof.Machine
end

