-- ==== Sys2Proof/Machine/Heads.lean ====
section
/-! DEFINITION. The Head Slots (Chapter 4): attaching, the grant checks, the commit, arrival, reports,
ABANDON, and the heads in trouble. A `rule…` is the owning block's rule for one message; an `exec…` is
the meaning of one command. -/

namespace Sys2Proof.Machine

/-- A refusal changes nothing beyond its reply (R176). -/
def refuse (kind : Byte) (code : ResultCode) (s : State) : Taken := (s, refusal kind code)

/-- A refusal with the owner of the conflicting entry (R46, R176). -/
def refuseOverlap (owner : Owner) (s : State) : Taken := (s, ⟨.overlap, 0, .blockedBy owner⟩)

/-! ### ATTACH and DETACH (R64) -/

/-- The clearance a head of a kind is given at ATTACH (R59). -/
def clearanceFor (q : Params) : HeadKind → Nat
  | .drill => q.clearDrill
  | .set => q.clearSet

/-- ATTACH with its fields in range: the footprint is tested and placed (R48, R64). -/
def State.attachHead (s : State) (h : Slot) (kind : HeadKind) (rail : Rail) (x : Int) : Taken :=
  let c : Int := clearanceFor s.params kind
  let e := footprint h c x
  match conflict (s.rails.list rail) e.owner e.lo e.hi with
  | some owner => refuseOverlap owner s
  | none =>
    ((s.placeOn rail e).setHead h
      (some { kind := kind, rail := rail, clearance := c, position := x, status := .idle,
              lastHold := none }),
      ⟨.ok, 0, .clearance c⟩)

def ruleAttach (h : Slot) (payload : List Byte) (s : State) : Taken :=
  match s.heads[h] with
  | some _ => refuse kindAttach .badState s
  | none =>
    match headKindOfCode (u8At payload 0), railOfCode (u8At payload 1) with
    | some kind, some rail =>
      if inJig (i32At payload 2) then s.attachHead h kind rail (i32At payload 2)
      else refuse kindAttach .badField s
    | _, _ => refuse kindAttach .badField s

def execAttach (h : Slot) (payload : List Byte) (s : State) : Host.Outcome State Fault Refusal :=
  takeMessage (headPort h) kindAttach payload (ruleAttach h payload) s

/-- The slot becomes DETACHED: entry, record and a pending HOLD notice go (R56, R64, R85). -/
def State.detachHead (s : State) (h : Slot) (rail : Rail) : State :=
  ((s.removeEntry rail h).setHead h none).clearPending (headPort h) .hold

def ruleDetach (h : Slot) (s : State) : Taken :=
  match s.heads[h] with
  | none => refuse kindDetach .notAttached s
  | some hd =>
    match hd.status with
    | .idle => (s.detachHead h hd.rail, plainReply .ok)
    | _ => refuse kindDetach .badState s

def execDetach (h : Slot) (payload : List Byte) (s : State) : Host.Outcome State Fault Refusal :=
  takeMessage (headPort h) kindDetach payload (ruleDetach h) s

/-! ### The grant checks (R65 to R69) -/

/-- Checks 1 to 4 of R65, which all three requests make; a FAULTED head is refused by R63. -/
def State.requestRefused (s : State) (hd : Head) : Option ResultCode :=
  if hd.status = .faulted then some .badState
  else if s.plan.state ≠ .working then some .notWorking
  else if s.lineStop then some .stopped
  else if s.frozen hd.rail then some .frozen
  else if hd.status ≠ .idle then some .badState
  else none

/-- The bay whose interval contains X; the top bay contains its upper bound (R66). -/
def PlanStore.bayOf (p : PlanStore) (x : Int) : Option Nat :=
  (List.range p.bays.length).find? (fun b =>
    match (p.bays[b]?).join with
    | some row => decide (row.lower ≤ x) &&
        (decide (x < row.upper) || (b + 1 == p.bays.length && decide (x = row.upper)))
    | none => false)

/-- The hole state a head of a kind may be granted (check 6). -/
def HeadKind.takes : HeadKind → HoleState
  | .drill => .planned
  | .set => .drilled

/-- The hole state a commit takes the hole to (R11). -/
def HeadKind.working : HeadKind → HoleState
  | .drill => .drilling
  | .set => .setting

/-- Check 8: no hole of the joint is in the other work (R20). -/
def Joint.mixPasses (j : Joint) : HeadKind → Bool
  | .drill => j.settingCount == 0
  | .set => j.drillingCount == 0

/-- Check 9: for a setting head every tier below the hole's is closed (R20). -/
def Joint.tierPasses (j : Joint) (kind : HeadKind) (tier : Tier) : Bool :=
  kind == .drill || (indices 4).all (fun t => !decide (t < tier) || j.tierOpen[t] == 0)

/-- A candidate that has passed checks 6 to 13. -/
structure Eligible where
  index : Nat
  hole : Hole
  target : Target
  bay : Nat
  deriving DecidableEq, Repr

/-- A NOT_ELIGIBLE reply with its subcode (R176). -/
def notEligible (subcode : Nat) : Reply := ⟨.notEligible, subcode, .none⟩

/-- Checks 11 to 13 of R65 on a hole with its target. -/
def State.checkTarget (s : State) (i : Nat) (hole : Hole) (tgt : Target) : Except Reply Eligible :=
  if !inJig tgt.x then .error (notEligible 5)
  else
    match s.plan.bayOf tgt.x with
    | none => .error (notEligible 6)
    | some bay =>
      if s.clampActive bay then .ok ⟨i, hole, tgt, bay⟩ else .error (notEligible 7)

/-- Checks 6 to 13 of R65 on one hole. -/
def State.checkHole (s : State) (hd : Head) (i : Nat) : Except Reply Eligible :=
  match s.plan.hole? i with
  | none => .error (notEligible 1)
  | some hole =>
    let joint := (s.plan.joints[hole.joint]?).getD ⟨[], 0, 0, Vector.replicate 4 0⟩
    if hole.state ≠ hd.kind.takes then .error (notEligible 1)
    else if hole.rail ≠ hd.rail then .error (notEligible 2)
    else if !joint.mixPasses hd.kind then .error (notEligible 3)
    else if !joint.tierPasses hd.kind hole.tier then .error (notEligible 4)
    else
      match s.target hole with
      | none => .error (plainReply .thermalUnknown)
      | some tgt => s.checkTarget i hole tgt

/-- Check 15: the hull from p to a position, against the list as it stands (R49). -/
def State.hullConflict (s : State) (h : Slot) (hd : Head) (x : Int) : Option Owner :=
  let e := hull h hd.clearance hd.position x
  conflict (s.rails.list hd.rail) e.owner e.lo e.hi

/-! ### Commit (R71) and check 16 (R69) -/

/-- The grant record of a HOLE grant (R62, R71). -/
def State.grantRecord (s : State) (hd : Head) (c : Eligible) : HoleGrant where
  hole := c.index
  x := c.target.x
  y := c.hole.yNom
  d := c.target.d
  bay := c.bay
  p0 := hd.position
  limit := travelLimit s.params hd.position c.target.x
  phase := match hd.kind with
    | .drill => none
    | .set => some .unfed

/-- The commit of a HOLE grant (R71). -/
def State.commitHole (s : State) (h : Slot) (hd : Head) (c : Eligible) : Taken :=
  let g := s.grantRecord hd c
  let s1 := s.changeHole c.index (fun x => x.goto hd.kind.working (some h))
  let s2 := s1.placeOn hd.rail (hull h hd.clearance hd.position c.target.x)
  let s3 := s2.startTimer h .travel g.limit
  let s4 := s3.setLog { s3.log with inFlight := s3.log.inFlight + 1 }
  (s4.setHead h (some { hd with status := .travelHole g }),
    ⟨.ok, 0, .holeGranted g.hole g.x g.y g.d c.hole.cls c.hole.stackNom g.bay g.limit⟩)

/-- A hold at check 16: the hole is held, the hold is logged with the clamped D and X in the place check 14
found, and it becomes the head's last hold; no grant is made (R16, R44, R69). -/
def State.holdAtLimit (s : State) (h : Slot) (hd : Head) (c : Eligible) : Taken :=
  let s1 := s.changeHole c.index (fun x => x.hold hd.kind.work .thermalLimit)
  let s2 := s1.writeLog c.index (.held h c.target.x (some c.target.d) .thermalLimit) false
  (s2.setLastHold h c.index .thermalLimit, ⟨.held, 0, .heldHole c.index⟩)

/-- Check 16 and what follows it (R69). -/
def State.grantHole (s : State) (h : Slot) (hd : Head) (c : Eligible) : Taken :=
  if c.target.beyond then
    let s1 := s.raiseForHole .thermalLimit c.index h c.target.dRaw s.params.corrLimit
    match s1.modeOf .thermalLimit with
    | .holding => s1.holdAtLimit h hd c
    | .noting => s1.commitHole h hd c
  else s.commitHole h hd c

/-- TAKE after checks 1 to 4: checks 5 to 16 in order (R65). -/
def State.takeHole (s : State) (h : Slot) (hd : Head) (i : Nat) : Taken :=
  if s.plan.holeCount ≤ i then refuse kindTake .badField s
  else
    match s.checkHole hd i with
    | .error r => (s, r)
    | .ok c =>
      if !s.headroomForOne then refuse kindTake .logFull s
      else
        match s.hullConflict h hd c.target.x with
        | some owner => (s, ⟨.notEligible, 8, .blockedBy owner⟩)
        | none => s.grantHole h hd c

def ruleTake (h : Slot) (payload : List Byte) (s : State) : Taken :=
  match s.heads[h] with
  | none => refuse kindTake .notAttached s
  | some hd =>
    match s.requestRefused hd with
    | some code => refuse kindTake code s
    | none => s.takeHole h hd (u16At payload 0)

def execTake (h : Slot) (payload : List Byte) (s : State) : Host.Outcome State Fault Refusal :=
  takeMessage (headPort h) kindTake payload (ruleTake h payload) s

/-! ### NEXT (R67) -/

/-- The candidates of a NEXT: every hole that passes checks 6 to 13 and 15, in ascending number. -/
def State.candidates (s : State) (h : Slot) (hd : Head) : List Eligible :=
  (List.range s.plan.holes.length).filterMap (fun i =>
    match s.checkHole hd i with
    | .error _ => none
    | .ok c =>
      match s.hullConflict h hd c.target.x with
      | some _ => none
      | none => some c)

/-- One candidate goes before another by the key of R67; holes of equal tier and distance keep the
order of their numbers. -/
def Eligible.before (p : Int) (a b : Eligible) : Bool :=
  decide (a.hole.tier < b.hole.tier) ||
    (a.hole.tier == b.hole.tier &&
      decide ((a.target.x - p).natAbs < (b.target.x - p).natAbs))

/-- The choice of NEXT among its candidates, ascending by hole number (R67). -/
def chooseCandidate (p : Int) : List Eligible → Option Eligible
  | [] => none
  | c :: rest =>
    match chooseCandidate p rest with
    | none => some c
    | some best => some (if best.before p c then best else c)

/-- NEXT after checks 1 to 4: check 14, the choice, check 16 (R67). -/
def State.nextHole (s : State) (h : Slot) (hd : Head) : Taken :=
  if !s.headroomForOne then refuse kindNext .logFull s
  else
    match chooseCandidate hd.position (s.candidates h hd) with
    | none => refuse kindNext .noneEligible s
    | some c => s.grantHole h hd c

def ruleNext (h : Slot) (s : State) : Taken :=
  match s.heads[h] with
  | none => refuse kindNext .notAttached s
  | some hd =>
    match s.requestRefused hd with
    | some code => refuse kindNext code s
    | none => s.nextHole h hd

def execNext (h : Slot) (payload : List Byte) (s : State) : Host.Outcome State Fault Refusal :=
  takeMessage (headPort h) kindNext payload (ruleNext h) s

/-! ### MOVE (R68) -/

/-- The commit of a MOVE grant (R71). -/
def State.commitMove (s : State) (h : Slot) (hd : Head) (x : Int) : Taken :=
  let limit := travelLimit s.params hd.position x
  let s1 := s.placeOn hd.rail (hull h hd.clearance hd.position x)
  let s2 := s1.startTimer h .travel limit
  (s2.setHead h
      (some { hd with status := .travelMove { x := x, p0 := hd.position, limit := limit } }),
    ⟨.ok, 0, .moveGranted x limit⟩)

/-- MOVE after checks 1 to 4 (R68). -/
def State.moveTo (s : State) (h : Slot) (hd : Head) (x : Int) : Taken :=
  if !inJig x then refuse kindMove .badField s
  else
    match s.hullConflict h hd x with
    | some owner => refuseOverlap owner s
    | none => s.commitMove h hd x

def ruleMove (h : Slot) (payload : List Byte) (s : State) : Taken :=
  match s.heads[h] with
  | none => refuse kindMove .notAttached s
  | some hd =>
    match s.requestRefused hd with
    | some code => refuse kindMove code s
    | none => s.moveTo h hd (i32At payload 0)

def execMove (h : Slot) (payload : List Byte) (s : State) : Host.Outcome State Fault Refusal :=
  takeMessage (headPort h) kindMove payload (ruleMove h payload) s

/-! ### ARRIVED and PROGRESS (R72, R73) -/

/-- Step 1 of R73: the hull narrows to the footprint at X, and p becomes X (R51). -/
def State.standAt (s : State) (h : Slot) (hd : Head) (x : Int) (status : HeadStatus) : State :=
  (s.placeOn hd.rail (footprint h hd.clearance x)).setHead h
    (some { hd with position := x, status := status })

/-- The clamp judgement of an arrival (R73, step 3). -/
def State.judgeArrival (s : State) (h : Slot) (hd : Head) (g : HoleGrant) : Taken :=
  if s.clampActive g.bay then (s, plainReply .ok)
  else
    let s1 := s.raiseForHole .clampLost g.hole h g.bay 1
    match s1.modeOf .clampLost with
    | .noting => (s1, plainReply .ok)
    | .holding =>
      (s1.endWithHold h hd g .clampLost .idle, ⟨.held, 0, .arrivalHeld g.hole .clampLost⟩)

def ruleArrived (h : Slot) (s : State) : Taken :=
  match s.heads[h] with
  | none => refuse kindArrived .notAttached s
  | some hd =>
    match hd.status with
    | .travelMove g => ((s.standAt h hd g.x .idle).stopTimer h, plainReply .ok)
    | .travelHole g =>
      ((s.standAt h hd g.x (.work g)).startTimer h .work (workLimit s.params hd.kind)).judgeArrival
        h hd g
    | _ => refuse kindArrived .badState s

def execArrived (h : Slot) (payload : List Byte) (s : State) : Host.Outcome State Fault Refusal :=
  takeMessage (headPort h) kindArrived payload (ruleArrived h) s

def ruleProgress (h : Slot) (s : State) : Taken :=
  match s.heads[h] with
  | none => refuse kindProgress .notAttached s
  | some hd =>
    match hd.status with
    | .work _ => (s.startTimer h .work (workLimit s.params hd.kind), plainReply .ok)
    | _ => refuse kindProgress .badState s

def execProgress (h : Slot) (payload : List Byte) (s : State) : Host.Outcome State Fault Refusal :=
  takeMessage (headPort h) kindProgress payload (ruleProgress h) s

/-! ### ABANDON (R77) -/

/-- The state a hole returns to when its grant is abandoned (R17). -/
def HeadKind.returned : HeadKind → HoleState
  | .drill => .planned
  | .set => .drilled

/-- ABANDON of a HOLE grant (R17, R77). -/
def State.abandonHole (s : State) (h : Slot) (hd : Head) (g : HoleGrant) (status : HeadStatus) :
    State :=
  (s.changeHole g.hole (fun x => x.goto hd.kind.returned none)).endHoleGrant h g false status

def ruleAbandon (h : Slot) (s : State) : Taken :=
  match s.heads[h] with
  | none => refuse kindAbandon .notAttached s
  | some hd =>
    match hd.status with
    | .travelHole g => ((s.abandonHole h hd g .halted).noteTrouble .travel .halted, plainReply .ok)
    | .travelMove _ => ((s.endMoveGrant h .halted).noteTrouble .travel .halted, plainReply .ok)
    | .work g => (s.abandonHole h hd g .idle, plainReply .ok)
    | _ => refuse kindAbandon .badState s

def execAbandon (h : Slot) (payload : List Byte) (s : State) : Host.Outcome State Fault Refusal :=
  takeMessage (headPort h) kindAbandon payload (ruleAbandon h) s

/-! ### Done reports (R75, R76) -/

/-- The lowest-numbered HOLDING class of the classes raised, given in class-number order (R131). -/
def State.holdingClass (s : State) (raised : List DevClass) : Option DevClass :=
  raised.find? (fun c => s.modeOf c == .holding)

/-- A done report ends its grant: the hole goes to HELD or on, the record is written, and a hole that
enters SET is tested for completion (R13, R14, R21, R78). -/
def State.endWithReport (s : State) (h : Slot) (hd : Head) (g : HoleGrant) (spent : Bool)
    (held : Option DevClass) (done : HoleState) (event : LogEvent) : State :=
  match held with
  | some cls =>
    let s1 := s.changeHole g.hole (fun x => x.hold hd.kind.work cls)
    let s2 := s1.endHoleGrant h g spent .idle
    (s2.writeLog g.hole (.held h g.x none cls) false).setLastHold h g.hole cls
  | none =>
    let s1 := s.changeHole g.hole (fun x => x.goto done none)
    let s2 := s1.endHoleGrant h g spent .idle
    let s3 := s2.writeLog g.hole event false
    if done.final then s3.testComplete else s3

/-- The result code of a done report (R176). -/
def doneCode (held : Option DevClass) : ResultCode := if held.isSome then .held else .ok

/-- DRILL_DONE with its fields in range (R13, R75). -/
def State.drillReport (s : State) (h : Slot) (hd : Head) (g : HoleGrant) (hole : Hole)
    (diameter stack : Nat) : Taken :=
  let nominal := nominalDiameter hole.cls
  let fd := reportFlag diameter nominal s.params.diaTol
  let fs := reportFlag stack hole.stackNom s.params.stackTol
  let s1 := s.changeHole g.hole (fun x => { x with
    drillReport := some ⟨h, diameter, stack, g.x, fd, fs, s.clock⟩ })
  let s2 := if fd ≠ .within then s1.raiseForHole .diaOut g.hole h diameter nominal else s1
  let s3 := if fs ≠ .within then s2.raiseForHole .stackOut g.hole h stack hole.stackNom else s2
  let raised := (if fd ≠ .within then [DevClass.diaOut] else [])
    ++ (if fs ≠ .within then [DevClass.stackOut] else [])
  let held := s3.holdingClass raised
  (s3.endWithReport h hd g false held .drilled (.drilled h g.x diameter stack),
    ⟨doneCode held, 0, .drillJudged fd fs g.hole held⟩)

def ruleDrillDone (h : Slot) (payload : List Byte) (s : State) : Taken :=
  match s.heads[h] with
  | none => refuse kindDrillDone .notAttached s
  | some hd =>
    match hd.status with
    | .work g =>
      if hd.kind ≠ .drill then refuse kindDrillDone .badState s
      else if !(inRange 500 5000 (u16At payload 0) && inRange 0 15000 (u16At payload 2)) then
        refuse kindDrillDone .badField s
      else
        match s.plan.hole? g.hole with
        | none => refuse kindDrillDone .badState s
        | some hole => s.drillReport h hd g hole (u16At payload 0) (u16At payload 2)
    | _ => refuse kindDrillDone .badState s

def execDrillDone (h : Slot) (payload : List Byte) (s : State) : Host.Outcome State Fault Refusal :=
  takeMessage (headPort h) kindDrillDone payload (ruleDrillDone h payload) s

/-- SET_DONE of a head that holds a rivet: the age at ram is judged, or NO_RAM raised (R14, R76). -/
def State.setReport (s : State) (h : Slot) (hd : Head) (g : HoleGrant) (r : Rivet)
    (ramAge : Option Nat) : Taken :=
  let s1 := s.changeHole g.hole (fun x => { x with
    setReport := some ⟨h, r.serial, r.cls, ramAge, g.x, s.clock⟩ })
  let raised : Option DevClass :=
    match ramAge with
    | none => some .noRam
    | some a => if s.budgetMs r.cls < a then some .coldSet else none
  let s2 :=
    match ramAge, raised with
    | none, some c => s1.raiseForHole c g.hole h r.serial.toNat (age s.clock r.heatOut)
    | some a, some c => s1.raiseForHole c g.hole h a (s.budgetMs r.cls)
    | _, none => s1
  let held := s2.holdingClass raised.toList
  (s2.endWithReport h hd g true held .set (.set h g.x r.serial ramAge),
    ⟨doneCode held, 0, if held.isSome then .heldHole g.hole else .none⟩)

def ruleSetDone (h : Slot) (s : State) : Taken :=
  match s.heads[h] with
  | none => refuse kindSetDone .notAttached s
  | some hd =>
    match hd.status with
    | .work g =>
      if hd.kind ≠ .set then refuse kindSetDone .badState s
      else
        match g.phase with
        | some (.fed r) => s.setReport h hd g r none
        | some (.rammed r a) => s.setReport h hd g r (some a)
        | _ => refuse kindSetDone .badState s
    | _ => refuse kindSetDone .badState s

def execSetDone (h : Slot) (payload : List Byte) (s : State) : Host.Outcome State Fault Refusal :=
  takeMessage (headPort h) kindSetDone payload (ruleSetDone h) s

/-! ### Heads in trouble (R83 to R86) -/

/-- A head in trouble is put down at x and is IDLE there; its rail is judged afresh (R54, R55, R101). -/
def State.putDown (s : State) (h : Slot) (hd : Head) (x : Int) : State :=
  ((s.standAt h hd x .idle).judgeFreeze).noteTrouble (headStateOf (some hd)) .idle

/-- The span of the head's entry contains x, both ends included (R54). -/
def State.spanContains (s : State) (h : Slot) (hd : Head) (x : Int) : Bool :=
  match s.rails.entryOf hd.rail h with
  | some e =>
    match e.span with
    | some (lo, hi) => decide (lo ≤ x) && decide (x ≤ hi)
    | none => false
  | none => false

def ruleHaltAt (h : Slot) (payload : List Byte) (s : State) : Taken :=
  match s.heads[h] with
  | none => refuse kindHaltAt .notAttached s
  | some hd =>
    if hd.status = .halted ∨ hd.status = .stale then
      if s.spanContains h hd (i32At payload 0) then
        (s.putDown h hd (i32At payload 0), plainReply .ok)
      else refuse kindHaltAt .badField s
    else refuse kindHaltAt .badState s

def execHaltAt (h : Slot) (payload : List Byte) (s : State) : Host.Outcome State Fault Refusal :=
  takeMessage (headPort h) kindHaltAt payload (ruleHaltAt h payload) s

/-- HEAD_RECOVER with its fields in range (R55, R84). -/
def State.recoverHead (s : State) (h : Slot) (x : Int) : Taken :=
  match s.heads[h] with
  | none => refuse kindHeadRecover .badState s
  | some hd =>
    if !hd.status.inTrouble then refuse kindHeadRecover .badState s
    else
      let e := footprint h hd.clearance x
      match conflict (s.rails.list hd.rail) e.owner e.lo e.hi with
      | some owner => refuseOverlap owner s
      | none => (s.putDown h hd x, plainReply .ok)

def ruleHeadRecover (payload : List Byte) (s : State) : Taken :=
  match indexAt 8 payload 0 with
  | some h =>
    if inJig (i32At payload 1) then s.recoverHead h (i32At payload 1)
    else refuse kindHeadRecover .badField s
  | none => refuse kindHeadRecover .badField s

def execHeadRecover (payload : List Byte) (s : State) : Host.Outcome State Fault Refusal :=
  takeMessage supervisorPort kindHeadRecover payload (ruleHeadRecover payload) s

def ruleHeadEvict (payload : List Byte) (s : State) : Taken :=
  match indexAt 8 payload 0 with
  | none => refuse kindHeadEvict .badField s
  | some h =>
    match s.heads[h] with
    | none => refuse kindHeadEvict .badState s
    | some hd =>
      if !hd.status.inTrouble then refuse kindHeadEvict .badState s
      else (((s.detachHead h hd.rail).judgeFreeze).noteTrouble (headStateOf (some hd)) .detached,
        plainReply .ok)

def execHeadEvict (payload : List Byte) (s : State) : Host.Outcome State Fault Refusal :=
  takeMessage supervisorPort kindHeadEvict payload (ruleHeadEvict payload) s

/-- What a break on the head's port does to the head (R86). -/
def State.linkBreak (s : State) (h : Slot) : State :=
  match s.heads[h] with
  | none => s
  | some hd =>
    let faulted : State → State := fun x =>
      (x.judgeFreeze).noteTrouble (headStateOf (some hd)) .faulted
    match hd.status with
    | .idle => s
    | .faulted => s
    | .travelHole g =>
      faulted ((s.raiseForHole .linkBreak g.hole h h.val 0).endWithHold h hd g .linkBreak .faulted)
    | .work g =>
      faulted ((s.raiseForHole .linkBreak g.hole h h.val 1).endWithHold h hd g .linkBreak .faulted)
    | .travelMove _ => faulted (s.endMoveGrant h .faulted)
    | .halted => faulted (s.setStatus h .faulted)
    | .stale => faulted (s.setStatus h .faulted)

/-! ### Motion timer expiry (R82, R97) -/

/-- The timer has reached its limit while it runs (R97). -/
def State.expiryDue (s : State) (h : Slot) : Bool :=
  match s.timers[h] with
  | .stopped => false
  | .counting _ limit count => s.timerRunning h && decide (limit ≤ count)

/-- The second detail of WORK_TIMEOUT (R129). -/
def TimerStage.detail : TimerStage → Int
  | .travel => 0
  | .work => 1

/-- The limit and stage of a timer (R129). -/
def MotionTimer.details : MotionTimer → Int × Int
  | .stopped => (0, 0)
  | .counting stage limit _ => (limit, stage.detail)

/-- The expiry of a head's timer: the grant ends and the head becomes STALE (R82, R97, R100). -/
def State.expireTimer (s : State) (h : Slot) : State :=
  match s.heads[h] with
  | none => s
  | some hd =>
    let stale : State → State := fun x =>
      (x.judgeFreeze).noteTrouble (headStateOf (some hd)) .stale
    match hd.status.holeGrant with
    | some g =>
      let d := s.timers[h].details
      stale (((s.raiseForHole .workTimeout g.hole h d.1 d.2).endWithHold h hd g .workTimeout
        .stale).makePending (headPort h) .hold)
    | none => stale (s.endMoveGrant h .stale)

def execMotionTimerExpiry (h : Slot) (s : State) : Host.Outcome State Fault Refusal :=
  takeEvent (s.expiryDue h) (fun x => x.expireTimer h) s

/-! ### HEAD_QUERY (R63) -/

/-- A timer record as a query reports it; running is present unless it is STOPPED (R90). -/
def MotionTimer.report (t : MotionTimer) (running : Bool) : TimerReport :=
  match t with
  | .stopped => .stopped
  | .counting stage limit count => .counting stage limit count running

/-- The head record as a query reports it (R60, R63, R88, R90). -/
def State.headReport (s : State) (h : Slot) : Option HeadReport :=
  s.heads[h].map (fun hd =>
    { head := hd, entry := s.rails.entryOf hd.rail h,
      timer := s.timers[h].report (s.timerRunning h), permit := s.permit h })

def ruleHeadQuery (h : Slot) (s : State) : Taken :=
  (s, ⟨.ok, 0, .headRecord (headStateOf s.heads[h]) (s.headReport h)⟩)

def execHeadQuery (h : Slot) (payload : List Byte) (s : State) : Host.Outcome State Fault Refusal :=
  takeMessage (headPort h) kindHeadQuery payload (ruleHeadQuery h) s

end Sys2Proof.Machine
end

