-- ==== Sys2Proof/Machine/Deviations.lean ====
section
/-! DEFINITION. The Deviation Unit's messages (section 7.4) and LOG_READ of the Completion Log (R143). -/

namespace Sys2Proof.Machine

/-- The fixed classes, whose mode is HOLDING at all times (R125). -/
def DevClass.fixed : DevClass → Bool
  | .workTimeout => true
  | .linkBreak => true
  | _ => false

/-- The mode of a class becomes the mode given (R133). -/
def DeviationUnit.setMode (d : DeviationUnit) (c : DevClass) (m : DevMode) : DeviationUnit :=
  { d with modes := d.modes.set c.index m }

def ruleDevMode (payload : List Byte) (s : State) : Taken :=
  match devClassOfCode (u8At payload 0), devModeOfCode (u8At payload 1) with
  | some c, some m =>
    if c.fixed then refuse kindDevMode .badField s
    else (s.setDev (s.dev.setMode c m), ⟨.ok, 0, .modeInForce m⟩)
  | _, _ => refuse kindDevMode .badField s

def execDevMode (payload : List Byte) (s : State) : Host.Outcome State Fault Refusal :=
  takeMessage supervisorPort kindDevMode payload (ruleDevMode payload) s

/-- The summary flags without those of a set of classes (R134, step 1). -/
def clearFlags (flags : Vector Bool 10) (classes : List DevClass) : Vector Bool 10 :=
  classes.foldl (fun acc c => acc.set c.index false) flags

/-- The record after a clear of a set of classes (R134, steps 1 and 2). -/
def DeviationUnit.clear (d : DeviationUnit) (classes : List DevClass) : DeviationUnit :=
  { d with
    flags := clearFlags d.flags classes
    first := match d.first with
      | some f => if classes.contains f.cls then none else some f
      | none => none }

def ruleDevClear (payload : List Byte) (s : State) : Taken :=
  match classSetOfCode (u16At payload 0) with
  | none => refuse kindDevClear .badField s
  | some classes =>
    let d := s.dev.clear classes
    (s.setDev d, ⟨.ok, 0, .flagsLeft d.flags d.first.isSome⟩)

def execDevClear (payload : List Byte) (s : State) : Host.Outcome State Fault Refusal :=
  takeMessage supervisorPort kindDevClear payload (ruleDevClear payload) s

/-- The Deviation Unit as DEV_READ reports it, with the classes that are not fixed as settable (R125,
R135). -/
def DeviationUnit.report (d : DeviationUnit) : DeviationReport where
  modes := d.modes
  settable := mapRow (fun c => !c.fixed) classRow
  flags := d.flags
  first := d.first

def ruleDevRead (s : State) : Taken := (s, ⟨.ok, 0, .deviations s.dev.report⟩)

def execDevRead (payload : List Byte) (s : State) : Host.Outcome State Fault Refusal :=
  takeMessage supervisorPort kindDevRead payload ruleDevRead s

/-- The list without its n oldest records (R143). -/
def CompletionLog.dropOldest (l : CompletionLog) (n : Nat) : CompletionLog :=
  { l with records := l.records.drop n }

def ruleLogRead (payload : List Byte) (s : State) : Taken :=
  let n := u8At payload 0
  if !inRange 1 2 n then refuse kindLogRead .badField s
  else
    let l := s.log.dropOldest n
    (s.setLog l, ⟨.ok, 0, .logRecords (s.log.records.take n) l.records.length⟩)

def execLogRead (payload : List Byte) (s : State) : Host.Outcome State Fault Refusal :=
  takeMessage supervisorPort kindLogRead payload (ruleLogRead payload) s

end Sys2Proof.Machine
end

