-- ==== Sys2Proof/Machine/Fences.lean ====
section
/-! DEFINITION. The fences of the Rail Map (section 3.3): FENCE_SET and FENCE_CLEAR. -/

namespace Sys2Proof.Machine

/-- The rails a fence covers, rail A first (R58). -/
def FenceRails.rails : FenceRails → List Rail
  | .onlyA => [.A]
  | .onlyB => [.B]
  | .both => [.A, .B]

/-- The first conflict of a fence's interval on the rails it would cover (R58, check 2). -/
def RailMap.fenceConflict (m : RailMap) (id : FenceId) (lo hi : Int) (rails : List Rail) :
    Option Owner :=
  rails.findSome? (fun r => conflict (m.list r) (.fence id) lo hi)

/-- A fence's entries are removed from both rails (R58). -/
def RailMap.removeFence (m : RailMap) (id : FenceId) : RailMap :=
  { m with listA := removeOwner (.fence id) m.listA, listB := removeOwner (.fence id) m.listB }

/-- The entry of a fence (R45, R57). -/
def fenceEntry (id : FenceId) (lo hi : Int) : Entry where
  owner := .fence id
  shape := .fence
  lo := lo
  hi := hi
  span := none

/-- A fence's old entries are removed and its new ones inserted on each rail it covers (R58). -/
def RailMap.setFence (m : RailMap) (id : FenceId) (rails : FenceRails) (lo hi : Int) : RailMap :=
  let m1 := m.removeFence id
  let m2 := rails.rails.foldl
    (fun acc r => acc.setList r (insertEntry (fenceEntry id lo hi) (acc.list r))) m1
  { m2 with fences := m2.fences.set id (some ⟨rails, lo, hi⟩) }

/-- A fence's entries are removed and its record becomes absent (R58). -/
def RailMap.clearFence (m : RailMap) (id : FenceId) : RailMap :=
  let m1 := m.removeFence id
  { m1 with fences := m1.fences.set id none }

def ruleFenceSet (payload : List Byte) (s : State) : Taken :=
  let lo := i32At payload 2
  let hi := i32At payload 6
  match indexAt 4 payload 0, fenceRailsOfCode (u8At payload 1) with
  | some id, some rails =>
    if inJig lo && inJig hi && decide (lo < hi) then
      match s.rails.fenceConflict id lo hi rails.rails with
      | some owner => refuseOverlap owner s
      | none => (s.setRails (s.rails.setFence id rails lo hi), plainReply .ok)
    else refuse kindFenceSet .badField s
  | _, _ => refuse kindFenceSet .badField s

def execFenceSet (payload : List Byte) (s : State) : Host.Outcome State Fault Refusal :=
  takeMessage supervisorPort kindFenceSet payload (ruleFenceSet payload) s

def ruleFenceClear (payload : List Byte) (s : State) : Taken :=
  match indexAt 4 payload 0 with
  | none => refuse kindFenceClear .badField s
  | some id =>
    match s.rails.fences[id] with
    | none => refuse kindFenceClear .badState s
    | some _ => (s.setRails (s.rails.clearFence id), plainReply .ok)

def execFenceClear (payload : List Byte) (s : State) : Host.Outcome State Fault Refusal :=
  takeMessage supervisorPort kindFenceClear payload (ruleFenceClear payload) s

end Sys2Proof.Machine
end

