-- ==== Sys2Proof/Machine/Heat.lean ====
section
/-! DEFINITION. The Heat Queue (Chapter 6): rivets from the heater, their placement and expiry, the feed,
the ram capture, and the heater's query. -/

namespace Sys2Proof.Machine

/-! ### Serials (R104) -/

/-- The serials of the rivets in the queue, the chute and the grant records (R104). -/
def State.serialsHeld (s : State) : List (BitVec 16) :=
  (s.heat.queue ++ s.heat.chute.toList).map Rivet.serial
    ++ s.heads.toList.filterMap (fun o =>
      (o.bind (fun hd => hd.status.holeGrant)).bind (fun g => g.rivet.map Rivet.serial))

/-- The first serial from a start, counting upward and wrapping, that is not held; n bounds the search
(R104). -/
def freeSerial (held : List (BitVec 16)) : Nat → BitVec 16 → BitVec 16
  | 0, v => v
  | n + 1, v => if held.contains v then freeSerial held n (v + 1) else v

/-- The serial an accepted rivet is given: the search ends within 16 values (R104). -/
def State.nextSerial (s : State) : BitVec 16 := freeSerial s.serialsHeld 16 s.heat.serialCounter

/-! ### Placement (R108, R114) -/

/-- The class of the hole a slot's grant names (R113). -/
def State.holeClass (s : State) (h : Slot) : Option RivetClass :=
  ((s.heads[h].bind (fun hd => hd.status.holeGrant)).bind
    (fun g => s.plan.hole? g.hole)).map Hole.cls

/-- The oldest waiting head whose hole has a class (R108, R114). -/
def State.waitingFor (s : State) (c : RivetClass) : Option Slot :=
  s.heat.waiting.find? (fun h => s.holeClass h == some c)

/-- The set phase of the grant of a head in WORK (R62). -/
def State.setPhase (s : State) (h : Slot) (phase : SetPhase) : State :=
  match s.heads[h] with
  | some hd =>
    match hd.status with
    | .work g => s.setHead h (some { hd with status := .work { g with phase := some phase } })
    | _ => s
  | none => s

/-- A rivet is given its serial: the counter goes past it and the accepted count rises (R104, R108). -/
def HeatQueue.accept (q : HeatQueue) (serial : BitVec 16) : HeatQueue :=
  { q with serialCounter := serial + 1, accepted := saturatingSucc 4294967295 q.accepted }

/-- The hand-over of an accepted rivet to a waiting head (R114). -/
def State.handOver (s : State) (h : Slot) (r : Rivet) : State :=
  let s1 := s.setHeat
    { s.heat.accept r.serial with waiting := s.heat.waiting.filter (fun w => !(w == h)) }
  let s2 := (s1.setPhase h (.fed r)).startTimer h .work s.params.workSetMs
  s2.makePending (headPort h) .feedGiven

/-- A rivet joins the end of the queue, and the full mark follows (R108, R120). -/
def HeatQueue.append (q : HeatQueue) (r : Rivet) : HeatQueue :=
  { q.accept r.serial with queue := q.queue ++ [r],
                           fullMark := fullMarkAfter q.fullMark (q.queue.length + 1) }

/-- The reply OK to a RIVET_OUT, with the serial (R108). -/
def rivetAccepted (serial : BitVec 16) : Reply := ⟨.ok, 0, .rivetSerial (some serial)⟩

/-- The placement of a rivet that has passed the checks of R107 (R108). -/
def State.placeRivet (s : State) (c : RivetClass) : Taken :=
  let r : Rivet := ⟨s.nextSerial, c, s.clock⟩
  match s.waitingFor c with
  | some h => (s.handOver h r, rivetAccepted r.serial)
  | none =>
    if s.heat.queue.length < Config.queueCapacity then
      (s.setHeat (s.heat.append r), rivetAccepted r.serial)
    else if s.heat.chute.isNone then
      (s.setHeat { s.heat.accept r.serial with chute := some r }, rivetAccepted r.serial)
    else (s.setHeat { s.heat with overrun := true }, refusal kindRivetOut .overrun)

/-- A rivet outside the exit temperature window raises HEAT_WINDOW with the bound it lies beyond
(R107). -/
def State.rejectTemp (s : State) (temp : Nat) : Taken :=
  (s.raiseUnbound .heatWindow temp
      (if temp < s.params.heatMin then s.params.heatMin else s.params.heatMax),
    refusal kindRivetOut .rejectedTemp)

def ruleRivetOut (payload : List Byte) (s : State) : Taken :=
  let temp := u16At payload 1
  if s.heat.overrun then refuse kindRivetOut .overrun s
  else
    match rivetClassOfCode (u8At payload 0) with
    | none => refuse kindRivetOut .badField s
    | some c =>
      if !inRange 0 1400 temp then refuse kindRivetOut .badField s
      else if !inRange s.params.heatMin s.params.heatMax temp then s.rejectTemp temp
      else s.placeRivet c

def execRivetOut (payload : List Byte) (s : State) : Host.Outcome State Fault Refusal :=
  takeMessage heaterPort kindRivetOut payload (ruleRivetOut payload) s

/-! ### HEATER_CLEAR (R110) -/

/-- The number of rivets in the queue and the chute. -/
def HeatQueue.trayCount (q : HeatQueue) : Nat := q.queue.length + q.chute.toList.length

/-- Every rivet of the tray is discarded and overrun is cleared (R110). -/
def HeatQueue.clear (q : HeatQueue) : HeatQueue :=
  { q with queue := [], chute := none, overrun := false, fullMark := fullMarkAfter q.fullMark 0,
           scrapped := min 4294967295 (q.scrapped + q.trayCount) }

def ruleHeaterClear (s : State) : Taken :=
  (s.setHeat s.heat.clear, ⟨.ok, 0, .discarded s.heat.trayCount⟩)

def execHeaterClear (payload : List Byte) (s : State) : Host.Outcome State Fault Refusal :=
  takeMessage supervisorPort kindHeaterClear payload ruleHeaterClear s

/-! ### Expiry in the tray (R111) -/

/-- A rivet's age has reached the budget of its class (R111). -/
def State.rivetDue (s : State) (r : Rivet) : Bool :=
  decide (s.budgetMs r.cls ≤ age s.clock r.heatOut)

/-- The first rivet of the queue, else of the chute, that a test holds for is taken out (R109). -/
def HeatQueue.takeOut (q : HeatQueue) (test : Rivet → Bool) : HeatQueue :=
  if q.queue.any test then q.afterRemoval (q.queue.eraseP test)
  else if q.chute.any test then { q with chute := none }
  else q

/-- The rivet of a serial in the tray expires (R111). -/
def HeatQueue.expire (q : HeatQueue) (serial : BitVec 16) : HeatQueue :=
  (q.takeOut (fun r => r.serial == serial)).scrapOne

/-- A rivet of the serial in the queue or the chute is due to expire (R111). -/
def State.rivetExpiryDue (s : State) (serial : BitVec 16) : Bool :=
  (s.heat.queue ++ s.heat.chute.toList).any (fun r => r.serial == serial && s.rivetDue r)

def execRivetExpiry (serial : BitVec 16) (s : State) : Host.Outcome State Fault Refusal :=
  takeEvent (s.rivetExpiryDue serial) (fun x => x.setHeat (x.heat.expire serial)) s

/-- In a write of BUDGET_c every rivet of class c whose age has reached the new budget expires, oldest
first (R106). -/
def State.expireClass (s : State) (c : RivetClass) : State :=
  (((s.heat.queue ++ s.heat.chute.toList).filter (fun r => r.cls == c && s.rivetDue r)).map
    Rivet.serial).foldl (fun acc v => acc.setHeat (acc.heat.expire v)) s

/-! ### FEED (R112, R113) -/

/-- The rivet a FEED of a class takes: the queue, oldest first, then the chute (R112). -/
def HeatQueue.rivetOf (q : HeatQueue) (c : RivetClass) : Option Rivet :=
  (q.queue ++ q.chute.toList).find? (fun r => r.cls == c)

/-- FEED of a head in WORK in phase UNFED (R112, R113). -/
def State.feedHead (s : State) (h : Slot) (c : RivetClass) : Taken :=
  match s.heat.rivetOf c with
  | some r =>
    ((s.setHeat (s.heat.takeOut (fun x => x.cls == c))).setPhase h (.fed r),
      ⟨.given, 0, .rivetGiven r.serial r.cls (age s.clock r.heatOut)⟩)
  | none =>
    ((s.setHeat { s.heat with waiting := s.heat.waiting ++ [h] }).setPhase h .feedWait,
      plainReply .wait)

def ruleFeed (h : Slot) (s : State) : Taken :=
  match s.heads[h] with
  | none => refuse kindFeed .notAttached s
  | some hd =>
    match hd.status with
    | .work g =>
      if hd.kind ≠ .set then refuse kindFeed .badState s
      else if g.phase ≠ some .unfed then refuse kindFeed .badState s
      else
        match s.plan.hole? g.hole with
        | none => refuse kindFeed .badState s
        | some hole => s.feedHead h hole.cls
    | _ => refuse kindFeed .badState s

def execFeed (h : Slot) (payload : List Byte) (s : State) : Host.Outcome State Fault Refusal :=
  takeMessage (headPort h) kindFeed payload (ruleFeed h) s

/-! ### Ram capture (R117) -/

/-- A selected edge of RAM_h captures the age of a FED rivet (R117). -/
def State.ramCapture (s : State) (h : Slot) : State :=
  match s.heads[h] with
  | some hd =>
    match hd.kind, hd.status with
    | .set, .work g =>
      match g.phase with
      | some (.fed r) => s.setPhase h (.rammed r (age s.clock r.heatOut))
      | _ => s
    | _, _ => s
  | none => s

/-! ### HEATER_QUERY (R123) -/

/-- The Heat Queue as a query reports it (R123). -/
def State.heatReport (s : State) : HeatReport where
  queue := s.heat.queue.map (fun r => r.withAge s.clock)
  chute := s.heat.chute.map (fun r => r.withAge s.clock)
  overrun := s.heat.overrun
  fullMark := s.heat.fullMark
  pause := s.heaterPause
  waitingClasses := s.heat.waiting.filterMap s.holeClass
  heatMin := s.params.heatMin
  heatMax := s.params.heatMax
  budgetsMs := mapRow (fun b => b * 100) s.params.budgets
  accepted := s.heat.accepted
  scrapped := s.heat.scrapped

def ruleHeaterQuery (s : State) : Taken := (s, ⟨.ok, 0, .heater s.heatReport⟩)

def execHeaterQuery (payload : List Byte) (s : State) : Host.Outcome State Fault Refusal :=
  takeMessage heaterPort kindHeaterQuery payload ruleHeaterQuery s

end Sys2Proof.Machine
end

