-- ==== Sys2Proof/Machine/Terminals.lean ====
section
/-! DEFINITION. The Terminals block (Chapter 9): configuration, switch inputs and their accepted edges,
probe sampling, and the terminal messages. -/

namespace Sys2Proof.Machine

/-! ### Accepted edges (R151, R153) -/

/-- A selected edge reaches the pending latch, with a TERMINAL notice when pending was 0 (R153). -/
def State.latchEdge (s : State) (t : TermId) : State :=
  let r := s.terminals[t]
  if r.pendingEnable then
    let s' := s.setTerminal t { r with pending := true }
    if r.pending then s' else s'.makePending supervisorPort .terminal
  else s

/-- What an accepted edge of a terminal does in the block that uses its function (R151). -/
def State.handOnEdge (s : State) (r : Terminal) (toActive : Bool) : State :=
  match r.function with
  | .clampBay b => if toActive then s else s.clampDrop b.val
  | .ram h => if edgeSelected r.edge toActive then s.ramCapture h else s
  | _ => s

/-- An edge is accepted: the debounced level changes, the candidate is removed, and the edge is handed
on and latched (R151). -/
def State.acceptEdge (s : State) (t : TermId) (toActive : Bool) : State :=
  let r := s.terminals[t]
  let s1 := s.setTerminal t { r with level := toActive, candidate := none }
  let s2 := s1.handOnEdge r toActive
  if edgeSelected r.edge toActive then s2.latchEdge t else s2

/-- A terminal in SWITCH_IN holds a candidate whose age has reached DEBOUNCE_MS (R151). -/
def State.acceptanceDue (s : State) (t : TermId) : Bool :=
  let r := s.terminals[t]
  r.mode == .switchIn &&
    match r.candidate with
    | some c => decide (s.params.debounceMs ≤ age s.clock c.since)
    | none => false

/-- The acceptance of a terminal's candidate (R151). -/
def State.acceptCandidate (s : State) (t : TermId) : State :=
  match s.terminals[t].candidate with
  | some c => s.acceptEdge t c.active
  | none => s

def execAcceptance (t : TermId) (s : State) : Host.Outcome State Fault Refusal :=
  takeEvent (s.acceptanceDue t) (fun x => x.acceptCandidate t) s

/-- In a write of DEBOUNCE_MS each terminal with a candidate, ascending, whose age has reached the value
is accepted (R152). -/
def State.acceptDue (s : State) : State :=
  (indices 40).foldl (fun acc t => if acc.acceptanceDue t then acc.acceptCandidate t else acc) s

/-- A change of the raw level of a SWITCH_IN terminal is judged against its debounced level; with
DEBOUNCE_MS 0 it is accepted at once (R151). -/
def State.judgeRaw (s : State) (t : TermId) (active : Bool) : State :=
  let r := s.terminals[t]
  if active = r.level then s.setTerminal t { r with candidate := none }
  else
    let s1 := s.setTerminal t { r with candidate := some ⟨active, s.clock⟩ }
    if s.params.debounceMs = 0 then s1.acceptEdge t active else s1

/-- The pin of a terminal goes to a level; it is an event of the terminal in SWITCH_IN alone (R151). -/
def State.changePin (s : State) (t : TermId) (high : Bool) : State :=
  let s1 := s.setPin t high
  if s.terminals[t].mode = .switchIn then
    s1.judgeRaw t (activeThrough s.terminals[t].polarity high)
  else s1

/-- The level of a pin is the outside world's and is followed while RESET_N is low too, when it is no
event (R163, log entry 3). -/
def execRawChange (t : TermId) (high : Bool) (s : State) : Host.Outcome State Fault Refusal :=
  if s.inReset then .next (s.setPin t high)
  else takeEvent (!(s.pinHigh[t] == high)) (fun x => x.changePin t high) s

/-! ### Probe inputs (R155 to R157) -/

/-- The codes 0 and 4095 are rail readings (section 9.4). -/
def railReading (code : ProbeCode) : Bool := code.toNat == 0 || code.toNat == 4095

/-- A non-rail code converted to a temperature in 0.1 degrees (R157). -/
def convertCode (code : ProbeCode) : Int :=
  max (-300) (min 1500 (-500 + (((code.toNat * 2500 + 2047) / 4095 : Nat) : Int)))

/-- A probe record after a sample (R156). -/
def Terminal.sample (r : Terminal) (code : ProbeCode) (now : Clock) : Terminal :=
  let q := { r with lastCode := some code, sampledAt := now }
  if r.probeOk then
    if railReading code then
      if r.runCount + 1 < 3 then { q with runCount := r.runCount + 1 }
      else { q with probeOk := false, runCount := 0 }
    else { q with probeValue := some (convertCode code), runCount := 0 }
  else if railReading code then { q with runCount := 0 }
  else if r.runCount + 1 < 3 then
    { q with probeValue := some (convertCode code), runCount := r.runCount + 1 }
  else { q with probeValue := some (convertCode code), probeOk := true, runCount := 0 }

/-- A sample is due 250 ms after the one before (R155). -/
def State.sampleDue (s : State) (t : TermId) : Bool :=
  s.terminals[t].mode == .probeIn &&
    decide (Config.samplePeriod ≤ age s.clock s.terminals[t].sampledAt)

/-- A sample is judged, and its events are handed to the segments that name the terminal (R155). -/
def State.takeSample (s : State) (t : TermId) (code : ProbeCode) : State :=
  let before := s.terminals[t]
  let after := before.sample code s.clock
  let s1 := s.setTerminal t after
  if after.probeOk then
    match after.probeValue with
    | some v => s1.probeReading t v
    | none => s1
  else if before.probeOk then s1.probeFault t
  else s1

def execProbeSample (t : TermId) (code : ProbeCode) (s : State) :
    Host.Outcome State Fault Refusal :=
  takeEvent (s.sampleDue t) (fun x => x.takeSample t code) s

/-! ### Hold expiry (R31) -/

/-- The hold of a HELD segment has reached PROBE_HOLD and ends (R31). -/
def execHoldExpiry (k : Fin 16) (s : State) : Host.Outcome State Fault Refusal :=
  takeEvent (s.holdDue k.val) (fun x => x.expireHold k.val) s

/-! ### TERM_CONFIG (R149, R150) -/

/-- The fields of a TERM_CONFIG, each a defined code (R149, check 1). -/
structure TermFields where
  terminal : TermId
  mode : TermMode
  function : TermFunction
  polarity : Polarity
  edge : EdgeSelect
  deriving DecidableEq, Repr

/-- The fields a TERM_CONFIG carries (R149, check 1). -/
def termFieldsOf (payload : List Byte) : Option TermFields :=
  match indexAt 40 payload 0, termModeOfCode (u8At payload 1), functionOfCode (u8At payload 2),
      polarityOfCode (u8At payload 3), edgeOfCode (u8At payload 4) with
  | some t, some m, some f, some p, some e => some ⟨t, m, f, p, e⟩
  | _, _, _, _, _ => none

/-- A function other than PLAIN and PROBE, which stands on at most one terminal (R148). -/
def TermFunction.unique : TermFunction → Bool
  | .plain => false
  | .probe => false
  | _ => true

/-- The function stands on a terminal other than the one given (R149, check 4). -/
def State.standsElsewhere (s : State) (t : TermId) (f : TermFunction) : Bool :=
  (indices 40).any (fun u => !(u == t) && s.terminals[u].function == f)

/-- The effect of leaving a mode on the other blocks: a clamp drop, or a probe's fault (R150). -/
def State.leaveMode (s : State) (t : TermId) (old : Terminal) : State :=
  match old.mode with
  | .switchIn =>
    match old.function with
    | .clampBay b => if old.level then s.clampDrop b.val else s
    | _ => s
  | .probeIn => if old.probeOk then s.probeFault t else s
  | _ => s

/-- The terminal's record after a TERM_CONFIG: the mode's own fields take the values of R150, and the
latch and pending enable are kept. -/
def Terminal.configured (r : Terminal) (f : TermFields) (pinHigh : Bool) (now : Clock) : Terminal where
  mode := f.mode
  function := f.function
  polarity := f.polarity
  edge := f.edge
  pendingEnable := r.pendingEnable
  pending := false
  latch := r.latch
  level := f.mode == .switchIn && activeThrough f.polarity pinHigh
  candidate := none
  probeOk := false
  probeValue := none
  lastCode := none
  runCount := 0
  sampledAt := if f.mode = .probeIn then now else r.sampledAt

/-- A TERM_CONFIG that has passed its checks (R149, R150). -/
def State.configure (s : State) (f : TermFields) : State :=
  let old := s.terminals[f.terminal]
  (s.setTerminal f.terminal (old.configured f s.pinHigh[f.terminal] s.clock)).leaveMode f.terminal old

def ruleTermConfig (payload : List Byte) (s : State) : Taken :=
  match termFieldsOf payload with
  | none => refuse kindTermConfig .badField s
  | some f =>
    if f.mode ≠ .disabled ∧ s.terminals[f.terminal].mode ≠ .disabled then
      refuse kindTermConfig .badState s
    else if !functionFits f.mode f.function then refuse kindTermConfig .badField s
    else if f.function.unique && s.standsElsewhere f.terminal f.function then
      refuse kindTermConfig .duplicate s
    else (s.configure f, plainReply .ok)

def execTermConfig (payload : List Byte) (s : State) : Host.Outcome State Fault Refusal :=
  takeMessage supervisorPort kindTermConfig payload (ruleTermConfig payload) s

/-! ### TERM_WRITE, TERM_ACK and TERM_READ (R154, R161) -/

/-- A terminal's latch and pending enable are written; a pending enable of 0 makes pending 0 (R154). -/
def Terminal.written (r : Terminal) (latch enable : Bool) : Terminal :=
  { r with latch := latch, pendingEnable := enable, pending := r.pending && enable }

def ruleTermWrite (payload : List Byte) (s : State) : Taken :=
  match indexAt 40 payload 0, bitOfCode (u8At payload 1), bitOfCode (u8At payload 2) with
  | some t, some latch, some enable =>
    (s.setTerminal t (s.terminals[t].written latch enable), plainReply .ok)
  | _, _, _ => refuse kindTermWrite .badField s

def execTermWrite (payload : List Byte) (s : State) : Host.Outcome State Fault Refusal :=
  takeMessage supervisorPort kindTermWrite payload (ruleTermWrite payload) s

/-- Pending becomes 0 on every terminal of a set (R154). -/
def State.acknowledge (s : State) (set : List TermId) : State :=
  set.foldl (fun acc t => acc.setTerminal t { acc.terminals[t] with pending := false }) s

def ruleTermAck (payload : List Byte) (s : State) : Taken :=
  match terminalsNamed payload.tail with
  | none => refuse kindTermAck .badField s
  | some set =>
    let s' := s.acknowledge set
    (s', ⟨.ok, 0, .terminalSet (s'.terminalsWhere Terminal.pending)⟩)

def execTermAck (payload : List Byte) (s : State) : Host.Outcome State Fault Refusal :=
  takeMessage supervisorPort kindTermAck payload (ruleTermAck payload) s

/-- A terminal as TERM_READ reports it (R161). -/
def State.termReport (s : State) (r : Terminal) : TermReport where
  mode := r.mode
  function := r.function
  polarity := r.polarity
  edge := r.edge
  pendingEnable := r.pendingEnable
  latch := r.latch
  level := r.mode == .switchIn && r.level
  pending := r.mode == .switchIn && r.pending
  candidate := if r.mode = .switchIn then
    r.candidate.map (fun c => (c.active, age s.clock c.since)) else none
  activeLevel := if r.mode = .out then some (s.activeLevel r) else none
  probe := if r.mode = .probeIn then some (r.probeOk, r.probeValue, r.lastCode, r.runCount) else none

def ruleTermRead (payload : List Byte) (s : State) : Taken :=
  match indexAt 40 payload 0 with
  | none => refuse kindTermRead .badField s
  | some t => (s, ⟨.ok, 0, .terminalRecord (s.termReport s.terminals[t])⟩)

def execTermRead (payload : List Byte) (s : State) : Host.Outcome State Fault Refusal :=
  takeMessage supervisorPort kindTermRead payload (ruleTermRead payload) s

end Sys2Proof.Machine
end

