-- ==== Sys2Proof/Machine/Parameters.lean ====
section
/-! DEFINITION. SET_PARAM and GET_PARAM (R178): the generic write, the writes that act at once, and the
read. -/

namespace Sys2Proof.Machine

/-! ### The parameters by id (R178) -/

/-- The value in force of the parameter of an id (R178). -/
def Params.get (q : Params) : Nat → Option Nat
  | 1 => some q.alpha
  | 2 => some q.corrLimit
  | 3 => some q.probeHold
  | 4 => some q.clearDrill
  | 5 => some q.clearSet
  | 6 => some q.diaTol
  | 7 => some q.stackTol
  | 8 => some q.travelBaseMs
  | 9 => some q.travelSpeed
  | 10 => some q.workDrillMs
  | 11 => some q.workSetMs
  | 12 => some (if q.staleFreeze then 1 else 0)
  | 13 => some q.heatMin
  | 14 => some q.heatMax
  | 15 => some q.budgets[0]
  | 16 => some q.budgets[1]
  | 17 => some q.budgets[2]
  | 18 => some q.budgets[3]
  | 19 => some q.budgets[4]
  | 20 => some q.budgets[5]
  | 21 => some q.logThreshold
  | 22 => some q.debounceMs
  | _ => none

/-- The write of a parameter whose write has no behaviour of its own (R43, R59, R74, R91, R92). -/
def Params.put (q : Params) (id v : Nat) : Params :=
  match id with
  | 1 => { q with alpha := v }
  | 2 => { q with corrLimit := v }
  | 4 => { q with clearDrill := v }
  | 5 => { q with clearSet := v }
  | 6 => { q with diaTol := v }
  | 7 => { q with stackTol := v }
  | 8 => { q with travelBaseMs := v }
  | 9 => { q with travelSpeed := v }
  | 10 => { q with workDrillMs := v }
  | 11 => { q with workSetMs := v }
  | _ => q

/-- The reply to a write: the id and the stored value; LIMITED when the value was changed (R178). -/
def writeReply (id : Nat) (v : Int) (stored : Nat) : Reply :=
  ⟨limitedCode v stored, 0, .parameter (BitVec.ofNat 8 id) stored⟩

/-- The value a SET_PARAM writes (R175). -/
def writtenValue (payload : List Byte) : Int := i32At payload 1

/-- A write of a parameter of a range: its value saturated, the effect of the stored value, and the
reply (R178). -/
def State.writeParam (s : State) (payload : List Byte) (effect : Nat → State) : Taken :=
  match paramRange (u8At payload 0) with
  | none => refuse kindSetParam .badField s
  | some (lo, hi) =>
    let stored := saturate lo hi (writtenValue payload)
    (effect stored, writeReply (u8At payload 0) (writtenValue payload) stored)

/-! ### The generic write -/

def ruleSetParam (payload : List Byte) (s : State) : Taken :=
  s.writeParam payload (fun v => s.setParams (s.params.put (u8At payload 0) v))

/-- SET_PARAM of an id whose write has no behaviour of its own, or of an unknown id, or of a wrong
length (R178, log entry 7). -/
def execSetParam (payload : List Byte) (s : State) : Host.Outcome State Fault Refusal :=
  if writesOneOf ownWriteIds payload then .next s
  else takeMessage supervisorPort kindSetParam payload (ruleSetParam payload) s

/-! ### The writes that act at once -/

/-- PROBE_HOLD acts on running holds (R34). -/
def ruleSetProbeHold (payload : List Byte) (s : State) : Taken :=
  s.writeParam payload (fun v => (s.setParams { s.params with probeHold := v }).expireDueHolds)

def execSetParamProbeHold (payload : List Byte) (s : State) : Host.Outcome State Fault Refusal :=
  if writesOneOf [3] payload then
    takeMessage supervisorPort kindSetParam payload (ruleSetProbeHold payload) s
  else .next s

/-- STALE_ACTION freezes or releases rails at once (R99). -/
def ruleSetStaleAction (payload : List Byte) (s : State) : Taken :=
  s.writeParam payload (fun v =>
    (s.setParams { s.params with staleFreeze := decide (v = 1) }).judgeFreeze)

def execSetParamStaleAction (payload : List Byte) (s : State) : Host.Outcome State Fault Refusal :=
  if writesOneOf [12] payload then
    takeMessage supervisorPort kindSetParam payload (ruleSetStaleAction payload) s
  else .next s

/-- HEAT_MIN moves HEAT_MAX up when it would lie below (R105). -/
def ruleSetHeatMin (payload : List Byte) (s : State) : Taken :=
  s.writeParam payload (fun v =>
    s.setParams { s.params with heatMin := v, heatMax := max v s.params.heatMax })

def execSetParamHeatMin (payload : List Byte) (s : State) : Host.Outcome State Fault Refusal :=
  if writesOneOf [13] payload then
    takeMessage supervisorPort kindSetParam payload (ruleSetHeatMin payload) s
  else .next s

/-- HEAT_MAX moves HEAT_MIN down when it would lie above (R105). -/
def ruleSetHeatMax (payload : List Byte) (s : State) : Taken :=
  s.writeParam payload (fun v =>
    s.setParams { s.params with heatMax := v, heatMin := min v s.params.heatMin })

def execSetParamHeatMax (payload : List Byte) (s : State) : Host.Outcome State Fault Refusal :=
  if writesOneOf [14] payload then
    takeMessage supervisorPort kindSetParam payload (ruleSetHeatMax payload) s
  else .next s

/-- The class whose budget an id names (R178). -/
def budgetClass (id : Nat) : RivetClass :=
  if h : 15 ≤ id ∧ id ≤ 20 then ⟨id - 15, by omega⟩ else 0

/-- BUDGET_c expires at once every rivet of class c that has reached it (R106). -/
def ruleSetBudget (payload : List Byte) (s : State) : Taken :=
  let c := budgetClass (u8At payload 0)
  s.writeParam payload (fun v =>
    (s.setParams { s.params with budgets := s.params.budgets.set c v }).expireClass c)

def execSetParamBudget (payload : List Byte) (s : State) : Host.Outcome State Fault Refusal :=
  if writesOneOf [15, 16, 17, 18, 19, 20] payload then
    takeMessage supervisorPort kindSetParam payload (ruleSetBudget payload) s
  else .next s

/-- LOG_THRESHOLD is rounded to a member of its set (R144). -/
def ruleSetLogThreshold (payload : List Byte) (s : State) : Taken :=
  let v := writtenValue payload
  let stored := roundThreshold v
  (s.setParams { s.params with logThreshold := stored }, writeReply 21 v stored)

def execSetParamLogThreshold (payload : List Byte) (s : State) : Host.Outcome State Fault Refusal :=
  if writesOneOf [21] payload then
    takeMessage supervisorPort kindSetParam payload (ruleSetLogThreshold payload) s
  else .next s

/-- DEBOUNCE_MS accepts at once every candidate that has reached it (R152). -/
def ruleSetDebounceMs (payload : List Byte) (s : State) : Taken :=
  s.writeParam payload (fun v => (s.setParams { s.params with debounceMs := v }).acceptDue)

def execSetParamDebounceMs (payload : List Byte) (s : State) : Host.Outcome State Fault Refusal :=
  if writesOneOf [22] payload then
    takeMessage supervisorPort kindSetParam payload (ruleSetDebounceMs payload) s
  else .next s

/-! ### GET_PARAM -/

def ruleGetParam (payload : List Byte) (s : State) : Taken :=
  match s.params.get (u8At payload 0) with
  | none => refuse kindGetParam .badField s
  | some v => (s, ⟨.ok, 0, .parameter (BitVec.ofNat 8 (u8At payload 0)) v⟩)

def execGetParam (payload : List Byte) (s : State) : Host.Outcome State Fault Refusal :=
  takeMessage supervisorPort kindGetParam payload (ruleGetParam payload) s

end Sys2Proof.Machine
end

