-- ==== Sys2Proof/Machine/Plan.lean ====
section
/-! DEFINITION. The Plan Store's messages (Chapter 1): loading, sealing, the datum, release and excuse
of a hole, reading, and the end of a frame. -/

namespace Sys2Proof.Machine

/-! ### Loading (R2 to R5) -/

/-- The plan of a frame just begun: sized tables with nothing loaded (R2). -/
def PlanStore.begun (hd : PlanHeader) : PlanStore where
  state := .loading
  header := some hd
  jd := none
  holes := List.replicate hd.holeCount none
  joints := List.replicate hd.jointCount ⟨[], 0, 0, Vector.replicate 4 0⟩
  segments := List.replicate hd.segCount none
  bays := List.replicate hd.bayCount none
  counters := FrameCounters.zero

/-- The header a PLAN_BEGIN carries (R175). -/
def headerOf (payload : List Byte) : PlanHeader where
  frameId := word32At payload 0
  holeCount := u16At payload 4
  jointCount := u8At payload 6
  segCount := u8At payload 7
  bayCount := u8At payload 8
  xd := i32At payload 9

/-- Every field of a header in its range (R1, R2). -/
def PlanHeader.inRanges (hd : PlanHeader) : Bool :=
  inRange 1 1024 hd.holeCount && inRange 1 128 hd.jointCount && inRange 1 16 hd.segCount
    && inRange 1 24 hd.bayCount && inJig hd.xd

def rulePlanBegin (payload : List Byte) (s : State) : Taken :=
  if s.plan.state ≠ .empty then refuse kindPlanBegin .badState s
  else if !(headerOf payload).inRanges then refuse kindPlanBegin .badField s
  else (s.setPlan (PlanStore.begun (headerOf payload)), plainReply .ok)

def execPlanBegin (payload : List Byte) (s : State) : Host.Outcome State Fault Refusal :=
  takeMessage supervisorPort kindPlanBegin payload (rulePlanBegin payload) s

/-- seg_count, 0 while no plan is held (R1). -/
def PlanStore.segCount (p : PlanStore) : Nat :=
  match p.header with
  | some hd => hd.segCount
  | none => 0

/-- bay_count, 0 while no plan is held (R1). -/
def PlanStore.bayCount (p : PlanStore) : Nat :=
  match p.header with
  | some hd => hd.bayCount
  | none => 0

/-- joint_count, 0 while no plan is held (R1). -/
def PlanStore.jointCount (p : PlanStore) : Nat :=
  match p.header with
  | some hd => hd.jointCount
  | none => 0

/-- A segment row is stored and its index marked loaded (R3). -/
def PlanStore.loadSegment (p : PlanStore) (k : Nat) (row : SegmentRow) : PlanStore :=
  { p with
    segments := p.segments.set k (some row)
    counters := { p.counters with segsLoaded := p.counters.segsLoaded + 1 } }

def rulePlanSegment (payload : List Byte) (s : State) : Taken :=
  let k := u8At payload 0
  if s.plan.state ≠ .loading then refuse kindPlanSegment .badState s
  else
    match indexAt 40 payload 9 with
    | none => refuse kindPlanSegment .badField s
    | some t =>
      if !(decide (k < s.plan.segCount) && inJig (i32At payload 1) && inJig (i32At payload 5)) then
        refuse kindPlanSegment .badField s
      else if (s.plan.segments[k]?).join.isSome then refuse kindPlanSegment .duplicate s
      else
        (s.setPlan (s.plan.loadSegment k ⟨i32At payload 1, i32At payload 5, t⟩), plainReply .ok)

def execPlanSegment (payload : List Byte) (s : State) : Host.Outcome State Fault Refusal :=
  takeMessage supervisorPort kindPlanSegment payload (rulePlanSegment payload) s

/-- A bay row is stored and its index marked loaded (R4). -/
def PlanStore.loadBay (p : PlanStore) (b : Nat) (row : BayRow) : PlanStore :=
  { p with
    bays := p.bays.set b (some row)
    counters := { p.counters with baysLoaded := p.counters.baysLoaded + 1 } }

def rulePlanBay (payload : List Byte) (s : State) : Taken :=
  let b := u8At payload 0
  if s.plan.state ≠ .loading then refuse kindPlanBay .badState s
  else if !(decide (b < s.plan.bayCount) && inJig (i32At payload 1) && inJig (i32At payload 5)) then
    refuse kindPlanBay .badField s
  else if (s.plan.bays[b]?).join.isSome then refuse kindPlanBay .duplicate s
  else (s.setPlan (s.plan.loadBay b ⟨i32At payload 1, i32At payload 5⟩), plainReply .ok)

def execPlanBay (payload : List Byte) (s : State) : Host.Outcome State Fault Refusal :=
  takeMessage supervisorPort kindPlanBay payload (rulePlanBay payload) s

/-- A hole as PLAN_HOLE loads it: PLANNED, no reports, no marks (R5). -/
def Hole.planned (joint : Nat) (tier : Tier) (rail : Rail) (xNom yNom : Int) (cls : RivetClass)
    (stackNom : Nat) : Hole where
  joint := joint
  tier := tier
  rail := rail
  xNom := xNom
  yNom := yNom
  cls := cls
  stackNom := stackNom
  state := .planned
  grantHead := none
  heldFrom := none
  heldClass := none
  drillReport := none
  setReport := none
  marks := []

/-- The static fields a PLAN_HOLE carries, when each is in its range (R5, section 1.4). -/
def holeFields (p : PlanStore) (payload : List Byte) : Option Hole :=
  match indexAt 4 payload 3, railOfCode (u8At payload 4), rivetClassOfCode (u8At payload 13) with
  | some tier, some rail, some cls =>
    if decide (u16At payload 0 < p.holeCount) && decide (u8At payload 2 < p.jointCount)
        && inJig (i32At payload 5)
        && decide (-150000 ≤ i32At payload 9) && decide (i32At payload 9 ≤ 150000)
        && inRange 100 12000 (u16At payload 14) then
      some (Hole.planned (u8At payload 2) tier rail (i32At payload 5) (i32At payload 9) cls
        (u16At payload 14))
    else none
  | _, _, _ => none

/-- A hole number joins a member list in its ascending place (R20). -/
def insertMember (i : Nat) : List Nat → List Nat
  | [] => [i]
  | x :: xs => if i < x then i :: x :: xs else x :: insertMember i xs

/-- A hole joins its joint: the member list and the open count of its tier (R20). -/
def Joint.join (j : Joint) (i : Nat) (tier : Tier) : Joint :=
  { j with members := insertMember i j.members
           tierOpen := j.tierOpen.set tier (j.tierOpen[tier] + 1) }

/-- A hole record is stored and its index marked loaded (R5). -/
def PlanStore.loadHole (p : PlanStore) (i : Nat) (h : Hole) : PlanStore :=
  { p with
    holes := p.holes.set i (some h)
    joints := p.joints.modify h.joint (fun j => j.join i h.tier)
    counters :=
      { p.counters with
        holesLoaded := p.counters.holesLoaded + 1
        stateCounts := p.counters.stateCounts.set HoleState.planned.code
          (p.counters.stateCounts[HoleState.planned.code] + 1) } }

def rulePlanHole (payload : List Byte) (s : State) : Taken :=
  if s.plan.state ≠ .loading then refuse kindPlanHole .badState s
  else
    match holeFields s.plan payload with
    | none => refuse kindPlanHole .badField s
    | some h =>
      if (s.plan.hole? (u16At payload 0)).isSome then refuse kindPlanHole .duplicate s
      else (s.setPlan (s.plan.loadHole (u16At payload 0) h), plainReply .ok)

def execPlanHole (payload : List Byte) (s : State) : Host.Outcome State Fault Refusal :=
  takeMessage supervisorPort kindPlanHole payload (rulePlanHole payload) s

/-! ### Sealing (R6 to R8) -/

/-- The lowest index of a table that is not loaded (R6, check 1). -/
def firstMissing {α : Type} (l : List (Option α)) : Option Nat :=
  (List.range l.length).find? (fun i => ((l[i]?).join).isNone)

/-- The lowest index whose lower bound is not below its upper, or whose upper bound is not the next
row's lower (R6, checks 2 and 3). -/
def firstDisorder (l : List (Int × Int)) : Option Nat :=
  (List.range l.length).find? (fun k =>
    match l[k]? with
    | none => false
    | some a =>
      !decide (a.1 < a.2) ||
        match l[k + 1]? with
        | some b => !decide (a.2 = b.1)
        | none => false)

/-- The bounds of the loaded segments. -/
def PlanStore.segmentBounds (p : PlanStore) : List (Int × Int) :=
  (p.segments.filterMap id).map (fun g => (g.lower, g.upper))

/-- The bounds of the loaded bays. -/
def PlanStore.bayBounds (p : PlanStore) : List (Int × Int) :=
  (p.bays.filterMap id).map (fun b => (b.lower, b.upper))

/-- A nominal position lies within S_0 to S_seg_count, both included (R6). -/
def PlanStore.spansNominal (p : PlanStore) (x : Int) : Bool :=
  match p.segmentBounds.head?, p.segmentBounds.getLast? with
  | some a, some b => decide (a.1 ≤ x) && decide (x ≤ b.2)
  | _, _ => false

/-- The lowest hole whose x_nom lies outside the segments (R6, check 4). -/
def PlanStore.firstOutside (p : PlanStore) : Option Nat :=
  (List.range p.holes.length).find? (fun i =>
    match p.hole? i with
    | some h => !p.spansNominal h.xNom
    | none => false)

/-- The lowest joint with members and none of tier 0 (R6, check 6). -/
def PlanStore.firstUntacked (p : PlanStore) : Option Nat :=
  (List.range p.joints.length).find? (fun j =>
    match p.joints[j]? with
    | some r => !r.members.isEmpty && !r.members.any (fun i =>
        match p.hole? i with
        | some h => h.tier == 0
        | none => false)
    | none => false)

/-- The first seal check that fails: subcode, table and index (R6, R176). -/
def PlanStore.sealFailure (p : PlanStore) : Option (Nat × Nat × Nat) :=
  match firstMissing p.segments with
  | some i => some (1, 1, i)
  | none =>
    match firstMissing p.bays with
    | some i => some (1, 2, i)
    | none =>
      match firstMissing p.holes with
      | some i => some (1, 3, i)
      | none =>
        match firstDisorder p.segmentBounds with
        | some i => some (2, 1, i)
        | none =>
          match firstDisorder p.bayBounds with
          | some i => some (3, 2, i)
          | none =>
            match p.firstOutside with
            | some i => some (4, 3, i)
            | none =>
              if !p.spansNominal ((p.header.map PlanHeader.xd).getD 0) then some (5, 4, 0)
              else
                match p.firstUntacked with
                | some i => some (6, 5, i)
                | none => none

def rulePlanSeal (s : State) : Taken :=
  if s.plan.state ≠ .loading then refuse kindPlanSeal .badState s
  else
    match s.plan.sealFailure with
    | some (subcode, table, index) => (s, ⟨.sealFail, subcode, .sealFailed table index⟩)
    | none => ((s.setPlan { s.plan with state := .ready }).takeSegments, plainReply .ok)

def execPlanSeal (payload : List Byte) (s : State) : Host.Outcome State Fault Refusal :=
  takeMessage supervisorPort kindPlanSeal payload rulePlanSeal s

/-- The frame returns to EMPTY and the Thermal Unit gives up its segments (R8, R24, R25). -/
def State.dropFrame (s : State) : State := (s.setPlan PlanStore.empty).setThermal []

def rulePlanAbort (s : State) : Taken :=
  if s.plan.state = .loading ∨ s.plan.state = .ready then (s.dropFrame, plainReply .ok)
  else refuse kindPlanAbort .badState s

def execPlanAbort (payload : List Byte) (s : State) : Host.Outcome State Fault Refusal :=
  takeMessage supervisorPort kindPlanAbort payload rulePlanAbort s

/-! ### Reading (R23) -/

/-- The records PLAN_READ returns: the index advances by one and wraps at hole_count (R23). -/
def PlanStore.readRecords (p : PlanStore) (start count : Nat) : List (Nat × Option Hole) :=
  (List.range count).map (fun n =>
    let i := (start + n) % p.holeCount
    (i, p.hole? i))

def rulePlanRead (payload : List Byte) (s : State) : Taken :=
  if s.plan.state = .empty then refuse kindPlanRead .badState s
  else if !(decide (u16At payload 0 < s.plan.holeCount) && inRange 1 2 (u8At payload 2)) then
    refuse kindPlanRead .badField s
  else
    (s, ⟨.ok, 0, .planRecords (s.plan.readRecords (u16At payload 0) (u8At payload 2))⟩)

def execPlanRead (payload : List Byte) (s : State) : Host.Outcome State Fault Refusal :=
  takeMessage supervisorPort kindPlanRead payload (rulePlanRead payload) s

/-! ### The datum (R9) -/

/-- J_d is stored, the datum count rises, and a READY frame enters WORKING (R9). -/
def PlanStore.takeDatum (p : PlanStore) (jd : Int) : PlanStore :=
  { p with
    state := .working
    jd := some jd
    counters := { p.counters with datumCount := saturatingSucc 255 p.counters.datumCount } }

def ruleDatum (payload : List Byte) (s : State) : Taken :=
  if s.plan.state ≠ .ready ∧ s.plan.state ≠ .working then refuse kindDatum .badState s
  else if !inJig (i32At payload 0) then refuse kindDatum .badField s
  else if s.stands .framePresent && !s.functionSignal .framePresent then
    refuse kindDatum .noFrame s
  else if s.plan.state = .working ∧ s.anyGrant then refuse kindDatum .badState s
  else (s.setPlan (s.plan.takeDatum (i32At payload 0)), plainReply .ok)

def execDatum (payload : List Byte) (s : State) : Host.Outcome State Fault Refusal :=
  takeMessage supervisorPort kindDatum payload (ruleDatum payload) s

/-! ### Release and excuse (R18, R19) -/

/-- A release counter rises by one, saturating (R22). -/
def PlanStore.countRelease (p : PlanStore) (accept : Bool) : PlanStore :=
  { p with
    counters :=
      if accept then { p.counters with acceptCount := saturatingSucc 65535 p.counters.acceptCount }
      else { p.counters with redoCount := saturatingSucc 65535 p.counters.redoCount } }

/-- A held hole goes back to be worked again, without the report of the stopped work (R18). -/
def Hole.redo (h : Hole) : Hole :=
  match h.heldFrom with
  | some .setting => { h.goto .drilled none with setReport := none }
  | _ => { h.goto .planned none with drillReport := none }

/-- The log event of an ACCEPT, when the report of the stopped work is present (R18, R139). -/
def Hole.acceptEvent (h : Hole) : Option LogEvent :=
  match h.heldFrom with
  | some .setting => h.setReport.map (fun r => .set r.head r.x r.serial r.ramAge)
  | _ => h.drillReport.map (fun r => .drilled r.head r.x r.diameter r.stack)

/-- The state an ACCEPT takes a hole to (R18). -/
def Hole.acceptState (h : Hole) : HoleState :=
  match h.heldFrom with
  | some .setting => .set
  | _ => .drilled

/-- REDO of a HELD hole (R18). -/
def State.redoHole (s : State) (i : Nat) : State :=
  let s1 := s.changeHole i Hole.redo
  s1.setPlan (s1.plan.countRelease false)

/-- ACCEPT of a HELD hole whose report is present (R18, R21). -/
def State.acceptHole (s : State) (i : Nat) (h : Hole) (event : LogEvent) : State :=
  let s1 := s.changeHole i (fun x => x.goto h.acceptState none)
  let s2 := s1.setPlan (s1.plan.countRelease true)
  let s3 := s2.writeLog i event true
  if h.acceptState.final then s3.testComplete else s3

/-- HOLE_RELEASE whose action is not ACCEPT: REDO, or an undefined action (R18). -/
def ruleHoleReleaseRedo (payload : List Byte) (s : State) : Taken :=
  if s.plan.state ≠ .working then refuse kindHoleRelease .notWorking s
  else if !(decide (u16At payload 0 < s.plan.holeCount) && u8At payload 2 == 0) then
    refuse kindHoleRelease .badField s
  else
    match s.plan.hole? (u16At payload 0) with
    | none => refuse kindHoleRelease .badState s
    | some h =>
      if h.state ≠ .held then refuse kindHoleRelease .badState s
      else (s.redoHole (u16At payload 0), plainReply .ok)

def execHoleReleaseRedo (payload : List Byte) (s : State) : Host.Outcome State Fault Refusal :=
  if releasesAccept payload then .next s
  else takeMessage supervisorPort kindHoleRelease payload (ruleHoleReleaseRedo payload) s

/-- HOLE_RELEASE with action ACCEPT (R18). -/
def ruleHoleReleaseAccept (payload : List Byte) (s : State) : Taken :=
  if s.plan.state ≠ .working then refuse kindHoleRelease .notWorking s
  else if s.plan.holeCount ≤ u16At payload 0 then refuse kindHoleRelease .badField s
  else
    match s.plan.hole? (u16At payload 0) with
    | none => refuse kindHoleRelease .badState s
    | some h =>
      if h.state ≠ .held then refuse kindHoleRelease .badState s
      else
        match h.acceptEvent with
        | none => refuse kindHoleRelease .badState s
        | some event =>
          if !s.headroomForOne then refuse kindHoleRelease .logFull s
          else (s.acceptHole (u16At payload 0) h event, plainReply .ok)

def execHoleReleaseAccept (payload : List Byte) (s : State) : Host.Outcome State Fault Refusal :=
  if releasesAccept payload then
    takeMessage supervisorPort kindHoleRelease payload (ruleHoleReleaseAccept payload) s
  else .next s

/-- A hole may be excused in PLANNED, DRILLED or HELD (R19). -/
def HoleState.excusable : HoleState → Bool
  | .planned => true
  | .drilled => true
  | .held => true
  | _ => false

/-- A hole enters EXCUSED (R19, R21). -/
def State.excuseHole (s : State) (i : Nat) : State :=
  ((s.changeHole i (fun x => x.goto .excused none)).writeLog i .excused false).testComplete

def ruleHoleExcuse (payload : List Byte) (s : State) : Taken :=
  if s.plan.state ≠ .working then refuse kindHoleExcuse .notWorking s
  else if s.plan.holeCount ≤ u16At payload 0 then refuse kindHoleExcuse .badField s
  else
    match s.plan.hole? (u16At payload 0) with
    | none => refuse kindHoleExcuse .badState s
    | some h =>
      if !h.state.excusable then refuse kindHoleExcuse .badState s
      else if !s.headroomForOne then refuse kindHoleExcuse .logFull s
      else (s.excuseHole (u16At payload 0), plainReply .ok)

def execHoleExcuse (payload : List Byte) (s : State) : Host.Outcome State Fault Refusal :=
  takeMessage supervisorPort kindHoleExcuse payload (ruleHoleExcuse payload) s

/-! ### The end of a frame (R24) -/

def ruleFrameEnd (s : State) : Taken :=
  if s.plan.state = .empty ∨ s.plan.state = .loading then refuse kindFrameEnd .badState s
  else if s.anyGrant || s.anyTrouble then refuse kindFrameEnd .badState s
  else if !s.log.records.isEmpty then refuse kindFrameEnd .logPending s
  else (s.dropFrame, plainReply .ok)

def execFrameEnd (payload : List Byte) (s : State) : Host.Outcome State Fault Refusal :=
  takeMessage supervisorPort kindFrameEnd payload ruleFrameEnd s

end Sys2Proof.Machine
end

