-- ==== Sys2Proof/Machine/Receiver.lean ====
section
/-! DEFINITION. The events of a port (Chapter 10): character arrival, gap expiry, the break, the
transmission of frames, and the taking of a message of an unknown kind. -/

namespace Sys2Proof.Machine

/-! ### The receiver (R167 to R169) -/

/-- A faulty frame or character raises the error count, unless it stands at 255 (R168). -/
def Port.countError (q : Port) : Port := { q with errors := saturatingSucc 255 q.errors }

/-- A discard: the frame under assembly is thrown away, the error count rises, the state is HUNT and the
gap is disarmed (R168). -/
def Port.discard (q : Port) : Port := { q.countError with assembly := none, gapFor := none }

/-- A header starts a frame: the buffer takes its data byte as the kind, and the gap is armed (R167,
R168). -/
def Port.startFrame (q : Port) (data : Byte) : Port :=
  { q with assembly := some ⟨data, none, [], data⟩, gapFor := some 0 }

/-- The frame under assembly goes on, with the gap armed anew (R167, R168). -/
def Port.continueFrame (q : Port) (a : Assembly) : Port :=
  { q with assembly := some a, gapFor := some 0 }

/-- A complete frame leaves the assembly; its message joins the receive queue, or waits in the buffer
of a port that so becomes deaf (R169). -/
def Port.complete (q : Port) (m : Message) : Port :=
  let q' := { q with assembly := none, gapFor := none }
  if q.receiveQueue.length < Config.receiveCapacity then
    { q' with receiveQueue := q.receiveQueue ++ [m] }
  else { q' with waiting := some m, deaf := true }

/-- A mark-0 character in ASSEMBLY (R167). -/
def Port.assembleByte (q : Port) (a : Assembly) (data : Byte) : Port :=
  match a.length with
  | none =>
    if data.toNat ≤ Config.maxPayload then
      q.continueFrame { a with length := some data.toNat, sum := a.sum + data }
    else q.discard
  | some n =>
    if a.payload.length < n then
      q.continueFrame { a with payload := a.payload ++ [data], sum := a.sum + data }
    else if a.sum + data = 0 then q.complete ⟨a.kind, a.payload⟩
    else q.discard

/-- The judgement of a character whose stop bit was high, or whose low stop bit ended within 22 bit
times, by a port neither deaf nor in break (R167, R168). -/
def Port.judgeCharacter (q : Port) (mark : Bool) (data : Byte) (stopHigh : Bool) : Port :=
  match q.assembly, stopHigh, mark with
  | none, false, _ => q.countError
  | none, true, false => q
  | none, true, true => q.startFrame data
  | some _, false, _ => q.discard
  | some _, true, true => q.discard.startFrame data
  | some a, true, false => q.assembleByte a data

/-- The line has stood low for 22 bit times or more (R170). -/
def Port.lowLongEnough (q : Port) : Bool :=
  match q.lowFor with
  | some n => decide (Config.unitsPerBreak ≤ n)
  | none => false

/-- The port stands in a break: the flag is set, or the line has stood low long enough since its last fall
(R168, R170). DESIGN CHOICE (log entry 27): a low stop bit that ends more than 22 bit times after its
character's start bit, but less than 22 after the line's last fall, is neither of the two cases of R168; it is
no break, and its character is judged. -/
def Port.breaking (q : Port) : Bool := q.inBreak || q.lowLongEnough

/-- A character arrives: the line then stands high; a deaf port throws the character away (R167, R169). -/
def Port.receive (q : Port) (mark : Bool) (data : Byte) (stopHigh : Bool) : Port :=
  let q' := { q with lowFor := none }
  if q.deaf then q' else q'.judgeCharacter mark data stopHigh

/-- A character arrives on a port; a port that becomes deaf makes PORT_DEAF pending on itself and on P8
(R169). -/
def State.receiveCharacter (s : State) (p : PortId) (mark : Bool) (data : Byte) (stopHigh : Bool) :
    State :=
  let q := s.ports[p].receive mark data stopHigh
  let s' := s.setPort p q
  if q.deaf && !s.ports[p].deaf then
    (s'.makePending p .portDeaf).makePending supervisorPort .portDeaf
  else s'

/-- The line level after an event of a receive line, followed while RESET_N is low too (log entry 3). -/
def State.lineLevel (s : State) (p : PortId) (low : Bool) : State :=
  s.setPort p { s.ports[p] with lowFor := if low then some 0 else none }

/-- A character whose stop bit is low is judged when the line rises; one that is part of a break is not
judged at all (R168). -/
def execCharacterArrival (p : PortId) (mark : Bool) (data : Byte) (stopHigh : Bool) (s : State) :
    Host.Outcome State Fault Refusal :=
  if s.inReset then .next (s.lineLevel p false)
  else takeEvent (!s.ports[p].breaking) (fun x => x.receiveCharacter p mark data stopHigh) s

/-- More than 2 ms have passed since the arrival that armed the gap (R168). -/
def Port.gapDue (q : Port) : Bool :=
  match q.gapFor with
  | some n => decide (Config.unitsPerGap < n)
  | none => false

def execGapExpiry (p : PortId) (s : State) : Host.Outcome State Fault Refusal :=
  takeEvent s.ports[p].gapDue (fun x => x.setPort p x.ports[p].discard) s

/-! ### The break (R170) -/

/-- The line falls: the line watch is set, and a pending gap expiry is cancelled (R168, R170). -/
def Port.fall (q : Port) : Port := { q with lowFor := some 0, gapFor := none }

/-- A line in a break stands low and cannot fall (R170). -/
def execReceiveLineFall (p : PortId) (s : State) : Host.Outcome State Fault Refusal :=
  if s.inReset then .next (s.lineLevel p true)
  else takeEvent (!s.ports[p].breaking) (fun x => x.setPort p x.ports[p].fall) s

def execInBreak (p : PortId) (s : State) : Host.Outcome State Fault Refusal :=
  takeEvent (s.ports[p].lowLongEnough && !s.ports[p].inBreak)
    (fun x => x.setPort p { x.ports[p] with inBreak := true }) s

/-- Steps 1 to 4 of a break: the port is reset, but for a frame whose first character has gone out
(R170). DEDUCED (log entry 28): that character has gone out once FRAME_TRANSMIT_START has been taken, from its
first bit on. -/
def Port.afterBreak (q : Port) : Port :=
  { q with
    receiveQueue := []
    assembly := none
    waiting := none
    deaf := false
    inBreak := false
    gapFor := none
    lowFor := none
    transmitQueue := if q.sendingFor.isSome then q.transmitQueue.take 1 else []
    notices := [] }

/-- The taking of a break: the port is reset, then a head port's slot is told (R170). -/
def State.takeBreak (s : State) (p : PortId) : State :=
  let s' := s.setPort p s.ports[p].afterBreak
  if h : p.val < 8 then s'.linkBreak ⟨p.val, h⟩ else s'

def execBreak (p : PortId) (s : State) : Host.Outcome State Fault Refusal :=
  if s.inReset then .next (s.lineLevel p false)
  else takeEvent s.ports[p].breaking (fun x => x.takeBreak p) s

/-! ### Transmission (R165, R172) -/

/-- The oldest frame may start: it has not, and the line has been idle for one character time (R165). -/
def Port.startDue (q : Port) : Bool :=
  !q.transmitQueue.isEmpty && q.sendingFor.isNone && decide (Config.unitsPerChar ≤ q.idleFor)

def execFrameTransmitStart (p : PortId) (s : State) : Host.Outcome State Fault Refusal :=
  takeEvent s.ports[p].startDue
    (fun x => x.setPort p { x.ports[p] with sendingFor := some 0 }) s

/-- The last character of the oldest frame has gone out (R172). -/
def Port.sentDue (q : Port) : Bool :=
  match q.sendingFor, q.transmitQueue with
  | some n, f :: _ => decide (f.duration ≤ n)
  | _, _ => false

/-- The frame leaves the transmit queue, and the line is idle from then on (R165, R172). -/
def Port.frameGone (q : Port) : Port :=
  { q with transmitQueue := q.transmitQueue.tail, sendingFor := none, idleFor := 0 }

def execFrameSent (p : PortId) (s : State) : Host.Outcome State Fault Refusal :=
  takeEvent s.ports[p].sentDue (fun x => x.setPort p x.ports[p].frameGone) s

/-- The level the part drives on a port's transmit line, nothing while RESET_N is low (R163, R165). -/
def State.transmitLevel (s : State) (p : PortId) : Option Bool :=
  if s.transmitPinsDriven then some s.ports[p].transmitHigh else none

/-! ### A message of an unknown kind (R171) -/

def execUnknownKindMessage (p : PortId) (kind : Byte) (payload : List Byte) (s : State) :
    Host.Outcome State Fault Refusal :=
  if kindKnown p kind then .next s
  else takeMessage p kind payload (refuse kind .unknownKind) s

end Sys2Proof.Machine
end

