-- ==== Sys2Proof/Machine/PowerOn.lean ====
section
/-! DEFINITION. Power-on, the RESET_N pin (R163), and the passing of time on an empty command queue
(R89, R94, R165, R168, R170; log entry 1). -/

namespace Sys2Proof.Machine

/-- A port at power-on; a line that stands low counts as low since that moment (R164, R170). -/
def Port.afterReset (q : Port) : Port :=
  { Port.powerOn with lowFor := q.lowFor.map (fun _ => 0) }

/-- Power-on or the release of RESET_N: every block takes its power-on values (R163). The levels the
outside world holds on pins and lines, and the commands that wait, are not the part's. -/
def execPowerOn (s : State) : Host.Outcome State Fault Refusal :=
  .next { State.reset with
    ports := mapRow Port.afterReset s.ports
    pinHigh := s.pinHigh
    pending := s.pending }

/-- RESET_N goes low: every terminal and transmit pin is released and no message is received, until the
release starts the part as at power-on (R163, log entry 3). -/
def execResetNAssert (s : State) : Host.Outcome State Fault Refusal := .next { s with inReset := true }

/-- A port after one unit of time (log entry 1). -/
def Port.elapse (q : Port) : Port :=
  { q with
    lowFor := q.lowFor.map Nat.succ
    gapFor := q.gapFor.map Nat.succ
    sendingFor := q.sendingFor.map Nat.succ
    idleFor := if q.sendingFor.isSome then q.idleFor else q.idleFor + 1 }

/-- A timer after one millisecond: a running count rises by one, up to its limit (R90, R94). -/
def MotionTimer.elapse (t : MotionTimer) (running : Bool) : MotionTimer :=
  match t with
  | .stopped => .stopped
  | .counting stage limit count =>
    .counting stage limit (if running then min limit (count + 1) else count)

/-- The timers after one millisecond. -/
def State.elapsedTimers (s : State) : Vector MotionTimer 8 :=
  ⟨((indices 8).map (fun h => (s.timers[h]).elapse (s.timerRunning h))).toArray, by
    simp [indices]⟩

/-- One unit of 1/576 000 s passes: the ports' times advance, and at each whole millisecond the line
clock and the running timers (R89, R94, log entry 1). Nothing passes while RESET_N is low. -/
def State.tick (s : State) : State :=
  if s.inReset then s
  else
    let s1 := { s with ports := mapRow Port.elapse s.ports }
    if s.subMs + 1 < Config.unitsPerMs then { s1 with subMs := s.subMs + 1 }
    else { s1 with subMs := 0, clock := s.clock + 1, timers := s.elapsedTimers }

end Sys2Proof.Machine
end

