-- ==== Sys2Proof/Machine/Queries.lean ====
section
/-! DEFINITION. LINE_QUERY and its pages (R177, with R22, R35, R60, R102, R123, R146, R164). -/

namespace Sys2Proof.Machine

/-- The status code of a segment (R179). -/
def SegStatus.code : SegStatus → Fin 4
  | .live _ => 0
  | .held _ _ => 1
  | .substituted => 2
  | .unknown => 3

/-- One segment of page SEGMENTS: status, value used, age of the hold (R35). -/
def State.segmentReport (s : State) (k : Nat) (g : Segment) : SegmentReport where
  status := g.status.code
  value := valueUsed s.thermal k
  holdAge := match g.status with
    | .held _ start => some (age s.clock start)
    | _ => none

/-- One port of page PORTS (R164). -/
def Port.report (q : Port) : PortReport where
  assembling := q.assembly.isSome
  deaf := q.deaf
  inBreak := q.inBreak
  receiveCount := q.receiveQueue.length
  transmitCount := q.transmitQueue.length
  notices := q.notices
  errors := q.errors

/-- Page LINE (R177). -/
def State.linePage (s : State) : LinePage :=
  .line s.clock s.lineStop s.params.staleFreeze s.freezeA
    (if s.freezeA then s.freezingSlots .A else []) s.freezeB
    (if s.freezeB then s.freezingSlots .B else []) s.rails.fences s.dev.flags s.attention

/-- Page LOG (R146). -/
def State.logPage (s : State) : LinePage :=
  .log s.log.records.length s.log.inFlight
    (Config.logCapacity - s.log.records.length - s.log.inFlight) s.params.logThreshold s.logAttention
    s.log.sequence s.log.oldest

/-- The pages of LINE_QUERY (R177). -/
def State.page (s : State) : Nat → Option LinePage
  | 0 => some (.frame s.plan.state s.plan.header s.plan.jd s.plan.counters s.clock)
  | 1 => some (.segments (s.thermal.zipIdx.map (fun gk => s.segmentReport gk.2 gk.1)))
  | 2 => some (.rail .A s.rails.listA)
  | 3 => some (.rail .B s.rails.listB)
  | 4 => some s.linePage
  | 5 => some (.heat s.heatReport s.heat.waiting)
  | 6 => some s.logPage
  | 7 => some (.ports (s.ports.toList.map Port.report))
  | _ => none

/-- A page is built with the reply that carries it counted in P8's transmit queue, since a reply carries the
state its taking leaves (R172, R177). -/
def ruleLineQuery (payload : List Byte) (s : State) : Taken :=
  match (s.appendReply supervisorPort kindLineQuery (plainReply .ok)).page (u8At payload 0) with
  | none => refuse kindLineQuery .badField s
  | some pg => (s, ⟨.ok, 0, .page pg⟩)

def execLineQuery (payload : List Byte) (s : State) : Host.Outcome State Fault Refusal :=
  takeMessage supervisorPort kindLineQuery payload (ruleLineQuery payload) s

end Sys2Proof.Machine
end

