-- ==== Sys2Proof/Machine/Dispatch.lean ====
section
/-! DEFINITION. One arm per command, each one direct call of its meaning. -/

namespace Sys2Proof.Machine

def exec (i : Instr) (s : State) : Host.Outcome State Fault Refusal :=
  match i with
  | .powerOn => Sys2Proof.Machine.execPowerOn s
  | .resetNAssert => Sys2Proof.Machine.execResetNAssert s
  | .attach slot payload => Sys2Proof.Machine.execAttach slot payload s
  | .detach slot payload => Sys2Proof.Machine.execDetach slot payload s
  | .next slot payload => Sys2Proof.Machine.execNext slot payload s
  | .take slot payload => Sys2Proof.Machine.execTake slot payload s
  | .move slot payload => Sys2Proof.Machine.execMove slot payload s
  | .arrived slot payload => Sys2Proof.Machine.execArrived slot payload s
  | .progress slot payload => Sys2Proof.Machine.execProgress slot payload s
  | .abandon slot payload => Sys2Proof.Machine.execAbandon slot payload s
  | .drillDone slot payload => Sys2Proof.Machine.execDrillDone slot payload s
  | .feed slot payload => Sys2Proof.Machine.execFeed slot payload s
  | .setDone slot payload => Sys2Proof.Machine.execSetDone slot payload s
  | .haltAt slot payload => Sys2Proof.Machine.execHaltAt slot payload s
  | .headQuery slot payload => Sys2Proof.Machine.execHeadQuery slot payload s
  | .planBegin payload => Sys2Proof.Machine.execPlanBegin payload s
  | .planSegment payload => Sys2Proof.Machine.execPlanSegment payload s
  | .planBay payload => Sys2Proof.Machine.execPlanBay payload s
  | .planHole payload => Sys2Proof.Machine.execPlanHole payload s
  | .planSeal payload => Sys2Proof.Machine.execPlanSeal payload s
  | .planAbort payload => Sys2Proof.Machine.execPlanAbort payload s
  | .planRead payload => Sys2Proof.Machine.execPlanRead payload s
  | .datum payload => Sys2Proof.Machine.execDatum payload s
  | .fenceSet payload => Sys2Proof.Machine.execFenceSet payload s
  | .fenceClear payload => Sys2Proof.Machine.execFenceClear payload s
  | .holeReleaseRedo payload => Sys2Proof.Machine.execHoleReleaseRedo payload s
  | .holeReleaseAccept payload => Sys2Proof.Machine.execHoleReleaseAccept payload s
  | .holeExcuse payload => Sys2Proof.Machine.execHoleExcuse payload s
  | .headRecover payload => Sys2Proof.Machine.execHeadRecover payload s
  | .headEvict payload => Sys2Proof.Machine.execHeadEvict payload s
  | .devMode payload => Sys2Proof.Machine.execDevMode payload s
  | .devClear payload => Sys2Proof.Machine.execDevClear payload s
  | .devRead payload => Sys2Proof.Machine.execDevRead payload s
  | .logRead payload => Sys2Proof.Machine.execLogRead payload s
  | .setParam payload => Sys2Proof.Machine.execSetParam payload s
  | .setParamProbeHold payload => Sys2Proof.Machine.execSetParamProbeHold payload s
  | .setParamStaleAction payload => Sys2Proof.Machine.execSetParamStaleAction payload s
  | .setParamHeatMin payload => Sys2Proof.Machine.execSetParamHeatMin payload s
  | .setParamHeatMax payload => Sys2Proof.Machine.execSetParamHeatMax payload s
  | .setParamBudget payload => Sys2Proof.Machine.execSetParamBudget payload s
  | .setParamLogThreshold payload => Sys2Proof.Machine.execSetParamLogThreshold payload s
  | .setParamDebounceMs payload => Sys2Proof.Machine.execSetParamDebounceMs payload s
  | .getParam payload => Sys2Proof.Machine.execGetParam payload s
  | .termConfig payload => Sys2Proof.Machine.execTermConfig payload s
  | .termWrite payload => Sys2Proof.Machine.execTermWrite payload s
  | .termRead payload => Sys2Proof.Machine.execTermRead payload s
  | .termAck payload => Sys2Proof.Machine.execTermAck payload s
  | .heaterClear payload => Sys2Proof.Machine.execHeaterClear payload s
  | .frameEnd payload => Sys2Proof.Machine.execFrameEnd payload s
  | .lineQuery payload => Sys2Proof.Machine.execLineQuery payload s
  | .rivetOut payload => Sys2Proof.Machine.execRivetOut payload s
  | .heaterQuery payload => Sys2Proof.Machine.execHeaterQuery payload s
  | .motionTimerExpiry slot => Sys2Proof.Machine.execMotionTimerExpiry slot s
  | .holdExpiry segment => Sys2Proof.Machine.execHoldExpiry segment s
  | .rivetExpiry serial => Sys2Proof.Machine.execRivetExpiry serial s
  | .rawChange terminal high => Sys2Proof.Machine.execRawChange terminal high s
  | .acceptance terminal => Sys2Proof.Machine.execAcceptance terminal s
  | .probeSample terminal code => Sys2Proof.Machine.execProbeSample terminal code s
  | .characterArrival port mark data stopHigh => Sys2Proof.Machine.execCharacterArrival port mark data stopHigh s
  | .gapExpiry port => Sys2Proof.Machine.execGapExpiry port s
  | .inBreak port => Sys2Proof.Machine.execInBreak port s
  | .breakReturn port => Sys2Proof.Machine.execBreak port s
  | .frameSent port => Sys2Proof.Machine.execFrameSent port s
  | .unknownKindMessage port kind payload => Sys2Proof.Machine.execUnknownKindMessage port kind payload s
  | .frameTransmitStart port => Sys2Proof.Machine.execFrameTransmitStart port s
  | .receiveLineFall port => Sys2Proof.Machine.execReceiveLineFall port s

end Sys2Proof.Machine
end

