-- ==== Sys2Proof/WellFormed.lean ====
section
/-! DEFINITION. When a command is well formed. The operand types already bound every slot, port,
terminal, segment, serial and code. What is left to check is that a payload is one a frame can carry
(R166), and that an UNKNOWN_KIND_MESSAGE is of a kind the port's role does not send (R171). -/

namespace Sys2Proof

/-- A frame sent to the coordinator has a length of 0 to 60 (R166). -/
def payloadCarried (payload : List Byte) : Bool := payload.length ≤ Config.maxPayload

/-- The check of one command, one arm per constructor. -/
def Instr.wellFormed : Instr → Bool
  | .powerOn => true
  | .resetNAssert => true
  | .attach _ payload => payloadCarried payload
  | .detach _ payload => payloadCarried payload
  | .next _ payload => payloadCarried payload
  | .take _ payload => payloadCarried payload
  | .move _ payload => payloadCarried payload
  | .arrived _ payload => payloadCarried payload
  | .progress _ payload => payloadCarried payload
  | .abandon _ payload => payloadCarried payload
  | .drillDone _ payload => payloadCarried payload
  | .feed _ payload => payloadCarried payload
  | .setDone _ payload => payloadCarried payload
  | .haltAt _ payload => payloadCarried payload
  | .headQuery _ payload => payloadCarried payload
  | .planBegin payload => payloadCarried payload
  | .planSegment payload => payloadCarried payload
  | .planBay payload => payloadCarried payload
  | .planHole payload => payloadCarried payload
  | .planSeal payload => payloadCarried payload
  | .planAbort payload => payloadCarried payload
  | .planRead payload => payloadCarried payload
  | .datum payload => payloadCarried payload
  | .fenceSet payload => payloadCarried payload
  | .fenceClear payload => payloadCarried payload
  | .holeReleaseRedo payload => payloadCarried payload
  | .holeReleaseAccept payload => payloadCarried payload
  | .holeExcuse payload => payloadCarried payload
  | .headRecover payload => payloadCarried payload
  | .headEvict payload => payloadCarried payload
  | .devMode payload => payloadCarried payload
  | .devClear payload => payloadCarried payload
  | .devRead payload => payloadCarried payload
  | .logRead payload => payloadCarried payload
  | .setParam payload => payloadCarried payload
  | .setParamProbeHold payload => payloadCarried payload
  | .setParamStaleAction payload => payloadCarried payload
  | .setParamHeatMin payload => payloadCarried payload
  | .setParamHeatMax payload => payloadCarried payload
  | .setParamBudget payload => payloadCarried payload
  | .setParamLogThreshold payload => payloadCarried payload
  | .setParamDebounceMs payload => payloadCarried payload
  | .getParam payload => payloadCarried payload
  | .termConfig payload => payloadCarried payload
  | .termWrite payload => payloadCarried payload
  | .termRead payload => payloadCarried payload
  | .termAck payload => payloadCarried payload
  | .heaterClear payload => payloadCarried payload
  | .frameEnd payload => payloadCarried payload
  | .lineQuery payload => payloadCarried payload
  | .rivetOut payload => payloadCarried payload
  | .heaterQuery payload => payloadCarried payload
  | .motionTimerExpiry _ => true
  | .holdExpiry _ => true
  | .rivetExpiry _ => true
  | .rawChange _ _ => true
  | .acceptance _ => true
  | .probeSample _ _ => true
  | .characterArrival _ _ _ _ => true
  | .gapExpiry _ => true
  | .inBreak _ => true
  | .breakReturn _ => true
  | .frameSent _ => true
  | .unknownKindMessage port kind payload =>
      payloadCarried payload && !Sys2Proof.Machine.kindKnown port kind
  | .frameTransmitStart _ => true
  | .receiveLineFall _ => true

end Sys2Proof
end

