-- ==== Sys2Proof/Safety.lean ====
section
/-! DEFINITION. What counts as a good state of the coordinator: the laws of the device the manual
names, as conditions a state can be tested for, and the words the statements use for what a taking does
to the ports. -/

namespace Sys2Proof.Machine

/-! ### Words for the ports -/

/-- No port stands idle with a notice unsent: one that may be sent has been (R173). -/
abbrev State.settled (s : State) : Prop :=
  ∀ p : PortId, s.ports[p].transmitQueue = [] → s.ports[p].notices = []

/-- The ports after the message at the head of a port's receive queue has been taken and answered: it
left the queue, a message waiting in the buffer moved to the queue's end, and the reply joined the
transmit queue (R171, R172). -/
def repliedPorts (ports : Vector Port 10) (p : PortId) (kind : Byte) (r : Reply) : Vector Port 10 :=
  ports.set p { ports[p] with
    receiveQueue := ports[p].receiveQueue.tail ++ ports[p].waiting.toList
    waiting := none
    transmitQueue := ports[p].transmitQueue ++ [.reply kind r] }

/-- The ports after a notice kind was made pending on one of them: it stands there once (R173). -/
def pendedPorts (ports : Vector Port 10) (q : PortId) (k : NoticeKind) : Vector Port 10 :=
  ports.set q { ports[q] with
    notices := if k ∈ ports[q].notices then ports[q].notices else ports[q].notices ++ [k] }

/-- The ports after a notice kind left the pending set of one of them unsent (R81, R115). -/
def unpendedPorts (ports : Vector Port 10) (q : PortId) (k : NoticeKind) : Vector Port 10 :=
  ports.set q { ports[q] with notices := ports[q].notices.filter (fun x => x ≠ k) }

/-- A message stands at the head of its port's receive queue and may be taken, and no notice that may be
sent is unsent. -/
abbrev State.ready (s : State) (p : PortId) (kind : Byte) (payload : List Byte) : Prop :=
  s.takes p ⟨kind, payload⟩ = true ∧ s.settled

/-- A port that a taking did not answer on: it differs at most in its pending notices and, where its
transmit queue stood empty, in one notice it sent (R173). -/
def NoticesOnly (q q' : Port) : Prop :=
  q' = { q with transmitQueue := q'.transmitQueue, notices := q'.notices } ∧
    (q'.transmitQueue = q.transmitQueue ∨
      q.transmitQueue = [] ∧ ∃ n : Notice, q'.transmitQueue = [.notice n])

/-- The message at the head of a port's receive queue was taken and answered with the reply given; of the
ports beyond that, the pending notices differ at most, and a port whose transmit queue stood empty may have
sent one of them. -/
def AnsweredAt (s t : State) (p : PortId) (kind : Byte) (r : Reply) : Prop :=
  t.ports[p] = { (repliedPorts s.ports p kind r)[p] with notices := t.ports[p].notices } ∧
    ∀ q : PortId, q ≠ p → NoticesOnly s.ports[q] t.ports[q]

/-- The ports differ at most in their pending notices, and where a transmit queue stood empty in one notice
sent. -/
def OnlyNotices (s t : State) : Prop := ∀ q : PortId, NoticesOnly s.ports[q] t.ports[q]

/-- The Deviation Unit after the raising of a class with the hole, head and details given: its flag is set,
and the first-deviation record is filled when it was absent; the modes and the other flags stand (R126,
R128). -/
def raisedDev (s : State) (c : DevClass) (hole : Option Nat) (head : Option Slot) (a b : Int) :
    DeviationUnit :=
  { s.dev with
    flags := s.dev.flags.set c.index true
    first := s.dev.first.or (some ⟨c, s.plan.header.map PlanHeader.frameId, hole, head, s.clock, a, b⟩) }

/-- PROBE_SUBST was raised for the segments that entered SUBSTITUTED, the lowest first with its number and
the value it takes from its neighbours, and nothing was raised when none did (R33). -/
def SubstRaised (s t : State) (before : List Segment) : Prop :=
  match (enteredSubstituted before t.thermal).head? with
  | none => t.dev = s.dev
  | some k => ∃ v : Int, valueUsed t.thermal k = some v ∧ t.dev = raisedDev s .probeSubst none none k v

/-- The kind code of a notice kind (R174). -/
def NoticeKind.code : NoticeKind → Byte
  | .hold => kindHold
  | .feedGiven => kindFeedGiven
  | .portDeaf => kindPortDeaf
  | .attention => kindAttentionNotice
  | .deviation => kindDeviation
  | .terminal => kindTerminal
  | .headState => kindHeadState

/-- A notice kind is pending on a port, or a notice of the kind stands in its transmit queue. -/
def State.announced (s : State) (q : PortId) (k : NoticeKind) : Prop :=
  k ∈ s.ports[q].notices ∨ ∃ n : Notice, .notice n ∈ s.ports[q].transmitQueue ∧ n.kind = k.code

/-- Two Plan Stores that differ at most in one hole's record, in the frame state, and in the joint records
and counters that follow the holes' states. -/
def OnlyHoleChanged (p q : PlanStore) (i : Nat) : Prop :=
  (∀ j : Nat, j ≠ i → q.hole? j = p.hole? j) ∧
    q = { p with state := q.state, holes := q.holes, joints := q.joints, counters := q.counters }

/-- Some head on a rail is STALE or FAULTED (R100). -/
def troubledOn (heads : Vector (Option Head) 8) (r : Rail) : Bool :=
  heads.toList.any (fun o => o.any (fun hd =>
    hd.rail == r && (hd.status == .stale || hd.status == .faulted)))

/-- The rails are frozen exactly under STALE_ACTION FREEZE with a head on them STALE or FAULTED (R100). -/
abbrev State.freezeFits (s : State) : Prop :=
  s.freezeA = (s.params.staleFreeze && troubledOn s.heads .A)
    ∧ s.freezeB = (s.params.staleFreeze && troubledOn s.heads .B)

/-- Two states that differ at most in the queue of commands, the pin levels and the line watches of the
receive lines: all the outside world shows the part while RESET_N is low (R163). -/
def SameButLevels (s t : State) : Prop :=
  t = { s with pending := t.pending, pinHigh := t.pinHigh, ports := t.ports } ∧
    ∀ p : PortId, t.ports[p] = { s.ports[p] with lowFor := t.ports[p].lowFor }

/-- The message a command takes: its port, kind and payload; none for the commands that are events.
A HOLE_RELEASE or SET_PARAM row takes only the payloads that are its own (log entry 7), and an
UNKNOWN_KIND_MESSAGE only the kinds unknown to its port. -/
def messageOf : Instr → Option (PortId × Byte × List Byte)
  | .powerOn => none
  | .resetNAssert => none
  | .attach h b => some (headPort h, kindAttach, b)
  | .detach h b => some (headPort h, kindDetach, b)
  | .next h b => some (headPort h, kindNext, b)
  | .take h b => some (headPort h, kindTake, b)
  | .move h b => some (headPort h, kindMove, b)
  | .arrived h b => some (headPort h, kindArrived, b)
  | .progress h b => some (headPort h, kindProgress, b)
  | .abandon h b => some (headPort h, kindAbandon, b)
  | .drillDone h b => some (headPort h, kindDrillDone, b)
  | .feed h b => some (headPort h, kindFeed, b)
  | .setDone h b => some (headPort h, kindSetDone, b)
  | .haltAt h b => some (headPort h, kindHaltAt, b)
  | .headQuery h b => some (headPort h, kindHeadQuery, b)
  | .planBegin b => some (supervisorPort, kindPlanBegin, b)
  | .planSegment b => some (supervisorPort, kindPlanSegment, b)
  | .planBay b => some (supervisorPort, kindPlanBay, b)
  | .planHole b => some (supervisorPort, kindPlanHole, b)
  | .planSeal b => some (supervisorPort, kindPlanSeal, b)
  | .planAbort b => some (supervisorPort, kindPlanAbort, b)
  | .planRead b => some (supervisorPort, kindPlanRead, b)
  | .datum b => some (supervisorPort, kindDatum, b)
  | .fenceSet b => some (supervisorPort, kindFenceSet, b)
  | .fenceClear b => some (supervisorPort, kindFenceClear, b)
  | .holeReleaseRedo b =>
      if releasesAccept b then none else some (supervisorPort, kindHoleRelease, b)
  | .holeReleaseAccept b =>
      if releasesAccept b then some (supervisorPort, kindHoleRelease, b) else none
  | .holeExcuse b => some (supervisorPort, kindHoleExcuse, b)
  | .headRecover b => some (supervisorPort, kindHeadRecover, b)
  | .headEvict b => some (supervisorPort, kindHeadEvict, b)
  | .devMode b => some (supervisorPort, kindDevMode, b)
  | .devClear b => some (supervisorPort, kindDevClear, b)
  | .devRead b => some (supervisorPort, kindDevRead, b)
  | .logRead b => some (supervisorPort, kindLogRead, b)
  | .setParam b =>
      if writesOneOf ownWriteIds b then none else some (supervisorPort, kindSetParam, b)
  | .setParamProbeHold b =>
      if writesOneOf [3] b then some (supervisorPort, kindSetParam, b) else none
  | .setParamStaleAction b =>
      if writesOneOf [12] b then some (supervisorPort, kindSetParam, b) else none
  | .setParamHeatMin b =>
      if writesOneOf [13] b then some (supervisorPort, kindSetParam, b) else none
  | .setParamHeatMax b =>
      if writesOneOf [14] b then some (supervisorPort, kindSetParam, b) else none
  | .setParamBudget b =>
      if writesOneOf [15, 16, 17, 18, 19, 20] b then some (supervisorPort, kindSetParam, b)
      else none
  | .setParamLogThreshold b =>
      if writesOneOf [21] b then some (supervisorPort, kindSetParam, b) else none
  | .setParamDebounceMs b =>
      if writesOneOf [22] b then some (supervisorPort, kindSetParam, b) else none
  | .getParam b => some (supervisorPort, kindGetParam, b)
  | .termConfig b => some (supervisorPort, kindTermConfig, b)
  | .termWrite b => some (supervisorPort, kindTermWrite, b)
  | .termRead b => some (supervisorPort, kindTermRead, b)
  | .termAck b => some (supervisorPort, kindTermAck, b)
  | .heaterClear b => some (supervisorPort, kindHeaterClear, b)
  | .frameEnd b => some (supervisorPort, kindFrameEnd, b)
  | .lineQuery b => some (supervisorPort, kindLineQuery, b)
  | .rivetOut b => some (heaterPort, kindRivetOut, b)
  | .heaterQuery b => some (heaterPort, kindHeaterQuery, b)
  | .motionTimerExpiry _ => none
  | .holdExpiry _ => none
  | .rivetExpiry _ => none
  | .rawChange _ _ => none
  | .acceptance _ => none
  | .probeSample _ _ => none
  | .characterArrival _ _ _ _ => none
  | .gapExpiry _ => none
  | .inBreak _ => none
  | .breakReturn _ => none
  | .frameSent _ => none
  | .unknownKindMessage p k b => if kindKnown p k then none else some (p, k, b)
  | .frameTransmitStart _ => none
  | .receiveLineFall _ => none

/-- A refusal that the manual says changes nothing: a code of the second group other than
REJECTED_TEMP and OVERRUN (R176). -/
def ResultCode.refusesWhole (c : ResultCode) : Bool :=
  decide (0x10 ≤ c.code) && !(c == .rejectedTemp) && !(c == .overrun)

/-! ### Parameters (R178) -/

/-- Every parameter in its range, the exit temperature window not inverted, and LOG_THRESHOLD one of its
four values (R105, R144, R178). -/
abbrev Params.kept (q : Params) : Prop :=
  q.alpha ≤ 2000 ∧ q.corrLimit ≤ 5000 ∧ q.probeHold ≤ 600
    ∧ (10000 ≤ q.clearDrill ∧ q.clearDrill ≤ 150000)
    ∧ (10000 ≤ q.clearSet ∧ q.clearSet ≤ 150000)
    ∧ q.diaTol ≤ 100 ∧ q.stackTol ≤ 500 ∧ q.travelBaseMs ≤ 60000
    ∧ (10 ≤ q.travelSpeed ∧ q.travelSpeed ≤ 1000)
    ∧ (1000 ≤ q.workDrillMs ∧ q.workDrillMs ≤ 600000)
    ∧ (1000 ≤ q.workSetMs ∧ q.workSetMs ≤ 600000)
    ∧ (600 ≤ q.heatMin ∧ q.heatMin ≤ q.heatMax ∧ q.heatMax ≤ 1300)
    ∧ (∀ c : RivetClass, 50 ≤ q.budgets[c] ∧ q.budgets[c] ≤ 1200)
    ∧ q.logThreshold ∈ [1, 16, 48, 64] ∧ q.debounceMs ≤ 255

/-! ### Deviation Unit (R125, R128) -/

/-- The first-deviation record's class has its flag set, and the fixed classes are HOLDING. -/
abbrev DeviationUnit.kept (d : DeviationUnit) : Prop :=
  d.first.all (fun f => d.flags[f.cls.index]) = true
    ∧ d.modes[DevClass.workTimeout.index] = .holding
    ∧ d.modes[DevClass.linkBreak.index] = .holding

/-! ### Completion Log (R138, R140) -/

/-- The number of HOLE grants standing. -/
def State.holeGrants (s : State) : Nat :=
  s.heads.toList.countP (fun o => (o.bind (fun hd => hd.status.holeGrant)).isSome)

/-- The in-flight count is the number of HOLE grants, records and grants together are at most 64, and the
records bear the consecutive numbers that end just below the counter. -/
abbrev State.logKept (s : State) : Prop :=
  s.log.inFlight = s.holeGrants
    ∧ s.log.records.length + s.log.inFlight ≤ 64
    ∧ s.log.records.map LogRecord.sequence =
        (List.range s.log.records.length).map (fun i =>
          s.log.sequence - BitVec.ofNat 16 (s.log.records.length - i))

/-! ### Heat Queue (R104, R109, R120) -/

/-- At most six rivets wait, the chute is occupied only while six do, and the full mark is set at six and
clear at four or fewer. -/
abbrev HeatQueue.kept (q : HeatQueue) : Prop :=
  q.queue.length ≤ 6 ∧ (q.chute.isSome → q.queue.length = 6)
    ∧ (q.queue.length = 6 → q.fullMark = true) ∧ (q.queue.length ≤ 4 → q.fullMark = false)

/-- Every rivet serial appears at most once among the queue, the chute and the grant records. -/
abbrev State.serialsKept (s : State) : Prop := s.serialsHeld.Nodup

/-- The rivets of the tray, the queue first and then the chute. -/
def HeatQueue.tray (q : HeatQueue) : List Rivet := q.queue ++ q.chute.toList

/-- The rivets of the tray stand in heat-out order: none is younger than one behind it (R109). -/
abbrev State.trayInOrder (s : State) : Prop :=
  s.heat.tray.Pairwise (fun a b => (s.clock - b.heatOut).toNat ≤ (s.clock - a.heatOut).toNat)

/-- No rivet of the tray has come to the last millisecond its age can count, which its expiry rules out on
the part (R111). -/
abbrev State.agesCount (s : State) : Prop :=
  ∀ r ∈ s.heat.tray, (s.clock - r.heatOut).toNat < 4294967295

/-- The class of the hole a slot's grant names. -/
def State.classOf (s : State) (h : Slot) : Option RivetClass :=
  (s.heads[h].bind (fun hd => hd.status.holeGrant)).bind
    (fun g => (s.plan.hole? g.hole).map Hole.cls)

/-- No rivet of the tray has the class of a waiting head's hole (R113). -/
abbrev State.waitersUnserved (s : State) : Prop :=
  ∀ h ∈ s.heat.waiting, ∀ r ∈ s.heat.tray, s.classOf h ≠ some r.cls

/-! ### Heads, timers and the waiting list (R62, R90, R113) -/

/-- A timer as the state of its head requires it. -/
def timerFits : HeadState → MotionTimer → Bool
  | .travel, .counting .travel limit count => decide (count ≤ limit)
  | .travel, _ => false
  | .work, .counting .work limit count => decide (count ≤ limit)
  | .work, _ => false
  | _, .stopped => true
  | _, .counting _ _ _ => false

/-- A HOLE grant has a set phase exactly when its head is a setting head, and it is UNFED in TRAVEL. -/
def phaseFits : Option Head → Bool
  | none => true
  | some hd =>
    match hd.status with
    | .travelHole g => g.phase == (if hd.kind = .set then some .unfed else none)
    | .work g => g.phase.isSome == (hd.kind == .set)
    | _ => true

/-- The head is a setting head in WORK with phase FEED_WAIT. -/
def waitsForFeed : Option Head → Bool
  | none => false
  | some hd =>
    match hd.status with
    | .work g => hd.kind == .set && g.phase == some .feedWait
    | _ => false

/-- Timers and phases fit the head states, and the waiting list names, once each, exactly the setting
heads in FEED_WAIT. -/
abbrev State.headsKept (s : State) : Prop :=
  (∀ h : Slot, timerFits (headStateOf s.heads[h]) s.timers[h] = true
      ∧ phaseFits s.heads[h] = true
      ∧ (h ∈ s.heat.waiting ↔ waitsForFeed s.heads[h] = true))
    ∧ s.heat.waiting.Nodup

/-! ### Rail Map (R45, R46, R53) -/

/-- The entries of one owner in a reservation list. -/
def entriesOf (l : List Entry) (o : Owner) : List Entry := l.filter (fun e => e.owner == o)

/-- An entry is the hull of a travel of head h with clearance c whose span is the entry's own. -/
def isHull (h : Slot) (c : Int) (e : Entry) : Bool :=
  match e.span with
  | some (a, b) => e == hull h c a b && inJig a && inJig b
  | none => false

/-- An entry is the footprint of head h with clearance c at the entry's own span. -/
def isFootprint (h : Slot) (c : Int) (e : Entry) : Bool :=
  match e.span with
  | some (a, _) => e == footprint h c a && inJig a
  | none => false

/-- The entry a head in its state holds (R53). -/
def entryFits (h : Slot) (hd : Head) (e : Entry) : Bool :=
  match hd.status with
  | .idle => e == footprint h hd.clearance hd.position
  | .travelHole g => e == hull h hd.clearance hd.position g.x && g.p0 == hd.position && inJig g.x
  | .travelMove g => e == hull h hd.clearance hd.position g.x && g.p0 == hd.position && inJig g.x
  | .work g => e == footprint h hd.clearance g.x && g.x == hd.position
  | .halted => isHull h hd.clearance e
  | .stale => isHull h hd.clearance e || isFootprint h hd.clearance e
  | .faulted => isHull h hd.clearance e || isFootprint h hd.clearance e

/-- The entries a slot has on a rail: none while DETACHED or on the other rail, else one that fits. -/
def slotEntriesFit (s : State) (r : Rail) (h : Slot) : Bool :=
  match s.heads[h], entriesOf (s.rails.list r) (.head h) with
  | none, [] => true
  | some hd, [] => !(r == hd.rail)
  | some hd, [e] => r == hd.rail && entryFits h hd e
  | _, _ => false

/-- The entries a fence has on a rail: one with its interval on a rail it covers, else none. -/
def fenceEntriesFit (s : State) (r : Rail) (f : FenceId) : Bool :=
  entriesOf (s.rails.list r) (.fence f) ==
    match s.rails.fences[f] with
    | some v => if v.rails.rails.contains r then [fenceEntry f v.lo v.hi] else []
    | none => []

/-- On a rail the entries are non-empty, lie in the jig, ascend and do not overlap, and each owner has
the entries it should. -/
abbrev State.railKept (s : State) (r : Rail) : Prop :=
  (s.rails.list r).Pairwise (fun a b => a.hi ≤ b.lo)
    ∧ (∀ e ∈ s.rails.list r, 0 ≤ e.lo ∧ e.lo < e.hi ∧ e.hi ≤ Config.jigMax)
    ∧ (∀ h : Slot, slotEntriesFit s r h = true)
    ∧ (∀ f : FenceId, fenceEntriesFit s r f = true)

/-- A head's clearance lies in the range of its parameters and its position in the jig. -/
def headPlaced : Option Head → Bool
  | none => true
  | some hd => decide (10000 ≤ hd.clearance) && inJig hd.position

/-- Both rails are kept, and every attached head is placed. -/
abbrev State.railsKept (s : State) : Prop :=
  s.railKept .A ∧ s.railKept .B ∧ ∀ h : Slot, headPlaced s.heads[h] = true

/-! ### Plan Store (R10, R11, R20, R22) -/

/-- The class may hold a hole: it is hole-bound (R125). -/
def DevClass.holeBound (c : DevClass) : Bool := decide (c.number ≤ 8)

/-- The optional parts of a hole record stand as R10 lays down for its state. -/
def Hole.recordFits (x : Hole) : Bool :=
  match x.state with
  | .planned => x.grantHead.isNone && x.heldFrom.isNone && x.heldClass.isNone
      && x.drillReport.isNone && x.setReport.isNone
  | .drilling => x.grantHead.isSome && x.heldFrom.isNone && x.heldClass.isNone
      && x.drillReport.isNone && x.setReport.isNone
  | .drilled => x.grantHead.isNone && x.heldFrom.isNone && x.heldClass.isNone
      && x.drillReport.isSome && x.setReport.isNone
  | .setting => x.grantHead.isSome && x.heldFrom.isNone && x.heldClass.isNone
      && x.drillReport.isSome && x.setReport.isNone
  | .set => x.grantHead.isNone && x.heldFrom.isNone && x.heldClass.isNone
      && x.drillReport.isSome && x.setReport.isSome
  | .held => x.grantHead.isNone && x.heldClass.any DevClass.holeBound &&
      match x.heldFrom with
      | some .drilling => x.setReport.isNone
      | some .setting => x.drillReport.isSome
      | none => false
  | .excused => x.grantHead.isNone && x.heldFrom.isNone && x.heldClass.isNone

/-- The hole grant a slot holds. -/
def State.grantOf (s : State) (h : Slot) : Option HoleGrant :=
  s.heads[h].bind (fun hd => hd.status.holeGrant)

/-- The hole a slot's grant names is in the work of the head's kind and names the slot; a HOLE grant
stands only while the frame is WORKING or COMPLETE. -/
def State.grantFits (s : State) (h : Slot) : Bool :=
  match s.heads[h] with
  | none => true
  | some hd =>
    match hd.status.holeGrant with
    | none => true
    | some g =>
      (s.plan.state == .working || s.plan.state == .complete) &&
        match s.plan.hole? g.hole with
        | some x => x.state == hd.kind.working && x.grantHead == some h
        | none => false

/-- A loaded hole's record is one R10 allows, and the slot it names holds a grant for it. -/
def State.holeFits (s : State) (i : Nat) : Bool :=
  match s.plan.hole? i with
  | none => true
  | some x => x.recordFits &&
    match x.grantHead with
    | none => true
    | some h => (s.grantOf h).map HoleGrant.hole == some i

/-- The laws of R10 and R11. -/
abbrev State.holesKept (s : State) : Prop :=
  (∀ h : Slot, s.grantFits h = true) ∧ ∀ i < s.plan.holes.length, s.holeFits i = true

/-- The loaded holes of a plan. -/
def PlanStore.loaded (p : PlanStore) : List Hole := p.holes.filterMap id

/-- The joint record of an index counts the holes that name it (R20). -/
def PlanStore.jointFits (p : PlanStore) (j : Nat) (r : Joint) : Bool :=
  r.members == (List.range p.holes.length).filter (fun i => (p.hole? i).any (fun x => x.joint == j))
    && r.drillingCount == p.loaded.countP (fun x => x.joint == j && x.state == .drilling)
    && r.settingCount == p.loaded.countP (fun x => x.joint == j && x.state == .setting)
    && (indices 4).all (fun t =>
      r.tierOpen[t] == p.loaded.countP (fun x => x.joint == j && x.tier == t && !x.state.final))

/-- The tables have their sizes, every hole names a joint, and every count is the number of holes it
stands for (R1, R20, R22). -/
abbrev PlanStore.countsKept (p : PlanStore) : Prop :=
  p.holes.length = p.holeCount ∧ p.joints.length = p.jointCount
    ∧ p.segments.length = p.segCount ∧ p.bays.length = p.bayCount
    ∧ (∀ x ∈ p.loaded, x.joint < p.joints.length)
    ∧ (∀ st : Fin 7, p.counters.stateCounts[st] = p.loaded.countP (fun x => x.state.code == st))
    ∧ p.counters.holesLoaded = p.loaded.length
    ∧ p.counters.segsLoaded = (p.segments.filterMap id).length
    ∧ p.counters.baysLoaded = (p.bays.filterMap id).length
    ∧ (∀ j < p.joints.length, (p.joints[j]?).any (p.jointFits j) = true)

/-- The rivet of a hole is being set, was set, or was stopped while it was: its tier had its turn. -/
def Hole.tierTaken (x : Hole) : Bool :=
  x.state == .setting || x.state == .set || (x.state == .held && x.heldFrom == some .setting)

/-- The two laws of R20: no hole's tier is taken while a hole of a lower tier of its joint is neither SET
nor EXCUSED, and no joint has a hole DRILLING and a hole SETTING. Before the first DATUM every hole is
PLANNED. -/
abbrev PlanStore.orderKept (p : PlanStore) : Prop :=
  (∀ x ∈ p.loaded, ∀ y ∈ p.loaded,
      x.joint = y.joint → x.tierTaken = true → y.tier < x.tier → y.state.final = true)
    ∧ (∀ x ∈ p.loaded, ∀ y ∈ p.loaded,
      x.joint = y.joint → x.state = .drilling → y.state ≠ .setting)
    ∧ (p.state = .loading ∨ p.state = .ready → ∀ x ∈ p.loaded, x.state = .planned)

/-! ### Thermal Unit (R25, R27, R30) -/

/-- A probe that is OK is a PROBE_IN terminal with a value (R26, R156). -/
def Terminal.probeSound (t : Terminal) : Bool :=
  !t.probeOk || (t.mode == .probeIn && t.probeValue.isSome)

/-- A segment is LIVE exactly while its probe is OK, with the probe's value (R29, R30). -/
def State.liveFits (s : State) (g : Segment) : Bool :=
  match g.status with
  | .live v => s.terminals[g.probe].probeOk && s.terminals[g.probe].probeValue == some v
  | _ => !s.terminals[g.probe].probeOk

/-- A SUBSTITUTED segment stands beside a supplying one, an UNKNOWN one beside none; LIVE segments follow
their probes; and no segment is held in EMPTY and LOADING. -/
abbrev State.thermalKept (s : State) : Prop :=
  (∀ g ∈ s.thermal, g.status = .substituted → s.thermal.any (fun x => x.status.supply.isSome) = true)
    ∧ (∀ g ∈ s.thermal, g.status = .unknown → s.thermal.any (fun x => x.status.supply.isSome) = false)
    ∧ (∀ g ∈ s.thermal, s.liveFits g = true)
    ∧ (∀ t : TermId, s.terminals[t].probeSound = true)
    ∧ (s.plan.state = .empty ∨ s.plan.state = .loading → s.thermal = [])

/-! ### Terminals (R147, R148, R150) -/

/-- A terminal's function fits its mode, and the fields that only one mode uses hold their rest values in
every other. -/
def Terminal.recordFits (t : Terminal) : Bool :=
  functionFits t.mode t.function && (!t.pending || t.pendingEnable)
    && (t.mode == .switchIn || (!t.level && t.candidate.isNone && !t.pending))
    && (t.candidate.all (fun c => c.active != t.level))
    && (t.mode == .probeIn
      || (!t.probeOk && t.probeValue.isNone && t.lastCode.isNone && t.runCount == 0))
    && decide (t.runCount ≤ 2)
    && (t.probeValue.all (fun v => decide (-300 ≤ v) && decide (v ≤ 1500)))

/-- Every terminal record fits, and a function other than PLAIN and PROBE stands on one terminal at
most. -/
abbrev State.terminalsKept (s : State) : Prop :=
  (∀ t : TermId, s.terminals[t].recordFits = true)
    ∧ ∀ t u : TermId, s.terminals[t].function.unique = true →
        s.terminals[t].function = s.terminals[u].function → t = u

/-! ### Station Links (R164, R166, R168, R169) -/

/-- The sum of the bytes an assembly holds is the one it keeps, and it holds no more than its length. -/
def Assembly.fits (a : Assembly) : Bool :=
  match a.length with
  | none => a.payload.isEmpty && a.sum == a.kind
  | some n => decide (n ≤ 60) && decide (a.payload.length ≤ n)
      && a.sum == a.kind + BitVec.ofNat 8 n + byteSum a.payload

/-- A port's queues stand within their bounds and hold messages a frame can carry, a message waits in the
buffer only of a deaf port with a full queue, the pending set has no kind twice, a frame is being sent
only from a queue that holds it, and a gap is armed only while a frame is assembled. -/
abbrev Port.kept (q : Port) : Prop :=
  q.receiveQueue.length ≤ 4 ∧ q.transmitQueue.length ≤ 8 ∧ q.errors ≤ 255
    ∧ (∀ m ∈ q.receiveQueue ++ q.waiting.toList, m.payload.length ≤ 60)
    ∧ (q.waiting.isSome → q.receiveQueue.length = 4)
    ∧ (q.deaf = true → q.assembly = none) ∧ (q.waiting.isSome → q.deaf = true)
    ∧ q.notices.Nodup
    ∧ (q.sendingFor.isSome → q.transmitQueue ≠ [])
    ∧ (q.gapFor.isSome → q.assembly.isSome)
    ∧ q.assembly.all Assembly.fits = true

/-- Every port is kept. -/
abbrev State.portsKept (s : State) : Prop := ∀ p : PortId, s.ports[p].kept

/-! ### Messages as characters (R166) -/

/-- The characters of a message sent to the coordinator, each with its mark bit: header, length, payload
and the check that brings the sum to 0 modulo 256 (R166). -/
def Message.characters (m : Message) : List (Bool × Byte) :=
  let n : Byte := BitVec.ofNat 8 m.payload.length
  (true, m.kind) :: (false, n) :: (m.payload.map (fun b => (false, b)))
    ++ [(false, 0 - (m.kind + n + byteSum m.payload))]

/-- A port after it has received characters with sound stop bits, first to last (R167). -/
def Port.receiveAll (q : Port) (chars : List (Bool × Byte)) : Port :=
  chars.foldl (fun acc c => acc.receive c.1 c.2 true) q

end Sys2Proof.Machine
end

