-- ==== Sys2Proof/Certificates/Slice0/Obligations.lean ====
section
/-! DEFINITION. The statements for the provers. They come from the numbered rules of spec/: first the
taking of commands and messages, then the laws of the device every step keeps, then what each command
does. A statement that rests on a choice of the model says so and names the log entry. -/

open Sys2Proof Sys2Proof.Machine

/-! ### Commands, time and reset -/

/-- The step takes the command at the front of the queue. -/
def Obligations.StepTakesTheFrontCommand : Prop :=
  ∀ (c : Instr) (rest : List Instr) (s : State), s.pending = c :: rest →
    step s = exec c { s with pending := rest }

/-- On an empty queue one unit of 1/576 000 s passes: the model's choice, log entry 1. The line clock and
the timers that run advance by one at each whole millisecond (R89, R94), and nothing else changes. -/
def Obligations.EmptyQueuePassesOneUnitOfTime : Prop :=
  ∀ s : State, s.pending = [] → s.inReset = false →
    ∃ t : State, step s = .next t
      ∧ (∀ p : PortId, t.ports[p] = { s.ports[p] with
          lowFor := s.ports[p].lowFor.map (· + 1)
          gapFor := s.ports[p].gapFor.map (· + 1)
          sendingFor := s.ports[p].sendingFor.map (· + 1)
          idleFor := if s.ports[p].sendingFor.isSome then s.ports[p].idleFor
            else s.ports[p].idleFor + 1 })
      ∧ t.subMs = (if s.subMs + 1 < 576 then s.subMs + 1 else 0)
      ∧ t.clock = (if s.subMs + 1 < 576 then s.clock else s.clock + 1)
      ∧ (∀ h : Slot, t.timers[h] = match s.timers[h] with
          | .stopped => .stopped
          | .counting stage limit count => .counting stage limit
              (if s.subMs + 1 < 576 ∨ s.timerRunning h = false then count
                else min limit (count + 1)))
      ∧ t = { s with ports := t.ports, subMs := t.subMs, clock := t.clock, timers := t.timers }

/-- No command stops the part: each answers a next state, and leaves the waiting commands alone. -/
def Obligations.EveryCommandAnswersANextState : Prop :=
  ∀ (c : Instr) (s : State), ∃ t : State, exec c s = .next t ∧ t.pending = s.pending

/-- The power-on values of the blocks, every field of every record (R1, R22, R25, R45, R57, R61, R90, R103,
R124, R137, R147, R164, R178). The idle time of the transmit lines and the levels of the receive lines and of
the pins are the model's choice, log entries 3, 4, 15 and 25. -/
def Obligations.ResetHoldsThePowerOnValues : Prop :=
  State.reset.inReset = false ∧ State.reset.clock = 0 ∧ State.reset.pending = []
    ∧ State.reset.plan.state = .empty ∧ State.reset.plan.header = none
    ∧ State.reset.plan.jd = none ∧ State.reset.plan.holes = [] ∧ State.reset.plan.joints = []
    ∧ State.reset.plan.segments = [] ∧ State.reset.plan.bays = []
    ∧ (∀ i : Fin 7, State.reset.plan.counters.stateCounts[i] = 0)
    ∧ State.reset.plan.counters = { State.reset.plan.counters with
        segsLoaded := 0, baysLoaded := 0, holesLoaded := 0, holdEntries := 0, redoCount := 0
        acceptCount := 0, datumCount := 0 }
    ∧ State.reset.thermal = [] ∧ State.reset.rails.listA = [] ∧ State.reset.rails.listB = []
    ∧ (∀ f : FenceId, State.reset.rails.fences[f] = none)
    ∧ (∀ h : Slot, State.reset.heads[h] = none ∧ State.reset.timers[h] = .stopped)
    ∧ State.reset.freezeA = false ∧ State.reset.freezeB = false
    ∧ State.reset.heat = ⟨[], none, false, 0, [], false, 0, 0⟩
    ∧ (∀ c : DevClass, State.reset.modeOf c =
        if c ∈ [.stackOut, .thermalLimit, .probeSubst, .heatWindow] then .noting else .holding)
    ∧ (∀ i : Fin 10, State.reset.dev.flags[i] = false) ∧ State.reset.dev.first = none
    ∧ State.reset.log = ⟨[], 0, 0⟩
    ∧ (List.range 22).map (fun i => State.reset.params.get (i + 1)) =
        [some 1150, some 2000, some 30, some 60000, some 45000, some 30, some 100, some 4000,
          some 200, some 90000, some 30000, some 0, some 1000, some 1150, some 250, some 320,
          some 360, some 400, some 460, some 520, some 16, some 20]
    ∧ (∀ n : TermId, State.reset.pinHigh[n] = false
        ∧ State.reset.terminals[n] = { State.reset.terminals[n] with
            mode := .disabled, function := .plain, polarity := .activeHigh, edge := .rise
            pendingEnable := false, pending := false, latch := false, level := false
            candidate := none, probeOk := false, probeValue := none, lastCode := none
            runCount := 0 })
    ∧ (∀ p : PortId, State.reset.ports[p] =
        { assembly := none, waiting := none, receiveQueue := [], deaf := false, lowFor := none
          inBreak := false, transmitQueue := [], notices := [], errors := 0, gapFor := none
          sendingFor := none, idleFor := 0 })

/-- Power-on and the release of RESET_N give every block its power-on values; a receive line that stands
low counts as low from then on (R163, R164). While RESET_N is low every terminal and transmit pin is
released, and a command changes nothing but the levels the outside world holds (log entry 3), until
POWER_ON. -/
def Obligations.ResetHeldLowStopsThePartUntilPowerOn : Prop :=
  (∀ s : State, ∃ t : State, exec .powerOn s = .next t
      ∧ t = { State.reset with pinHigh := s.pinHigh, pending := s.pending, ports := t.ports }
      ∧ ∀ p : PortId, t.ports[p] =
          { Port.powerOn with lowFor := if s.ports[p].lowFor.isSome then some 0 else none })
    ∧ (∀ s : State, exec .resetNAssert s = .next { s with inReset := true })
    ∧ (∀ (s : State) (n : TermId), s.inReset = true →
        s.pinDriven n = none ∧ s.transmitPinsDriven = false)
    ∧ (∀ (c : Instr) (s t : State), s.inReset = true → c ≠ .powerOn → exec c s = .next t →
        SameButLevels s t)

/-! ### Signals and pins -/

/-- The signals follow the records that cause them. A function signal is active while a SWITCH_IN terminal of
the function has an active level (R148), the clamp of a bay is its CLAMP_BAY signal (R66), a permit needs a
head in TRAVEL or WORK, no line stop and no freeze (R88, R160), a timer counts only with a permit and outside
FEED_WAIT (R94), and HEATER_PAUSE and the attention signal have the inputs of R119 and R159. An OUT terminal
drives its pin from its function's signal and its latch, through its polarity, and no other terminal drives
its pin (R158, R163). A transmit line is high at rest and shows the 11 bits of each character of the frame it
sends, each for five units of the model's time, log entry 1 (R165). -/
def Obligations.SignalsAndPinsFollowTheirCauses : Prop :=
  (∀ (s : State) (f : TermFunction), s.functionSignal f = true ↔ ∃ n : TermId,
      s.terminals[n].function = f ∧ s.terminals[n].mode = .switchIn ∧ s.terminals[n].level = true)
  ∧ (∀ s : State, s.lineStop = s.functionSignal .lineStop)
  ∧ (∀ (s : State) (bay : Nat), s.clampActive bay = true ↔ ∃ b : Fin 24,
      b.val = bay ∧ s.functionSignal (.clampBay b) = true)
  ∧ (∀ (s : State) (h : Slot), s.permit h = true ↔ ∃ hd : Head, s.heads[h] = some hd
      ∧ headStateOf (some hd) ∈ [.travel, .work] ∧ s.lineStop = false
      ∧ (match hd.rail with | .A => s.freezeA | .B => s.freezeB) = false)
  ∧ (∀ (s : State) (h : Slot), s.timerRunning h = true ↔ s.timers[h] ≠ .stopped
      ∧ s.permit h = true ∧ ∀ (hd : Head) (g : HoleGrant), s.heads[h] = some hd →
        hd.status = .travelHole g ∨ hd.status = .work g → g.phase ≠ some .feedWait)
  ∧ (∀ s : State, s.heaterPause = true ↔ s.heat.fullMark = true ∨ s.heat.overrun = true
      ∨ s.lineStop = true ∨ s.modeOf .heatWindow = .holding
        ∧ s.dev.flags[DevClass.heatWindow.index] = true)
  ∧ (∀ s : State, s.attention = true ↔ s.params.logThreshold ≤ s.log.records.length
      ∨ (∃ c : DevClass, s.dev.flags[c.index] = true)
      ∨ ∃ h : Slot, headStateOf s.heads[h] ∈ [.halted, .stale, .faulted])
  ∧ (∀ (s : State) (n : TermId), s.terminals[n].mode ≠ .out → s.pinDriven n = none)
  ∧ (∀ (s : State) (n : TermId), s.inReset = false → s.terminals[n].mode = .out →
      let drive : Bool → Option Bool := fun active => match s.terminals[n].polarity with
        | .activeHigh => some active
        | .activeLow => some (!active)
      let latch := s.terminals[n].latch
      (∀ h : Slot, s.terminals[n].function = .permit h →
        s.pinDriven n = drive (s.permit h && !latch))
      ∧ (s.terminals[n].function = .heaterPause → s.pinDriven n = drive (s.heaterPause || latch))
      ∧ (s.terminals[n].function = .railFreeze .A → s.pinDriven n = drive (s.freezeA || latch))
      ∧ (s.terminals[n].function = .railFreeze .B → s.pinDriven n = drive (s.freezeB || latch))
      ∧ (s.terminals[n].function = .attention → s.pinDriven n = drive (s.attention || latch))
      ∧ (s.terminals[n].function = .plain → s.pinDriven n = drive latch))
  ∧ (∀ (s : State) (p : PortId), s.inReset = false →
      (s.ports[p].sendingFor = none → s.transmitLevel p = some true)
      ∧ ∀ (f : TxFrame) (rest : List TxFrame) (k : Nat) (mark : Bool) (data : Byte) (i : Fin 11)
          (j : Fin 5), s.ports[p].transmitQueue = f :: rest →
        f.characters[k]? = some (mark, data) →
        s.ports[p].sendingFor = some (k * 55 + i.val * 5 + j.val) →
        s.transmitLevel p = some (if i.val = 0 then false else if i.val = 9 then mark
          else if i.val = 10 then true else data.getLsbD (i.val - 1)))

/-! ### Messages and notices -/

/-- A message that does not stand at the head of its port's queue, or may not be taken yet, is not taken: the
model's reading of R171, log entry 5. An event that is not due by its rule (R31, R97, R111, R151, R155, R165,
R168, R170, R172) has not come about: the model's choice, log entry 6. That a line in break gives no character
and does not fall again is the model's reading, log entry 16. -/
def Obligations.CommandNotDueChangesNothing : Prop :=
  (∀ (c : Instr) (p : PortId) (kind : Byte) (payload : List Byte) (s : State),
      messageOf c = some (p, kind, payload) → s.takes p ⟨kind, payload⟩ = false → exec c s = .next s)
    ∧ (∀ (h : Slot) (s : State), s.expiryDue h = false → exec (.motionTimerExpiry h) s = .next s)
    ∧ (∀ (k : Fin 16) (s : State), s.holdDue k.val = false → exec (.holdExpiry k) s = .next s)
    ∧ (∀ (v : BitVec 16) (s : State), s.rivetExpiryDue v = false → exec (.rivetExpiry v) s = .next s)
    ∧ (∀ (n : TermId) (b : Bool) (s : State), s.inReset = false → s.pinHigh[n] = b →
        exec (.rawChange n b) s = .next s)
    ∧ (∀ (n : TermId) (s : State), s.acceptanceDue n = false → exec (.acceptance n) s = .next s)
    ∧ (∀ (n : TermId) (code : ProbeCode) (s : State), s.sampleDue n = false →
        exec (.probeSample n code) s = .next s)
    ∧ (∀ (p : PortId) (mark : Bool) (data : Byte) (stop : Bool) (s : State), s.inReset = false →
        s.ports[p].breaking = true → exec (.characterArrival p mark data stop) s = .next s)
    ∧ (∀ (p : PortId) (s : State), s.ports[p].gapDue = false → exec (.gapExpiry p) s = .next s)
    ∧ (∀ (p : PortId) (s : State), s.ports[p].lowLongEnough = false ∨ s.ports[p].inBreak = true →
        exec (.inBreak p) s = .next s)
    ∧ (∀ (p : PortId) (s : State), s.inReset = false → s.ports[p].breaking = false →
        exec (.breakReturn p) s = .next s)
    ∧ (∀ (p : PortId) (s : State), s.ports[p].sentDue = false → exec (.frameSent p) s = .next s)
    ∧ (∀ (p : PortId) (s : State), s.ports[p].startDue = false →
        exec (.frameTransmitStart p) s = .next s)
    ∧ (∀ (p : PortId) (s : State), s.inReset = false → s.ports[p].breaking = true →
        exec (.receiveLineFall p) s = .next s)

/-- The two checks of the Station Links (R171): a kind a station of the port's role does not send is
refused UNKNOWN_KIND, and a payload of another length than the catalogue gives is refused BAD_FIELD. That a
refusal of a RIVET_OUT carries the serial field of R179, absent, is the model's reading, log entry 12. -/
def Obligations.StationLinksRefuseKindsAndLengths : Prop :=
  (∀ (h : Slot) (k : Byte), kindKnown (headPort h) k = true ↔ 0x10 ≤ k.toNat ∧ k.toNat ≤ 0x1C)
    ∧ (∀ k : Byte, kindKnown supervisorPort k = true ↔ 0x40 ≤ k.toNat ∧ k.toNat ≤ 0x5A)
    ∧ (∀ k : Byte, kindKnown heaterPort k = true ↔ k.toNat = 0x70 ∨ k.toNat = 0x71)
    ∧ (∀ (p : PortId) (kind : Byte) (payload : List Byte) (s : State),
        kindKnown p kind = false → s.ready p kind payload →
        exec (.unknownKindMessage p kind payload) s = .next { s with
          ports := repliedPorts s.ports p kind
            ⟨.unknownKind, 0, if kind = kindRivetOut then .rivetSerial none else .none⟩ })
    ∧ (∀ (c : Instr) (p : PortId) (kind : Byte) (payload : List Byte) (s : State),
        messageOf c = some (p, kind, payload) → kindKnown p kind = true →
        lengthFits p kind payload = false → s.ready p kind payload →
        exec c s = .next { s with
          ports := repliedPorts s.ports p kind
            ⟨.badField, 0, if kind = kindRivetOut then .rivetSerial none else .none⟩ })

/-- A refused message changes nothing beyond its reply, but for REJECTED_TEMP and OVERRUN (R176). -/
def Obligations.RefusedMessageChangesNothing : Prop :=
  ∀ (c : Instr) (p : PortId) (kind : Byte) (payload : List Byte) (s t : State) (r : Reply),
    messageOf c = some (p, kind, payload) → s.ready p kind payload → exec c s = .next t →
    t.ports[p].transmitQueue = s.ports[p].transmitQueue ++ [.reply kind r] →
    r.code.refusesWhole = true →
    t = { s with ports := repliedPorts s.ports p kind r }

/-- Each taken message leaves its queue and makes exactly one REPLY, which echoes its kind; no frame is lost,
and what other ports send is one notice each at most (R171 to R173). -/
def Obligations.TakenMessageMakesOneReply : Prop :=
  ∀ (c : Instr) (p : PortId) (kind : Byte) (payload : List Byte) (s : State),
    messageOf c = some (p, kind, payload) → s.takes p ⟨kind, payload⟩ = true →
    ∃ (t : State) (r : Reply), exec c s = .next t ∧ AnsweredAt s t p kind r

/-- A port whose transmit queue is empty sends the first of its pending notices, in the order of its role,
built from the state as it stands; every other port keeps what it has (R173). -/
def Obligations.IdlePortSendsItsFirstNotice : Prop :=
  (sendingOrder .head).take 3 = [.hold, .feedGiven, .portDeaf]
    ∧ (sendingOrder .supervisor).take 5 = [.attention, .deviation, .terminal, .headState, .portDeaf]
    ∧ (sendingOrder .heater).take 1 = [.portDeaf]
    ∧ ∀ (s : State) (p : PortId),
        (∀ k : NoticeKind, s.ports[p].transmitQueue = [] →
          (sendingOrder (roleOf p)).find? (fun x => decide (x ∈ s.ports[p].notices)) = some k →
          s.sendNotices.ports[p] = { s.ports[p] with
            transmitQueue := [.notice (s.buildNotice p k)]
            notices := s.ports[p].notices.filter (fun x => x ≠ k) })
        ∧ (s.ports[p].transmitQueue ≠ [] ∨ s.ports[p].notices = [] →
          s.sendNotices.ports[p] = s.ports[p])
        ∧ s.sendNotices = { s with ports := s.sendNotices.ports }

/-! ### The laws of the device that every step keeps -/

/-- The queues and sets of the ports stay within their bounds, and no port stands idle with a notice
unsent (R164, R173). -/
def Obligations.StepKeepsThePortsWithinBounds : Prop :=
  ∀ s t : State, s.portsKept → s.settled → step s = .next t → t.portsKept ∧ t.settled

/-- Every parameter stays in its range, the fixed classes stay HOLDING, and the first-deviation record's
class keeps its flag (R125, R128, R178). -/
def Obligations.StepKeepsParametersAndDeviations : Prop :=
  ∀ s t : State, s.params.kept → s.dev.kept → step s = .next t → t.params.kept ∧ t.dev.kept

/-- Log records and HOLE grants together never exceed 64, and the records bear consecutive numbers (R138,
R140). -/
def Obligations.StepKeepsALogPlaceForEveryGrant : Prop :=
  ∀ s t : State, s.logKept → step s = .next t → t.logKept

/-- The queue holds at most six rivets, the chute only while it holds six, the full mark follows, no serial
stands twice among tray and grants, and the rivets of the tray keep their heat-out order while their ages
count (R104, R109, R120). -/
def Obligations.StepKeepsTheTrayAndItsSerials : Prop :=
  ∀ s t : State, s.heat.kept → s.serialsKept → step s = .next t →
    t.heat.kept ∧ t.serialsKept ∧ (s.agesCount → s.trayInOrder → t.trayInOrder)

/-- Timers and set phases fit the head states, the waiting list names exactly the heads in FEED_WAIT, no
rivet of the tray has the class of a waiting head's hole, and the rails are frozen exactly as R100 says (R62,
R90, R100, R113). -/
def Obligations.StepKeepsTimersWaitingAndFreeze : Prop :=
  ∀ s t : State, s.headsKept → s.freezeFits → step s = .next t →
    t.headsKept ∧ t.freezeFits ∧ (s.holesKept → s.waitersUnserved → t.waitersUnserved)

/-- On each rail no two reservations overlap, every attached head has exactly the entry its state gives,
and every fence one entry on each rail it covers (R45, R46, R53). -/
def Obligations.StepKeepsTheReservationsApart : Prop :=
  ∀ s t : State, s.params.kept → s.railsKept → step s = .next t → t.railsKept

/-- A hole is DRILLING or SETTING exactly when one head's grant names it, and its record has the parts its
state allows (R10, R11); the state counts, the loaded counts and the joint records count the holes they
stand for (R20, R22). -/
def Obligations.StepKeepsHolesGrantsAndCounts : Prop :=
  ∀ s t : State, s.holesKept → step s = .next t →
    t.holesKept ∧ (s.plan.countsKept → t.plan.countsKept)

/-- The two laws of R20: a tier waits for the tiers below it, and a joint is never drilled and set at
once. -/
def Obligations.StepKeepsTheOrderOfJoints : Prop :=
  ∀ s t : State, s.holesKept → s.plan.countsKept → s.plan.orderKept → step s = .next t →
    t.plan.orderKept

/-- UNKNOWN is a condition of the whole frame, LIVE segments are those whose probe is OK, and no segment is
held before the seal (R25, R27, R29, R30). -/
def Obligations.StepKeepsTheSegmentPicture : Prop :=
  ∀ s t : State, s.thermalKept → step s = .next t → t.thermalKept

/-- Each terminal's function fits its mode, fields outside their mode rest, and a function other than
PLAIN and PROBE stands on one terminal at most (R147, R148, R150). -/
def Obligations.StepKeepsTheTerminals : Prop :=
  ∀ s t : State, s.terminalsKept → step s = .next t → t.terminalsKept

/-- The laws hold at reset. -/
def Obligations.LawsHoldAtReset : Prop :=
  State.reset.portsKept ∧ State.reset.settled ∧ State.reset.params.kept ∧ State.reset.dev.kept
    ∧ State.reset.logKept ∧ State.reset.heat.kept ∧ State.reset.serialsKept
    ∧ State.reset.trayInOrder ∧ State.reset.waitersUnserved
    ∧ State.reset.headsKept ∧ State.reset.freezeFits ∧ State.reset.railsKept
    ∧ State.reset.holesKept ∧ State.reset.plan.countsKept ∧ State.reset.plan.orderKept
    ∧ State.reset.thermalKept ∧ State.reset.terminalsKept

/-! ### Heads -/

/-- ATTACH of a DETACHED slot with its fields in range and a clear footprint: the footprint is placed, the
clearance is that of the kind, and the head is IDLE (R48, R64). An entry that the footprint only touches
does not stand in its way (R46). -/
def Obligations.AttachPlacesTheFootprint : Prop :=
  ∀ (h : Slot) (b : List Byte) (s : State) (kind : HeadKind) (rail : Rail),
    s.ready (headPort h) kindAttach b → b.length = 6 → s.heads[h] = none →
    headKindOfCode (u8At b 0) = some kind → railOfCode (u8At b 1) = some rail →
    0 ≤ i32At b 2 → i32At b 2 ≤ 2000000 →
    let c : Int := (match kind with
      | .drill => s.params.clearDrill
      | .set => s.params.clearSet : Nat)
    let e : Entry := ⟨.head h, .footprint, max 0 (min 2000000 (i32At b 2 - c)),
      max 0 (min 2000000 (i32At b 2 + c)), some (i32At b 2, i32At b 2)⟩
    ((∀ f ∈ s.rails.list rail, f.owner ≠ .head h → f.hi ≤ e.lo ∨ e.hi ≤ f.lo) →
      exec (.attach h b) s = .next { s with
        heads := s.heads.set h (some ⟨kind, rail, c, i32At b 2, .idle, none⟩)
        rails := s.rails.setList rail (placeEntry e (s.rails.list rail))
        ports := repliedPorts s.ports (headPort h) kindAttach ⟨.ok, 0, .clearance c⟩ })
    ∧ (∀ w : Owner, conflict (s.rails.list rail) (.head h) e.lo e.hi = some w →
      exec (.attach h b) s = .next { s with
        ports := repliedPorts s.ports (headPort h) kindAttach ⟨.overlap, 0, .blockedBy w⟩ })

/-- The footprint of a head at q is the interval of its clearance about q, the hull of a travel from p to x
that about both ends, each clamped to the jig and with its span (R47). The overlap test of R46 on a list
ascending by lo: CLEAR when no entry of another owner overlaps, else it names the conflicting entry of lowest
lo. -/
def Obligations.IntervalsAndTheOverlapTest : Prop :=
  (∀ (h : Slot) (c q : Int), footprint h c q = ⟨.head h, .footprint, max 0 (min 2000000 (q - c)),
      max 0 (min 2000000 (q + c)), some (q, q)⟩)
  ∧ (∀ (h : Slot) (c p x : Int), hull h c p x = ⟨.head h, .hull,
      max 0 (min 2000000 (min p x - c)), max 0 (min 2000000 (max p x + c)),
      some (min p x, max p x)⟩)
  ∧ ∀ (l : List Entry) (owner : Owner) (lo hi : Int), l.Pairwise (fun a b => a.lo < b.lo) →
    (conflict l owner lo hi = none ↔
      ∀ e ∈ l, e.owner ≠ owner → ¬(e.lo < hi ∧ lo < e.hi))
    ∧ ∀ w : Owner, conflict l owner lo hi = some w →
      ∃ e ∈ l, e.owner = w ∧ w ≠ owner ∧ e.lo < hi ∧ lo < e.hi
        ∧ ∀ f ∈ l, f.owner ≠ owner → f.lo < hi ∧ lo < f.hi → e.lo ≤ f.lo

/-- DETACH of an IDLE head, and HEAD_EVICT of a HALTED, STALE or FAULTED one: the entry is removed, the
record is cleared and a pending HOLD notice goes unsent (R56, R64, R85). After an eviction the rails are
frozen as R100 says and HEAD_STATE is announced on P8 (R87, R101). -/
def Obligations.DetachAndEvictFreeTheSlot : Prop :=
  (∀ (h : Slot) (s : State) (hd : Head), s.ready (headPort h) kindDetach [] →
      s.heads[h] = some hd → hd.status = .idle →
      exec (.detach h []) s = .next { s with
        heads := s.heads.set h none
        rails := s.rails.setList hd.rail (removeOwner (.head h) (s.rails.list hd.rail))
        ports := unpendedPorts (repliedPorts s.ports (headPort h) kindDetach ⟨.ok, 0, .none⟩)
          (headPort h) .hold })
  ∧ (∀ (h : Slot) (b : List Byte) (s : State) (hd : Head),
      s.ready supervisorPort kindHeadEvict b → b.length = 1 → u8At b 0 = h.val →
      s.heads[h] = some hd → hd.status = .halted ∨ hd.status = .stale ∨ hd.status = .faulted →
      ∃ t : State, exec (.headEvict b) s = .next t
        ∧ t.heads = s.heads.set h none
        ∧ t.rails = s.rails.setList hd.rail (removeOwner (.head h) (s.rails.list hd.rail))
        ∧ t.freezeFits
        ∧ t.ports = pendedPorts (unpendedPorts
            (repliedPorts s.ports supervisorPort kindHeadEvict ⟨.ok, 0, .none⟩)
            (headPort h) .hold) supervisorPort .headState
        ∧ t = { s with heads := t.heads, rails := t.rails, ports := t.ports,
                       freezeA := t.freezeA, freezeB := t.freezeB })

/-- HALT_AT within the span of the entry, and HEAD_RECOVER at a clear footprint: the entry becomes the
footprint at x, p becomes x and the head is IDLE; its rail is judged afresh and HEAD_STATE is announced
(R54, R55, R83, R84, R87, R101). A HALT_AT outside the span is refused BAD_FIELD. -/
def Obligations.TroubledHeadIsPutDown : Prop :=
  (∀ (h : Slot) (b : List Byte) (s : State) (hd : Head) (e : Entry) (lo hi : Int),
      s.ready (headPort h) kindHaltAt b → b.length = 4 → s.heads[h] = some hd →
      hd.status = .halted ∨ hd.status = .stale → s.rails.entryOf hd.rail h = some e →
      e.span = some (lo, hi) →
      (lo ≤ i32At b 0 → i32At b 0 ≤ hi →
        ∃ t : State, exec (.haltAt h b) s = .next t
          ∧ t.heads = s.heads.set h (some { hd with position := i32At b 0, status := .idle })
          ∧ t.rails = s.rails.setList hd.rail
              (placeEntry (footprint h hd.clearance (i32At b 0)) (s.rails.list hd.rail))
          ∧ t.freezeFits ∧ t.announced supervisorPort .headState
          ∧ AnsweredAt s t (headPort h) kindHaltAt ⟨.ok, 0, .none⟩
          ∧ t = { s with heads := t.heads, rails := t.rails, ports := t.ports,
                         freezeA := t.freezeA, freezeB := t.freezeB })
      ∧ (i32At b 0 < lo ∨ hi < i32At b 0 → exec (.haltAt h b) s = .next { s with
          ports := repliedPorts s.ports (headPort h) kindHaltAt ⟨.badField, 0, .none⟩ }))
  ∧ (∀ (h : Slot) (b : List Byte) (s : State) (hd : Head),
      s.ready supervisorPort kindHeadRecover b → b.length = 5 → u8At b 0 = h.val →
      0 ≤ i32At b 1 → i32At b 1 ≤ 2000000 → s.heads[h] = some hd →
      hd.status = .halted ∨ hd.status = .stale ∨ hd.status = .faulted →
      conflict (s.rails.list hd.rail) (.head h) (footprint h hd.clearance (i32At b 1)).lo
        (footprint h hd.clearance (i32At b 1)).hi = none →
      ∃ t : State, exec (.headRecover b) s = .next t
        ∧ t.heads = s.heads.set h (some { hd with position := i32At b 1, status := .idle })
        ∧ t.rails = s.rails.setList hd.rail
            (placeEntry (footprint h hd.clearance (i32At b 1)) (s.rails.list hd.rail))
        ∧ t.freezeFits ∧ t.announced supervisorPort .headState
        ∧ AnsweredAt s t supervisorPort kindHeadRecover ⟨.ok, 0, .none⟩
        ∧ t = { s with heads := t.heads, rails := t.rails, ports := t.ports,
                       freezeA := t.freezeA, freezeB := t.freezeB })

/-- The bay of X is the one whose interval contains it, the top bay with its upper bound (R66). A TAKE that
passes checks 1 to 15 of R65, with no limit indication or with THERMAL_LIMIT NOTING, is committed: the hole is
DRILLING or SETTING with the head's slot, the hull is placed, the timer starts with the travel limit, the
in-flight count rises and the head travels (R11, R49, R71). A limit indication raises THERMAL_LIMIT with D_raw
and CORR_LIMIT, and marks the hole (R69). -/
def Obligations.TakeCommitsTheHoleGrant : Prop :=
  (∀ (p : PlanStore) (x : Int) (bay : Nat), none ∉ p.bays →
    (∀ (k : Nat) (a b : BayRow), p.bays[k]? = some (some a) → p.bays[k + 1]? = some (some b) →
      a.upper = b.lower) → (∀ a : BayRow, some a ∈ p.bays → a.lower < a.upper) →
    (p.bayOf x = some bay ↔ ∃ a : BayRow, p.bays[bay]? = some (some a) ∧ a.lower ≤ x
      ∧ (x < a.upper ∨ bay + 1 = p.bays.length ∧ x = a.upper)))
  ∧ ∀ (h : Slot) (b : List Byte) (s : State) (hd : Head) (hole : Hole) (j : Joint) (tgt : Target)
    (bay : Nat),
    s.ready (headPort h) kindTake b → b.length = 2 → s.heads[h] = some hd → hd.status = .idle →
    s.plan.state = .working → s.lineStop = false → s.frozen hd.rail = false →
    u16At b 0 < s.plan.holeCount → s.plan.hole? (u16At b 0) = some hole →
    hole.state = (match hd.kind with | .drill => .planned | .set => .drilled) →
    hole.rail = hd.rail → s.plan.joints[hole.joint]? = some j →
    (hd.kind = .drill → j.settingCount = 0) → (hd.kind = .set → j.drillingCount = 0) →
    (hd.kind = .set → ∀ tier : Tier, tier < hole.tier → j.tierOpen[tier] = 0) →
    s.target hole = some tgt → (tgt.beyond = true → s.modeOf .thermalLimit = .noting) →
    0 ≤ tgt.x → tgt.x ≤ 2000000 →
    s.plan.bayOf tgt.x = some bay → s.clampActive bay = true →
    s.log.records.length + s.log.inFlight + 1 ≤ 64 →
    conflict (s.rails.list hd.rail) (.head h) (hull h hd.clearance hd.position tgt.x).lo
      (hull h hd.clearance hd.position tgt.x).hi = none →
    let limit := travelLimit s.params hd.position tgt.x
    ∃ t : State, exec (.take h b) s = .next t
      ∧ t.plan.hole? (u16At b 0) = some { hole with
          state := (match hd.kind with | .drill => .drilling | .set => .setting)
          grantHead := some h, heldFrom := none, heldClass := none
          marks := if tgt.beyond = true ∧ .thermalLimit ∉ hole.marks
            then hole.marks ++ [.thermalLimit] else hole.marks }
      ∧ OnlyHoleChanged s.plan t.plan (u16At b 0) ∧ t.plan.state = s.plan.state
      ∧ t.heads = s.heads.set h (some { hd with
          status := .travelHole
            { hole := u16At b 0, x := tgt.x, y := hole.yNom, d := tgt.d, bay := bay,
              p0 := hd.position, limit := limit,
              phase := match hd.kind with | .drill => none | .set => some .unfed } })
      ∧ t.rails = s.rails.setList hd.rail
          (placeEntry (hull h hd.clearance hd.position tgt.x) (s.rails.list hd.rail))
      ∧ t.timers = s.timers.set h (.counting .travel limit 0)
      ∧ t.log = { s.log with inFlight := s.log.inFlight + 1 }
      ∧ t.dev = (if tgt.beyond then raisedDev s .thermalLimit (some (u16At b 0)) (some h) tgt.dRaw
          s.params.corrLimit else s.dev)
      ∧ AnsweredAt s t (headPort h) kindTake
          ⟨.ok, 0, .holeGranted (u16At b 0) tgt.x hole.yNom tgt.d hole.cls hole.stackNom bay limit⟩
      ∧ (tgt.beyond = false → t.ports = repliedPorts s.ports (headPort h) kindTake
          ⟨.ok, 0, .holeGranted (u16At b 0) tgt.x hole.yNom tgt.d hole.cls hole.stackNom bay limit⟩)
      ∧ t = { s with plan := t.plan, heads := t.heads, rails := t.rails, timers := t.timers,
                     log := t.log, dev := t.dev, ports := t.ports }

/-- The choice of NEXT among candidates in ascending hole number: the lowest tier, then the smallest
distance, then the lowest number; a NEXT whose chosen hole carries no limit indication, or one that
THERMAL_LIMIT notes, is committed as a TAKE of that hole is, and one that finds no candidate changes nothing
(R67, R69, R71). -/
def Obligations.NextGrantsTheBestCandidate : Prop :=
  (∀ (p : Int) (l : List Eligible), l.Pairwise (fun a b => a.index < b.index) →
    (chooseCandidate p l = none ↔ l = []) ∧
    ∀ c : Eligible, chooseCandidate p l = some c → c ∈ l ∧ ∀ d ∈ l,
      c.hole.tier < d.hole.tier ∨ c.hole.tier = d.hole.tier ∧
        ((c.target.x - p).natAbs < (d.target.x - p).natAbs ∨
          (c.target.x - p).natAbs = (d.target.x - p).natAbs ∧ c.index ≤ d.index))
  ∧ (∀ (h : Slot) (s : State) (hd : Head), (s.candidates h hd).Pairwise (fun a b => a.index < b.index)
      ∧ ∀ c : Eligible, c ∈ s.candidates h hd ↔
        c.index < s.plan.holes.length ∧ s.checkHole hd c.index = .ok c
          ∧ s.hullConflict h hd c.target.x = none)
  ∧ (∀ (h : Slot) (s : State) (hd : Head), s.ready (headPort h) kindNext [] →
      s.heads[h] = some hd → hd.status = .idle → s.plan.state = .working → s.lineStop = false →
      s.frozen hd.rail = false → s.log.records.length + s.log.inFlight + 1 ≤ 64 →
      (chooseCandidate hd.position (s.candidates h hd) = none →
        exec (.next h []) s = .next { s with
          ports := repliedPorts s.ports (headPort h) kindNext ⟨.noneEligible, 0, .none⟩ })
      ∧ ∀ c : Eligible, chooseCandidate hd.position (s.candidates h hd) = some c →
        (c.target.beyond = true → s.modeOf .thermalLimit = .noting) →
        let limit := travelLimit s.params hd.position c.target.x
        ∃ t : State, exec (.next h []) s = .next t
          ∧ t.plan = s.plan.changeHole c.index (fun x => { x with
              state := (match hd.kind with | .drill => .drilling | .set => .setting)
              grantHead := some h, heldFrom := none, heldClass := none
              marks := if c.target.beyond = true ∧ .thermalLimit ∉ x.marks
                then x.marks ++ [.thermalLimit] else x.marks })
          ∧ t.heads = s.heads.set h (some { hd with
              status := .travelHole
                { hole := c.index, x := c.target.x, y := c.hole.yNom, d := c.target.d, bay := c.bay,
                  p0 := hd.position, limit := limit,
                  phase := match hd.kind with | .drill => none | .set => some .unfed } })
          ∧ t.rails = s.rails.setList hd.rail
              (placeEntry (hull h hd.clearance hd.position c.target.x) (s.rails.list hd.rail))
          ∧ t.timers = s.timers.set h (.counting .travel limit 0)
          ∧ t.log = { s.log with inFlight := s.log.inFlight + 1 }
          ∧ t.dev = (if c.target.beyond then raisedDev s .thermalLimit (some c.index) (some h)
              c.target.dRaw s.params.corrLimit else s.dev)
          ∧ AnsweredAt s t (headPort h) kindNext
              ⟨.ok, 0, .holeGranted c.index c.target.x c.hole.yNom c.target.d c.hole.cls
                c.hole.stackNom c.bay limit⟩
          ∧ (c.target.beyond = false → t.ports = repliedPorts s.ports (headPort h) kindNext
              ⟨.ok, 0, .holeGranted c.index c.target.x c.hole.yNom c.target.d c.hole.cls
                c.hole.stackNom c.bay limit⟩)
          ∧ t = { s with plan := t.plan, heads := t.heads, rails := t.rails, timers := t.timers,
                         log := t.log, dev := t.dev, ports := t.ports })

/-- A TAKE that passes checks 1 to 15, or a NEXT for the hole it chose, with the limit indication set while
THERMAL_LIMIT is HOLDING makes no grant: the hole is HELD with THERMAL_LIMIT in its marks, the hold is logged
and is the head's last hold, and the class is raised with D_raw and CORR_LIMIT (R16, R69). The log record
carries the clamped D beside X as R44 says; that the record of R137, which names no D, has a field for it is
the model's reading, log entry 13. -/
def Obligations.ThermalLimitHoldsTheHole : Prop :=
  ∀ (h : Slot) (s : State) (hd : Head) (hole : Hole) (c : Eligible),
    s.heads[h] = some hd → hd.status = .idle → s.plan.state = .working → s.lineStop = false →
    s.frozen hd.rail = false → s.plan.hole? c.index = some hole → c.target.beyond = true →
    s.log.records.length + s.log.inFlight + 1 ≤ 64 → s.modeOf .thermalLimit = .holding →
    let held : Byte → State → Prop := fun kind t =>
      t.plan.hole? c.index = some { hole with
          state := .held, grantHead := none
          heldFrom := some (match hd.kind with | .drill => .drilling | .set => .setting)
          heldClass := some .thermalLimit
          marks := if .thermalLimit ∈ hole.marks then hole.marks else hole.marks ++ [.thermalLimit] }
      ∧ OnlyHoleChanged s.plan t.plan c.index ∧ t.plan.state = s.plan.state
      ∧ t.heads = s.heads.set h
          (some { hd with lastHold := some ⟨c.index, .thermalLimit, s.clock⟩ })
      ∧ t.log = { s.log with
          records := s.log.records ++ [⟨s.log.sequence, c.index,
            .held h c.target.x (some c.target.d) .thermalLimit, false, s.clock⟩]
          sequence := s.log.sequence + 1 }
      ∧ t.dev = raisedDev s .thermalLimit (some c.index) (some h) c.target.dRaw s.params.corrLimit
      ∧ AnsweredAt s t (headPort h) kind ⟨.held, 0, .heldHole c.index⟩
      ∧ t = { s with plan := t.plan, heads := t.heads, log := t.log, dev := t.dev, ports := t.ports }
    (∀ b : List Byte, s.takes (headPort h) ⟨kindTake, b⟩ = true → b.length = 2 →
      u16At b 0 = c.index → c.index < s.plan.holeCount → s.checkHole hd c.index = .ok c →
      s.hullConflict h hd c.target.x = none → ∃ t : State, exec (.take h b) s = .next t ∧ held kindTake t)
    ∧ (s.takes (headPort h) ⟨kindNext, []⟩ = true →
      chooseCandidate hd.position (s.candidates h hd) = some c →
      ∃ t : State, exec (.next h []) s = .next t ∧ held kindNext t)

/-- A MOVE with a clear hull is committed as a MOVE grant: it names no hole, takes no place in the log and
starts the travel timer (R68, R71). The travel limit is TRAVEL_BASE_MS plus the least whole number of ms
that covers the distance at TRAVEL_SPEED, capped at 300 000 (R91). -/
def Obligations.MoveCommitsTheMoveGrant : Prop :=
  (∀ (q : Params) (p x : Int), 0 < q.travelSpeed →
    ∃ n : Nat, travelLimit q p x = min 300000 (q.travelBaseMs + n)
      ∧ (x - p).natAbs * 10 ≤ n * q.travelSpeed
      ∧ ∀ m : Nat, (x - p).natAbs * 10 ≤ m * q.travelSpeed → n ≤ m)
  ∧ ∀ (h : Slot) (b : List Byte) (s : State) (hd : Head),
    s.ready (headPort h) kindMove b → b.length = 4 → s.heads[h] = some hd → hd.status = .idle →
    s.plan.state = .working → s.lineStop = false → s.frozen hd.rail = false →
    0 ≤ i32At b 0 → i32At b 0 ≤ 2000000 →
    conflict (s.rails.list hd.rail) (.head h) (hull h hd.clearance hd.position (i32At b 0)).lo
      (hull h hd.clearance hd.position (i32At b 0)).hi = none →
    let limit := travelLimit s.params hd.position (i32At b 0)
    exec (.move h b) s = .next { s with
      heads := s.heads.set h (some { hd with
        status := .travelMove ⟨i32At b 0, hd.position, limit⟩ })
      rails := s.rails.setList hd.rail
        (placeEntry (hull h hd.clearance hd.position (i32At b 0)) (s.rails.list hd.rail))
      timers := s.timers.set h (.counting .travel limit 0)
      ports := repliedPorts s.ports (headPort h) kindMove ⟨.ok, 0, .moveGranted (i32At b 0) limit⟩ }

/-- ARRIVED narrows the hull to the footprint at X and makes X the position. A MOVE grant ends there with
the head IDLE; under a HOLE grant the head enters WORK with the work limit of its kind, and an active
clamp is answered OK. An inactive clamp raises CLAMP_LOST with the bay and 1: under NOTING the work goes on,
under HOLDING the hole is HELD and the grant ends (R15, R51, R73, R93, R129). -/
def Obligations.ArrivedStandsTheHeadAtItsTarget : Prop :=
  (∀ (h : Slot) (s : State) (hd : Head) (g : MoveGrant), s.ready (headPort h) kindArrived [] →
      s.heads[h] = some hd → hd.status = .travelMove g →
      exec (.arrived h []) s = .next { s with
        heads := s.heads.set h (some { hd with position := g.x, status := .idle })
        rails := s.rails.setList hd.rail
          (placeEntry (footprint h hd.clearance g.x) (s.rails.list hd.rail))
        timers := s.timers.set h .stopped
        ports := repliedPorts s.ports (headPort h) kindArrived ⟨.ok, 0, .none⟩ })
  ∧ (∀ (h : Slot) (s : State) (hd : Head) (g : HoleGrant), s.ready (headPort h) kindArrived [] →
      s.heads[h] = some hd → hd.status = .travelHole g → s.clampActive g.bay = true →
      exec (.arrived h []) s = .next { s with
        heads := s.heads.set h (some { hd with position := g.x, status := .work g })
        rails := s.rails.setList hd.rail
          (placeEntry (footprint h hd.clearance g.x) (s.rails.list hd.rail))
        timers := s.timers.set h (.counting .work
          (match hd.kind with
            | .drill => s.params.workDrillMs
            | .set => s.params.workSetMs) 0)
        ports := repliedPorts s.ports (headPort h) kindArrived ⟨.ok, 0, .none⟩ })
  ∧ (∀ (h : Slot) (s : State) (hd : Head) (g : HoleGrant) (hole : Hole),
      s.takes (headPort h) ⟨kindArrived, []⟩ = true → s.heads[h] = some hd →
      hd.status = .travelHole g → s.clampActive g.bay = false → s.plan.hole? g.hole = some hole →
      s.modeOf .clampLost = .holding →
      ∃ t : State, exec (.arrived h []) s = .next t
        ∧ t.heads = s.heads.set h (some { hd with
            position := g.x, status := .idle, lastHold := some ⟨g.hole, .clampLost, s.clock⟩ })
        ∧ t.timers = s.timers.set h .stopped
        ∧ t.plan.hole? g.hole = some { hole with
            state := .held, grantHead := none
            heldFrom := some (match hd.kind with | .drill => .drilling | .set => .setting)
            heldClass := some .clampLost
            marks := if .clampLost ∈ hole.marks then hole.marks else hole.marks ++ [.clampLost] }
        ∧ OnlyHoleChanged s.plan t.plan g.hole ∧ t.plan.state = s.plan.state
        ∧ t.rails = s.rails.setList hd.rail
            (placeEntry (footprint h hd.clearance g.x) (s.rails.list hd.rail))
        ∧ t.log =
            { records := s.log.records ++ [⟨s.log.sequence, g.hole, .held h g.x none .clampLost, false,
                s.clock⟩]
              sequence := s.log.sequence + 1, inFlight := s.log.inFlight - 1 }
        ∧ t.heat = { s.heat with
            waiting := s.heat.waiting.filter (fun w => w ≠ h)
            scrapped := if g.rivet.isSome then min 4294967295 (s.heat.scrapped + 1)
              else s.heat.scrapped }
        ∧ t.dev = raisedDev s .clampLost (some g.hole) (some h) g.bay 1
        ∧ AnsweredAt s t (headPort h) kindArrived ⟨.held, 0, .arrivalHeld g.hole .clampLost⟩
        ∧ t = { s with heads := t.heads, timers := t.timers, rails := t.rails, plan := t.plan,
                       log := t.log, heat := t.heat, dev := t.dev, ports := t.ports })
  ∧ (∀ (h : Slot) (s : State) (hd : Head) (g : HoleGrant) (hole : Hole),
      s.takes (headPort h) ⟨kindArrived, []⟩ = true → s.heads[h] = some hd →
      hd.status = .travelHole g → s.clampActive g.bay = false → s.plan.hole? g.hole = some hole →
      s.modeOf .clampLost = .noting →
      ∃ t : State, exec (.arrived h []) s = .next t
        ∧ t.heads = s.heads.set h (some { hd with position := g.x, status := .work g })
        ∧ t.rails = s.rails.setList hd.rail
            (placeEntry (footprint h hd.clearance g.x) (s.rails.list hd.rail))
        ∧ t.timers = s.timers.set h (.counting .work
            (match hd.kind with
              | .drill => s.params.workDrillMs
              | .set => s.params.workSetMs) 0)
        ∧ t.plan.hole? g.hole = some { hole with
            marks := if .clampLost ∈ hole.marks then hole.marks else hole.marks ++ [.clampLost] }
        ∧ (∀ j : Nat, j ≠ g.hole → t.plan.hole? j = s.plan.hole? j)
        ∧ t.plan = { s.plan with holes := t.plan.holes }
        ∧ t.dev = raisedDev s .clampLost (some g.hole) (some h) g.bay 1
        ∧ AnsweredAt s t (headPort h) kindArrived ⟨.ok, 0, .none⟩
        ∧ t = { s with heads := t.heads, timers := t.timers, rails := t.rails, plan := t.plan,
                       dev := t.dev, ports := t.ports })

/-- PROGRESS is taken in WORK: the motion timer restarts with the work limit of the head's kind and nothing
else changes; in TRAVEL it is refused BAD_STATE (R72). -/
def Obligations.ProgressRestartsTheWorkTimer : Prop :=
  ∀ (h : Slot) (s : State) (hd : Head), s.ready (headPort h) kindProgress [] →
    s.heads[h] = some hd →
    (∀ g : HoleGrant, hd.status = .work g → exec (.progress h []) s = .next { s with
      timers := s.timers.set h (.counting .work
        (match hd.kind with
          | .drill => s.params.workDrillMs
          | .set => s.params.workSetMs) 0)
      ports := repliedPorts s.ports (headPort h) kindProgress ⟨.ok, 0, .none⟩ })
    ∧ (headStateOf (some hd) = .travel → exec (.progress h []) s = .next { s with
      ports := repliedPorts s.ports (headPort h) kindProgress ⟨.badState, 0, .none⟩ })

/-- ABANDON returns the hole of a HOLE grant to PLANNED or DRILLED with no record written, frees its place
in the log, scraps a rivet held and takes the head off the waiting list. In WORK the head is then IDLE; in
TRAVEL, under either grant, it is HALTED and HEAD_STATE is announced. Its entry is kept (R17, R52, R77,
R78, R115). -/
def Obligations.AbandonReturnsTheHole : Prop :=
  (∀ (h : Slot) (s : State) (hd : Head) (g : HoleGrant) (hole : Hole),
      s.takes (headPort h) ⟨kindAbandon, []⟩ = true → s.heads[h] = some hd →
      hd.status = .travelHole g ∨ hd.status = .work g → s.plan.hole? g.hole = some hole →
      ∃ t : State, exec (.abandon h []) s = .next t
        ∧ t.plan.hole? g.hole = some { hole with
            state := (match hd.kind with | .drill => .planned | .set => .drilled)
            grantHead := none, heldFrom := none, heldClass := none }
        ∧ OnlyHoleChanged s.plan t.plan g.hole ∧ t.plan.state = s.plan.state
        ∧ t.heads = s.heads.set h (some { hd with
            status := if hd.status = .work g then .idle else .halted })
        ∧ t.timers = s.timers.set h .stopped
        ∧ t.log = { s.log with inFlight := s.log.inFlight - 1 }
        ∧ t.heat = { s.heat with
            waiting := s.heat.waiting.filter (fun w => w ≠ h)
            scrapped := if g.rivet.isSome then min 4294967295 (s.heat.scrapped + 1)
              else s.heat.scrapped }
        ∧ .feedGiven ∉ t.ports[headPort h].notices
        ∧ (hd.status = .travelHole g → t.announced supervisorPort .headState)
        ∧ AnsweredAt s t (headPort h) kindAbandon ⟨.ok, 0, .none⟩
        ∧ t = { s with plan := t.plan, heads := t.heads, timers := t.timers, log := t.log,
                       heat := t.heat, ports := t.ports })
  ∧ (∀ (h : Slot) (s : State) (hd : Head) (g : MoveGrant),
      s.takes (headPort h) ⟨kindAbandon, []⟩ = true → s.heads[h] = some hd →
      hd.status = .travelMove g →
      ∃ t : State, exec (.abandon h []) s = .next t
        ∧ t.heads = s.heads.set h (some { hd with status := .halted })
        ∧ t.timers = s.timers.set h .stopped
        ∧ t.announced supervisorPort .headState
        ∧ AnsweredAt s t (headPort h) kindAbandon ⟨.ok, 0, .none⟩
        ∧ t = { s with heads := t.heads, timers := t.timers, ports := t.ports })

/-- DRILL_DONE of a drill head in WORK, its fields in range: the report is recorded with its flags, the
classes raised are marked and flagged, and the hole goes to HELD under the lowest HOLDING class raised,
else to DRILLED. The grant ends with its record in the log and the head IDLE (R13, R74, R75, R78, R131). A
flag is BELOW, WITHIN or ABOVE as the value lies under, in or over the tolerance about its nominal, both
bounds included, and the nominal diameter is that of the class (R74). -/
def Obligations.DrillDoneRecordsTheReport : Prop :=
  (∀ v n tol : Int, (reportFlag v n tol = .below ↔ v < n - tol)
    ∧ (reportFlag v n tol = .above ↔ n - tol ≤ v ∧ n + tol < v)
    ∧ (reportFlag v n tol = .within ↔ n - tol ≤ v ∧ v ≤ n + tol))
  ∧ (List.finRange 6).map nominalDiameter = [1750, 2150, 2350, 2550, 2850, 3150]
  ∧ ∀ (h : Slot) (b : List Byte) (s : State) (hd : Head) (g : HoleGrant) (hole : Hole),
    s.takes (headPort h) ⟨kindDrillDone, b⟩ = true → b.length = 4 → s.heads[h] = some hd →
    hd.status = .work g → hd.kind = .drill → g.phase = none → s.plan.hole? g.hole = some hole →
    500 ≤ u16At b 0 → u16At b 0 ≤ 5000 → u16At b 2 ≤ 15000 →
    let nominal : Nat := nominalDiameter hole.cls
    let fd := reportFlag (u16At b 0) nominal s.params.diaTol
    let fs := reportFlag (u16At b 2) hole.stackNom s.params.stackTol
    let raised := (if fd = .within then [] else [(DevClass.diaOut, u16At b 0, nominal)])
      ++ (if fs = .within then [] else [(DevClass.stackOut, u16At b 2, hole.stackNom)])
    let held := (raised.map Prod.fst).find? (fun c => s.modeOf c == .holding)
    ∃ t : State, exec (.drillDone h b) s = .next t
      ∧ t.plan.hole? g.hole = some { hole with
          state := if held.isSome then .held else .drilled
          grantHead := none
          heldFrom := held.map (fun _ => .drilling)
          heldClass := held
          drillReport := some ⟨h, u16At b 0, u16At b 2, g.x, fd, fs, s.clock⟩
          marks := (raised.map Prod.fst).foldl
            (fun m c => if c ∈ m then m else m ++ [c]) hole.marks }
      ∧ OnlyHoleChanged s.plan t.plan g.hole ∧ t.plan.state = s.plan.state
      ∧ t.heads = s.heads.set h (some { hd with
          status := .idle
          lastHold := match held with
            | some c => some ⟨g.hole, c, s.clock⟩
            | none => hd.lastHold })
      ∧ t.timers = s.timers.set h .stopped
      ∧ t.log =
          { records := s.log.records ++ [⟨s.log.sequence, g.hole,
              (match held with
                | some c => .held h g.x none c
                | none => .drilled h g.x (u16At b 0) (u16At b 2)), false, s.clock⟩]
            sequence := s.log.sequence + 1, inFlight := s.log.inFlight - 1 }
      ∧ t.heat = { s.heat with waiting := s.heat.waiting.filter (fun w => w ≠ h) }
      ∧ t.dev.modes = s.dev.modes
      ∧ (∀ c : DevClass, t.dev.flags[c.index] =
          (s.dev.flags[c.index] || decide (c ∈ raised.map Prod.fst)))
      ∧ t.dev.first = (match s.dev.first, raised with
          | some f, _ => some f
          | none, (c, a, n) :: _ => some ⟨c, s.plan.header.map PlanHeader.frameId, some g.hole,
              some h, s.clock, a, n⟩
          | none, [] => none)
      ∧ AnsweredAt s t (headPort h) kindDrillDone
          ⟨if held.isSome then .held else .ok, 0, .drillJudged fd fs g.hole held⟩
      ∧ t = { s with plan := t.plan, heads := t.heads, timers := t.timers, log := t.log,
                     heat := t.heat, dev := t.dev, ports := t.ports }

/-- SET_DONE of a setting head with a rivet: COLD_SET is raised when the captured age is above the budget,
NO_RAM when no ram was captured (R126, R129). The set report is recorded, the hole goes to HELD or SET, the rivet is
spent without being scrapped, and the grant ends (R14, R76, R78, R115). -/
def Obligations.SetDoneSpendsTheRivet : Prop :=
  ∀ (h : Slot) (s : State) (hd : Head) (g : HoleGrant) (hole : Hole) (r : Rivet) (ram : Option Nat),
    s.takes (headPort h) ⟨kindSetDone, []⟩ = true → s.heads[h] = some hd → hd.status = .work g →
    hd.kind = .set → s.plan.hole? g.hole = some hole →
    g.phase = (match ram with | none => some (.fed r) | some a => some (.rammed r a)) →
    let budget : Nat := s.params.budgets[r.cls] * 100
    let raised : Option (DevClass × Nat × Nat) := match ram with
      | none => some (.noRam, r.serial.toNat, (s.clock - r.heatOut).toNat)
      | some a => if budget < a then some (.coldSet, a, budget) else none
    let held := (raised.map Prod.fst).filter (fun c => s.modeOf c == .holding)
    ∃ t : State, exec (.setDone h []) s = .next t
      ∧ t.plan.hole? g.hole = some { hole with
          state := if held.isSome then .held else .set
          grantHead := none
          heldFrom := held.map (fun _ => .setting)
          heldClass := held
          setReport := some ⟨h, r.serial, r.cls, ram, g.x, s.clock⟩
          marks := (raised.map Prod.fst).toList.foldl
            (fun m c => if c ∈ m then m else m ++ [c]) hole.marks }
      ∧ OnlyHoleChanged s.plan t.plan g.hole
      ∧ t.plan.state = (if held = none ∧ s.plan.state = .working ∧
          t.plan.counters.stateCounts[4] + t.plan.counters.stateCounts[6] = s.plan.holeCount
        then .complete else s.plan.state)
      ∧ t.heads = s.heads.set h (some { hd with
          status := .idle
          lastHold := match held with
            | some c => some ⟨g.hole, c, s.clock⟩
            | none => hd.lastHold })
      ∧ t.timers = s.timers.set h .stopped
      ∧ t.log =
          { records := s.log.records ++ [⟨s.log.sequence, g.hole,
              (match held with
                | some c => .held h g.x none c
                | none => .set h g.x r.serial ram), false, s.clock⟩]
            sequence := s.log.sequence + 1, inFlight := s.log.inFlight - 1 }
      ∧ t.heat = { s.heat with waiting := s.heat.waiting.filter (fun w => w ≠ h) }
      ∧ t.dev = (match raised with
          | some (c, a, n) => raisedDev s c (some g.hole) (some h) a n
          | none => s.dev)
      ∧ AnsweredAt s t (headPort h) kindSetDone
          ⟨if held.isSome then .held else .ok, 0,
            if held.isSome then .heldHole g.hole else .none⟩
      ∧ t = { s with plan := t.plan, heads := t.heads, timers := t.timers, log := t.log,
                     heat := t.heat, dev := t.dev, ports := t.ports }

/-- FEED of a setting head in phase UNFED: the oldest rivet of the hole's class in the queue, else that of
the chute, is given and leaves the tray; with none of the class the head joins the end of the waiting list
in FEED_WAIT. The timer's count is kept either way (R112, R113, R93). -/
def Obligations.FeedGivesARivetOrWaits : Prop :=
  ∀ (h : Slot) (s : State) (hd : Head) (g : HoleGrant) (hole : Hole),
    s.ready (headPort h) kindFeed [] → s.heads[h] = some hd → hd.status = .work g →
    hd.kind = .set → g.phase = some .unfed → s.plan.hole? g.hole = some hole →
    (∀ (pre post : List Rivet) (r : Rivet), s.heat.queue = pre ++ r :: post → r.cls = hole.cls →
      (∀ x ∈ pre, x.cls ≠ hole.cls) →
      exec (.feed h []) s = .next { s with
        heat := { s.heat with
          queue := pre ++ post ++ s.heat.chute.toList, chute := none
          fullMark := fullMarkAfter s.heat.fullMark (pre ++ post ++ s.heat.chute.toList).length }
        heads := s.heads.set h (some { hd with status := .work { g with phase := some (.fed r) } })
        ports := repliedPorts s.ports (headPort h) kindFeed
          ⟨.given, 0, .rivetGiven r.serial r.cls (s.clock - r.heatOut).toNat⟩ })
    ∧ (∀ r : Rivet, (∀ x ∈ s.heat.queue, x.cls ≠ hole.cls) → s.heat.chute = some r →
      r.cls = hole.cls →
      exec (.feed h []) s = .next { s with
        heat := { s.heat with chute := none }
        heads := s.heads.set h (some { hd with status := .work { g with phase := some (.fed r) } })
        ports := repliedPorts s.ports (headPort h) kindFeed
          ⟨.given, 0, .rivetGiven r.serial r.cls (s.clock - r.heatOut).toNat⟩ })
    ∧ ((∀ x ∈ s.heat.queue ++ s.heat.chute.toList, x.cls ≠ hole.cls) →
      exec (.feed h []) s = .next { s with
        heat := { s.heat with waiting := s.heat.waiting ++ [h] }
        heads := s.heads.set h (some { hd with status := .work { g with phase := some .feedWait } })
        ports := repliedPorts s.ports (headPort h) kindFeed ⟨.wait, 0, .none⟩ })

/-- An expiry of the timer of a head under a HOLE grant holds its hole with WORK_TIMEOUT, ends the grant and
leaves the head STALE with its entry; under a MOVE grant no hole is touched (R82, R97). The class is raised
with the limit and the stage, 0 for TRAVEL and 1 for WORK (R126, R129). HOLD, where a hole was held, and
HEAD_STATE are announced, and the rails are frozen as R100 says. -/
def Obligations.TimerExpiryMakesTheHeadStale : Prop :=
  (∀ (h : Slot) (s : State) (hd : Head) (g : HoleGrant) (hole : Hole) (stage : TimerStage)
      (limit count : Nat), s.inReset = false → s.heads[h] = some hd →
      hd.status = .travelHole g ∨ hd.status = .work g → s.plan.hole? g.hole = some hole →
      s.timers[h] = .counting stage limit count → s.timerRunning h = true → limit ≤ count →
      ∃ t : State, exec (.motionTimerExpiry h) s = .next t
        ∧ t.heads = s.heads.set h (some { hd with
            status := .stale, lastHold := some ⟨g.hole, .workTimeout, s.clock⟩ })
        ∧ t.timers = s.timers.set h .stopped
        ∧ t.plan.hole? g.hole = some { hole with
            state := .held, grantHead := none
            heldFrom := some (match hd.kind with | .drill => .drilling | .set => .setting)
            heldClass := some .workTimeout
            marks := if .workTimeout ∈ hole.marks then hole.marks else hole.marks ++ [.workTimeout] }
        ∧ OnlyHoleChanged s.plan t.plan g.hole ∧ t.plan.state = s.plan.state
        ∧ t.log =
            { records := s.log.records ++ [⟨s.log.sequence, g.hole, .held h g.x none .workTimeout, false,
                s.clock⟩]
              sequence := s.log.sequence + 1, inFlight := s.log.inFlight - 1 }
        ∧ t.heat = { s.heat with
            waiting := s.heat.waiting.filter (fun w => w ≠ h)
            scrapped := if g.rivet.isSome then min 4294967295 (s.heat.scrapped + 1)
              else s.heat.scrapped }
        ∧ t.dev = raisedDev s .workTimeout (some g.hole) (some h) limit
            (match stage with | .travel => 0 | .work => 1)
        ∧ t.freezeFits
        ∧ t.announced (headPort h) .hold ∧ t.announced supervisorPort .headState
        ∧ OnlyNotices s t
        ∧ t = { s with heads := t.heads, timers := t.timers, plan := t.plan, log := t.log,
                       heat := t.heat, dev := t.dev, ports := t.ports,
                       freezeA := t.freezeA, freezeB := t.freezeB })
  ∧ (∀ (h : Slot) (s : State) (hd : Head) (g : MoveGrant) (stage : TimerStage) (limit count : Nat),
      s.inReset = false → s.heads[h] = some hd → hd.status = .travelMove g →
      s.timers[h] = .counting stage limit count → s.timerRunning h = true → limit ≤ count →
      ∃ t : State, exec (.motionTimerExpiry h) s = .next t
        ∧ t.heads = s.heads.set h (some { hd with status := .stale })
        ∧ t.timers = s.timers.set h .stopped ∧ t.freezeFits
        ∧ t.announced supervisorPort .headState ∧ OnlyNotices s t
        ∧ t = { s with heads := t.heads, timers := t.timers, ports := t.ports,
                       freezeA := t.freezeA, freezeB := t.freezeB })

/-- A break taken at the line's return resets the port, but for its error count and a frame whose first
character has gone out (R170). A head of the port under a grant, HALTED or STALE is then FAULTED: a HOLE
grant ends with its hole held by LINK_BREAK, raised with the slot and 0 in TRAVEL or 1 in WORK, and
HEAD_STATE is announced; no HOLD notice is made pending (R86, R126, R129). That a frame's first character
has gone out from its first bit on is the model's reading, log entry 28. -/
def Obligations.BreakReturnResetsThePort : Prop :=
  (∀ (p : PortId) (s : State), s.inReset = false → s.ports[p].breaking = true →
      ∃ t : State, exec (.breakReturn p) s = .next t
        ∧ t.ports[p] = { s.ports[p] with
            receiveQueue := [], assembly := none, waiting := none, deaf := false, inBreak := false
            lowFor := none, gapFor := none, notices := []
            transmitQueue := if s.ports[p].sendingFor.isSome then
              s.ports[p].transmitQueue.take 1 else [] }
        ∧ (∀ q : PortId, q ≠ p → NoticesOnly s.ports[q] t.ports[q])
        ∧ ((∀ h : Slot, p = headPort h → headStateOf s.heads[h] ∈ [.detached, .idle, .faulted]) →
          t = { s with ports := t.ports }))
  ∧ (∀ (h : Slot) (s : State) (hd : Head) (g : HoleGrant) (hole : Hole), s.inReset = false →
      s.ports[headPort h].breaking = true → s.heads[h] = some hd →
      hd.status = .travelHole g ∨ hd.status = .work g → s.plan.hole? g.hole = some hole →
      ∃ t : State, exec (.breakReturn (headPort h)) s = .next t
        ∧ t.heads = s.heads.set h (some { hd with
            status := .faulted, lastHold := some ⟨g.hole, .linkBreak, s.clock⟩ })
        ∧ t.timers = s.timers.set h .stopped
        ∧ t.plan.hole? g.hole = some { hole with
            state := .held, grantHead := none
            heldFrom := some (match hd.kind with | .drill => .drilling | .set => .setting)
            heldClass := some .linkBreak
            marks := if .linkBreak ∈ hole.marks then hole.marks else hole.marks ++ [.linkBreak] }
        ∧ OnlyHoleChanged s.plan t.plan g.hole ∧ t.plan.state = s.plan.state
        ∧ t.log =
            { records := s.log.records ++ [⟨s.log.sequence, g.hole, .held h g.x none .linkBreak, false,
                s.clock⟩]
              sequence := s.log.sequence + 1, inFlight := s.log.inFlight - 1 }
        ∧ t.heat = { s.heat with
            waiting := s.heat.waiting.filter (fun w => w ≠ h)
            scrapped := if g.rivet.isSome then min 4294967295 (s.heat.scrapped + 1)
              else s.heat.scrapped }
        ∧ t.dev = raisedDev s .linkBreak (some g.hole) (some h) h.val
            (if hd.status = .work g then 1 else 0)
        ∧ t.freezeFits
        ∧ t.announced supervisorPort .headState
        ∧ t = { s with heads := t.heads, timers := t.timers, plan := t.plan, log := t.log,
                       heat := t.heat, dev := t.dev, ports := t.ports,
                       freezeA := t.freezeA, freezeB := t.freezeB })
  ∧ (∀ (h : Slot) (s : State) (hd : Head), s.inReset = false →
      s.ports[headPort h].breaking = true → s.heads[h] = some hd →
      hd.status = .halted ∨ hd.status = .stale ∨ (∃ g : MoveGrant, hd.status = .travelMove g) →
      ∃ t : State, exec (.breakReturn (headPort h)) s = .next t
        ∧ t.heads = s.heads.set h (some { hd with status := .faulted })
        ∧ t.timers = (if headStateOf (some hd) = .travel then s.timers.set h .stopped else s.timers)
        ∧ t.freezeFits ∧ t.announced supervisorPort .headState
        ∧ t = { s with heads := t.heads, timers := t.timers, ports := t.ports,
                       freezeA := t.freezeA, freezeB := t.freezeB })

/-! ### Deviations -/

/-- A raising sets the flag of its class, marks the hole it names once, and fills the first-deviation
record when that is absent; a DEVIATION notice becomes pending on P8 when the flag was clear (R126 to
R128). -/
def Obligations.RaisingFlagsMarksAndFillsTheFirst : Prop :=
  (∀ (s : State) (c : DevClass) (i : Nat) (h : Slot) (a b : Int) (hole : Hole),
      s.plan.hole? i = some hole →
      let t := s.raiseForHole c i h a b
      t.plan.hole? i = some { hole with
          marks := if c ∈ hole.marks then hole.marks else hole.marks ++ [c] }
        ∧ t.plan = { s.plan with holes := t.plan.holes }
        ∧ (∀ j : Nat, j ≠ i → t.plan.hole? j = s.plan.hole? j)
        ∧ t.dev = { s.dev with
            flags := s.dev.flags.set c.index true
            first := s.dev.first.or (some ⟨c, s.plan.header.map PlanHeader.frameId, some i, some h,
              s.clock, a, b⟩) }
        ∧ t.ports = (if s.dev.flags[c.index] then s.ports
            else pendedPorts s.ports supervisorPort .deviation)
        ∧ t = { s with plan := t.plan, dev := t.dev, ports := t.ports })
  ∧ ∀ (s : State) (c : DevClass) (a b : Int),
      s.raiseUnbound c a b = { s with
        dev := { s.dev with
          flags := s.dev.flags.set c.index true
          first := s.dev.first.or (some ⟨c, s.plan.header.map PlanHeader.frameId, none, none,
            s.clock, a, b⟩) }
        ports := if s.dev.flags[c.index] then s.ports
          else pendedPorts s.ports supervisorPort .deviation }

/-- A clamp drop under HOLDING withdraws every head in WORK on the bay, and only those: each hole is HELD
with CLAMP_LOST, the head is IDLE with its entry kept, and HOLD is pending on its port (R80, R81). Under
NOTING the grants go on and the holes are marked. The lowest of the heads fills the first-deviation record
with the bay and 0 (R126, R129). -/
def Obligations.ClampDropWithdrawsTheHeadsAtWork : Prop :=
  ∀ (bay : Nat) (s : State), s.holesKept →
    let t := s.clampDrop bay
    let spared : Slot → Prop := fun h => ∀ (hd : Head) (g : HoleGrant), s.heads[h] = some hd →
      hd.status = .work g → g.bay ≠ bay
    (∀ h : Slot, spared h → t.heads[h] = s.heads[h] ∧ t.timers[h] = s.timers[h])
    ∧ ((∀ h : Slot, spared h) → t = s)
    ∧ (∀ (h : Slot) (hd : Head) (g : HoleGrant), s.heads[h] = some hd → hd.status = .work g →
        g.bay = bay → (∀ w : Slot, w < h → spared w) →
        t.dev = raisedDev s .clampLost (some g.hole) (some h) bay 0)
    ∧ (∀ (h : Slot) (hd : Head) (g : HoleGrant) (hole : Hole), s.heads[h] = some hd →
        hd.status = .work g → g.bay = bay → s.plan.hole? g.hole = some hole →
        let marks := if .clampLost ∈ hole.marks then hole.marks else hole.marks ++ [.clampLost]
        (s.modeOf .clampLost = .holding →
          t.heads[h] = some { hd with
              status := .idle, lastHold := some ⟨g.hole, .clampLost, s.clock⟩ }
            ∧ t.timers[h] = .stopped ∧ .hold ∈ t.ports[headPort h].notices
            ∧ h ∉ t.heat.waiting
            ∧ t.plan.hole? g.hole = some { hole with
                state := .held, grantHead := none
                heldFrom := some (match hd.kind with | .drill => .drilling | .set => .setting)
                heldClass := some .clampLost, marks := marks })
        ∧ (s.modeOf .clampLost = .noting →
          t.heads[h] = s.heads[h] ∧ t.timers[h] = s.timers[h]
            ∧ t.plan.hole? g.hole = some { hole with marks := marks }))
    ∧ t = { s with heads := t.heads, timers := t.timers, plan := t.plan, log := t.log,
                   heat := t.heat, dev := t.dev, ports := t.ports }

/-- DEV_MODE sets the mode of a class that is not fixed; DEV_CLEAR clears the flags of a set of classes,
and the first-deviation record when its class is among them; LOG_READ takes out the one or two oldest
records (R133, R134, R143). Refused forms change nothing. -/
def Obligations.ModesFlagsAndRecordsAreHandled : Prop :=
  (∀ (b : List Byte) (s : State) (c : DevClass) (m : DevMode), s.ready supervisorPort kindDevMode b →
      b.length = 2 → u8At b 0 = c.number → u8At b 1 = m.code →
      exec (.devMode b) s = .next (if c = .workTimeout ∨ c = .linkBreak
        then { s with ports := repliedPorts s.ports supervisorPort kindDevMode ⟨.badField, 0, .none⟩ }
        else { s with
          dev := { s.dev with modes := s.dev.modes.set c.index m }
          ports := repliedPorts s.ports supervisorPort kindDevMode ⟨.ok, 0, .modeInForce m⟩ }))
  ∧ (∀ (b : List Byte) (s : State), s.ready supervisorPort kindDevClear b → b.length = 2 →
      (u16At b 0 < 1024 → ∃ flags : Vector Bool 10,
        (∀ c : DevClass, flags[c.index] =
          (s.dev.flags[c.index] && !(u16At b 0).testBit (c.number - 1)))
        ∧ let first := s.dev.first.filter (fun f => !(u16At b 0).testBit (f.cls.number - 1))
          exec (.devClear b) s = .next { s with
            dev := { s.dev with flags := flags, first := first }
            ports := repliedPorts s.ports supervisorPort kindDevClear
              ⟨.ok, 0, .flagsLeft flags first.isSome⟩ })
      ∧ (1024 ≤ u16At b 0 → exec (.devClear b) s = .next { s with
          ports := repliedPorts s.ports supervisorPort kindDevClear ⟨.badField, 0, .none⟩ }))
  ∧ (∀ (b : List Byte) (s : State), s.ready supervisorPort kindLogRead b → b.length = 1 →
      exec (.logRead b) s = .next (if u8At b 0 = 1 ∨ u8At b 0 = 2
        then { s with
          log := { s.log with records := s.log.records.drop (u8At b 0) }
          ports := repliedPorts s.ports supervisorPort kindLogRead
            ⟨.ok, 0, .logRecords (s.log.records.take (u8At b 0))
              (s.log.records.length - u8At b 0)⟩ }
        else { s with
          ports := repliedPorts s.ports supervisorPort kindLogRead ⟨.badField, 0, .none⟩ }))

/-! ### The Heat Queue -/

/-- A RIVET_OUT within the window is given the next serial that no rivet holds and goes to the first
waiting head of its class, else to the queue, else to the chute; with none of them free overrun is set
and the rivet refused (R104, R107, R108, R114). Outside the window HEAT_WINDOW is raised with the temperature
and the bound it lies beyond, and the tray is not touched (R126, R129). That an OVERRUN or REJECTED_TEMP reply
carries the serial field, absent, is the model's reading, log entry 12. -/
def Obligations.RivetOutIsPlacedOrRefused : Prop :=
  ∀ (b : List Byte) (s : State) (c : RivetClass), s.ready heaterPort kindRivetOut b →
    b.length = 3 → u8At b 0 = c.val + 1 → u16At b 1 ≤ 1400 →
    (s.heat.overrun = true → exec (.rivetOut b) s = .next { s with
      ports := repliedPorts s.ports heaterPort kindRivetOut ⟨.overrun, 0, .rivetSerial none⟩ })
    ∧ (s.heat.overrun = false → u16At b 1 < s.params.heatMin ∨ s.params.heatMax < u16At b 1 →
      ∃ t : State, exec (.rivetOut b) s = .next t
        ∧ t.dev = raisedDev s .heatWindow none none (u16At b 1)
            (if u16At b 1 < s.params.heatMin then s.params.heatMin else s.params.heatMax : Nat)
        ∧ AnsweredAt s t heaterPort kindRivetOut ⟨.rejectedTemp, 0, .rivetSerial none⟩
        ∧ t = { s with dev := t.dev, ports := t.ports })
    ∧ (s.heat.overrun = false → s.params.heatMin ≤ u16At b 1 → u16At b 1 ≤ s.params.heatMax →
      s.heat.kept → s.headsKept →
      ∃ (n : Nat) (v : BitVec 16), v = s.heat.serialCounter + BitVec.ofNat 16 n
        ∧ v ∉ s.serialsHeld
        ∧ (∀ m : Nat, m < n → s.heat.serialCounter + BitVec.ofNat 16 m ∈ s.serialsHeld)
        ∧ let r : Rivet := ⟨v, c, s.clock⟩
          let taken := { s.heat with
            serialCounter := v + 1, accepted := min 4294967295 (s.heat.accepted + 1) }
          let ok := repliedPorts s.ports heaterPort kindRivetOut ⟨.ok, 0, .rivetSerial (some v)⟩
          (∀ (pre post : List Slot) (h : Slot) (hd : Head) (g : HoleGrant),
            s.heat.waiting = pre ++ h :: post → (∀ w ∈ pre, s.classOf w ≠ some c) →
            s.classOf h = some c → s.heads[h] = some hd → hd.status = .work g →
            ∃ t : State, exec (.rivetOut b) s = .next t
              ∧ t.heat = { taken with waiting := pre ++ post }
              ∧ t.heads = s.heads.set h
                  (some { hd with status := .work { g with phase := some (.fed r) } })
              ∧ t.timers = s.timers.set h (.counting .work s.params.workSetMs 0)
              ∧ t.announced (headPort h) .feedGiven
              ∧ AnsweredAt s t heaterPort kindRivetOut ⟨.ok, 0, .rivetSerial (some v)⟩
              ∧ t = { s with heat := t.heat, heads := t.heads, timers := t.timers,
                             ports := t.ports })
          ∧ ((∀ w ∈ s.heat.waiting, s.classOf w ≠ some c) →
            (s.heat.queue.length < 6 → exec (.rivetOut b) s = .next { s with
              heat := { taken with
                queue := s.heat.queue ++ [r]
                fullMark := fullMarkAfter s.heat.fullMark (s.heat.queue.length + 1) }
              ports := ok })
            ∧ (s.heat.queue.length = 6 → s.heat.chute = none → exec (.rivetOut b) s = .next { s with
              heat := { taken with chute := some r }, ports := ok })
            ∧ (s.heat.queue.length = 6 → s.heat.chute.isSome →
              exec (.rivetOut b) s = .next { s with
                heat := { s.heat with overrun := true }
                ports := repliedPorts s.ports heaterPort kindRivetOut
                  ⟨.overrun, 0, .rivetSerial none⟩ })))

/-- HEATER_CLEAR empties the tray and ends overrun; an expiry takes the one rivet out of the queue, into
which the chute's then moves, or out of the chute; a write of a budget takes out every rivet of its class
that has reached it. Each counts as scrap, and the others keep their order (R106, R109 to R111). -/
def Obligations.RivetsLeaveTheTrayAsScrap : Prop :=
  (∀ s : State, s.ready supervisorPort kindHeaterClear [] →
      exec (.heaterClear []) s = .next { s with
        heat := { s.heat with
          queue := [], chute := none, overrun := false, fullMark := false
          scrapped := min 4294967295
            (s.heat.scrapped + (s.heat.queue ++ s.heat.chute.toList).length) }
        ports := repliedPorts s.ports supervisorPort kindHeaterClear
          ⟨.ok, 0, .discarded (s.heat.queue ++ s.heat.chute.toList).length⟩ })
  ∧ (∀ (s : State) (pre post : List Rivet) (r : Rivet), s.inReset = false → s.settled →
      s.heat.queue = pre ++ r :: post → (∀ x ∈ pre, x.serial ≠ r.serial) →
      s.params.budgets[r.cls] * 100 ≤ (s.clock - r.heatOut).toNat →
      exec (.rivetExpiry r.serial) s = .next { s with
        heat := { s.heat with
          queue := pre ++ post ++ s.heat.chute.toList, chute := none
          fullMark := fullMarkAfter s.heat.fullMark (pre ++ post ++ s.heat.chute.toList).length
          scrapped := min 4294967295 (s.heat.scrapped + 1) } })
  ∧ (∀ (s : State) (r : Rivet), s.inReset = false → s.settled → s.heat.chute = some r →
      (∀ x ∈ s.heat.queue, x.serial ≠ r.serial) →
      s.params.budgets[r.cls] * 100 ≤ (s.clock - r.heatOut).toNat →
      exec (.rivetExpiry r.serial) s = .next { s with
        heat := { s.heat with
          chute := none, scrapped := min 4294967295 (s.heat.scrapped + 1) } })
  ∧ (∀ (b : List Byte) (s : State) (c : RivetClass) (v : Nat), s.ready supervisorPort kindSetParam b →
      b.length = 5 → u8At b 0 = 15 + c.val → (v : Int) = max 50 (min 1200 (i32At b 1)) →
      s.heat.kept → s.serialsKept →
      let stays : Rivet → Bool := fun r =>
        decide (r.cls ≠ c ∨ (s.clock - r.heatOut).toNat < v * 100)
      let tray := s.heat.queue ++ s.heat.chute.toList
      ∃ t : State, exec (.setParamBudget b) s = .next t
        ∧ t.heat.queue ++ t.heat.chute.toList = tray.filter stays
        ∧ t.heat.scrapped = (if tray.all stays then s.heat.scrapped
            else min 4294967295 (s.heat.scrapped + tray.countP (fun r => !stays r)))
        ∧ t.heat = { s.heat with queue := t.heat.queue, chute := t.heat.chute,
                                 fullMark := t.heat.fullMark, scrapped := t.heat.scrapped }
        ∧ t = { s with
            heat := t.heat
            params := { s.params with budgets := s.params.budgets.set c v }
            ports := repliedPorts s.ports supervisorPort kindSetParam
              ⟨if i32At b 1 = v then .ok else .limited, 0, .parameter (b.getD 0 0) v⟩ })

/-! ### The Thermal Unit -/

/-- D_raw is the sum over the whole hole divided by 10⁹ and rounded once, half away from zero. It is 0 at
the datum and while ALPHA is 0, and within −5200 to 5200 for segments that lie apart in the jig (R40). -/
def Obligations.DisplacementIsRoundedOnce : Prop :=
  (∀ sum : Int,
      (roundDisplacement sum).natAbs = sum.natAbs / 1000000000 +
          (if 500000000 ≤ sum.natAbs % 1000000000 then 1 else 0)
        ∧ (0 ≤ sum → 0 ≤ roundDisplacement sum) ∧ (sum ≤ 0 → roundDisplacement sum ≤ 0))
  ∧ roundDisplacement (-126500000000) = -127 ∧ roundDisplacement 126499999999 = 126
  ∧ (∀ (s : State) (hole : Hole) (hd : PlanHeader) (tgt : Target), s.plan.header = some hd →
      s.target hole = some tgt →
      tgt.dRaw = roundDisplacement
        (displacementSum s.thermal s.params.alpha hole.xNom hd.xd))
  ∧ (∀ (segs : List Segment) (alpha : Nat) (xd : Int),
      roundDisplacement (displacementSum segs alpha xd xd) = 0)
  ∧ (∀ (segs : List Segment) (x xd : Int), roundDisplacement (displacementSum segs 0 x xd) = 0)
  ∧ ∀ (segs : List Segment) (alpha : Nat) (x xd : Int), alpha ≤ 2000 →
      segs.Pairwise (fun a b => a.upper ≤ b.lower) →
      (∀ g ∈ segs, 0 ≤ g.lower ∧ g.lower ≤ g.upper ∧ g.upper ≤ 2000000) →
      (∀ (k : Nat) (v : Int), valueUsed segs k = some v → -300 ≤ v ∧ v ≤ 1500) →
      (roundDisplacement (displacementSum segs alpha x xd)).natAbs ≤ 5200

/-- A hole is THERMAL_UNKNOWN when a segment that takes part is UNKNOWN, or SUBSTITUTED under HOLDING;
else its sum is formed from the values T k of the segments that take part, D is D_raw saturated to
CORR_LIMIT with the indication set beyond it, and X is J_d + (x − x_d) + D (R36 to R42). -/
def Obligations.TargetFollowsTheFrame : Prop :=
  ∀ (s : State) (hole : Hole) (hd : PlanHeader) (jd : Int), s.plan.header = some hd →
    s.plan.jd = some jd →
    let x := hole.xNom
    let xd := hd.xd
    let part : Segment → Int := fun g => max 0 (min g.upper (max x xd) - max g.lower (min x xd))
    (s.target hole = none ↔ ∃ g ∈ s.thermal, 0 < part g ∧ (g.status = .unknown ∨
      g.status = .substituted ∧ s.modeOf .probeSubst = .holding))
    ∧ ∀ tgt : Target, s.target hole = some tgt →
      (∀ T : Nat → Int,
        (∀ (k : Nat) (g : Segment), s.thermal[k]? = some g → 0 < part g →
          valueUsed s.thermal k = some (T k)) →
        tgt.dRaw = roundDisplacement ((List.range s.thermal.length).map (fun k =>
          ((s.thermal[k]?).elim 0 (fun g => if xd ≤ x then part g else -part g))
            * s.params.alpha * (T k - 200))).sum)
      ∧ tgt.d = max (-(s.params.corrLimit : Int)) (min s.params.corrLimit tgt.dRaw)
      ∧ (tgt.beyond = true ↔ s.params.corrLimit < tgt.dRaw.natAbs)
      ∧ tgt.x = jd + (x - xd) + tgt.d

/-- A SUBSTITUTED segment takes the mean of its nearest supplying neighbours, truncated toward zero, or
the one there is (R32); segments that do not supply are SUBSTITUTED while any segment supplies, else
UNKNOWN (R27). -/
def Obligations.SubstitutedTakesItsNeighbours : Prop :=
  (∀ (l1 m1 m2 l2 : List Segment) (gi gk gj : Segment) (a b : Int), gk.status = .substituted →
      (∀ g ∈ m1 ++ m2, g.status.supply = none) →
      gi.status.supply = some a → gj.status.supply = some b →
      valueUsed (l1 ++ gi :: m1 ++ gk :: m2 ++ gj :: l2) (l1.length + 1 + m1.length) =
          some ((a + b).tdiv 2)
        ∧ valueUsed (l1 ++ gi :: m1 ++ gk :: m2) (l1.length + 1 + m1.length) = some a
        ∧ valueUsed (m1 ++ gk :: m2 ++ gj :: l2) m1.length = some b)
  ∧ ∀ (segs : List Segment) (k : Nat), (settleSegments segs)[k]? = (segs[k]?).map (fun g =>
      if g.status.supply.isSome then g
      else { g with status := if ∃ x ∈ segs, x.status.supply.isSome then .substituted
                              else .unknown })

/-- A non-rail code converts to −500 plus the quotient of (c × 2500 + 2047) by 4095, saturated to −300 to
1500; the converted value is the probe value and the value of a reading, and sets no fault (R157). -/
def Obligations.ProbeCodesConvertToTemperatures : Prop :=
  (∀ (code : ProbeCode) (q : Int), 1 ≤ code.toNat → code.toNat ≤ 4094 →
      q * 4095 ≤ code.toNat * 2500 + 2047 → (code.toNat : Int) * 2500 + 2047 < (q + 1) * 4095 →
      convertCode code = (if q - 500 < -300 then -300 else if 1500 < q - 500 then 1500 else q - 500)
        ∧ (code.toNat ≤ 327 → convertCode code = -300)
        ∧ (3276 ≤ code.toNat → convertCode code = 1500))
  ∧ [1, 326, 327, 1145, 1146, 1475, 3275, 3276, 4094].map convertCode =
      [-300, -300, -300, 199, 200, 400, 1499, 1500, 1500]
  ∧ (∀ (r : Terminal) (code : ProbeCode) (now : Clock), 1 ≤ code.toNat → code.toNat ≤ 4094 →
      (r.sample code now).probeValue = some (convertCode code)
        ∧ (r.probeOk = true → (r.sample code now).probeOk = true))
  ∧ ∀ (s : State) (n : TermId) (code : ProbeCode), 1 ≤ code.toNat → code.toNat ≤ 4094 →
      s.terminals[n].probeOk = true →
      (s.takeSample n code).thermal =
        settleSegments (s.thermal.map (Segment.read n (convertCode code)))

/-- A probe turns FAULTED at its third rail reading in a row and OK at its third sound one; a reading
reaches every segment that names the probe and makes it LIVE, a fault takes a LIVE one to HELD, or out of
supply with PROBE_HOLD 0, and each entry into SUBSTITUTED flags PROBE_SUBST (R26, R29, R30, R33, R155,
R156). -/
def Obligations.ProbeSampleReachesItsSegments : Prop :=
  ∀ (n : TermId) (code : ProbeCode) (s : State), s.inReset = false →
    s.terminals[n].mode = .probeIn → 250 ≤ (s.clock - s.terminals[n].sampledAt).toNat →
    let r := s.terminals[n]
    let rail : Prop := code.toNat = 0 ∨ code.toNat = 4095
    let argues : Prop := r.probeOk = true ↔ rail
    let ok := if argues ∧ 3 ≤ r.runCount + 1 then !r.probeOk else r.probeOk
    let value := if rail then r.probeValue else some (convertCode code)
    ∃ t : State, exec (.probeSample n code) s = .next t
      ∧ t.terminals = s.terminals.set n { r with
          probeOk := ok, probeValue := value, lastCode := some code, sampledAt := s.clock
          runCount := if argues ∧ r.runCount + 1 < 3 then r.runCount + 1 else 0 }
      ∧ (∀ v : Int, ok = true → value = some v →
          t.thermal = settleSegments (s.thermal.map (fun g =>
            if g.probe = n then { g with status := .live v } else g)))
      ∧ (ok = false → r.probeOk = true →
          t.thermal = settleSegments (s.thermal.map (fun g => match g.status with
            | .live v => if g.probe = n then
                { g with status := if 0 < s.params.probeHold then .held v s.clock else .unknown }
                else g
            | _ => g)))
      ∧ (ok = false → r.probeOk = false → t.thermal = s.thermal)
      ∧ SubstRaised s t s.thermal ∧ OnlyNotices s t
      ∧ t = { s with terminals := t.terminals, thermal := t.thermal, dev := t.dev,
                     ports := t.ports }

/-- The expiry of a hold removes the last good value and the hold start, and the test of R27 follows; a
write of PROBE_HOLD ends every hold whose age has reached the value stored (R31, R33, R34). That the first of
them raises PROBE_SUBST with the picture its own expiry leaves is the model's reading, log entry 14. -/
def Obligations.HoldsEndAtProbeHold : Prop :=
  (∀ (k : Fin 16) (s : State) (g : Segment) (v : Int) (start : Clock), s.inReset = false →
      s.thermal[k.val]? = some g → g.status = .held v start →
      s.params.probeHold * 1000 ≤ (s.clock - start).toNat →
      ∃ t : State, exec (.holdExpiry k) s = .next t
        ∧ t.thermal = settleSegments (s.thermal.set k.val { g with status := .unknown })
        ∧ SubstRaised s t s.thermal ∧ OnlyNotices s t
        ∧ t = { s with thermal := t.thermal, dev := t.dev, ports := t.ports })
  ∧ (∀ (b : List Byte) (s : State) (v : Nat), s.takes supervisorPort ⟨kindSetParam, b⟩ = true →
      b.length = 5 → u8At b 0 = 3 → (v : Int) = max 0 (min 600 (i32At b 1)) → s.thermalKept →
      let due : Segment → Bool := fun g => match g.status with
        | .held _ start => decide (v * 1000 ≤ (s.clock - start).toNat)
        | _ => false
      ∃ t : State, exec (.setParamProbeHold b) s = .next t
        ∧ t.params = { s.params with probeHold := v }
        ∧ t.thermal = settleSegments (s.thermal.map (fun g =>
            if due g then { g with status := .unknown } else g))
        ∧ ((∀ g ∈ s.thermal, due g = false) → t.dev = s.dev)
        ∧ (∀ (k : Nat) (g : Segment), s.thermal[k]? = some g → due g = true →
            (∀ x ∈ s.thermal.take k, due x = false) →
            let picture := settleSegments (s.thermal.set k { g with status := .unknown })
            (valueUsed picture k = none → t.dev = s.dev)
            ∧ ∀ w : Int, valueUsed picture k = some w → t.dev = raisedDev s .probeSubst none none k w)
        ∧ AnsweredAt s t supervisorPort kindSetParam
            ⟨if i32At b 1 = v then .ok else .limited, 0, .parameter 3 v⟩
        ∧ t = { s with params := t.params, thermal := t.thermal, dev := t.dev, ports := t.ports })

/-! ### Parameters -/

/-- A written value is saturated to the parameter's range and answered LIMITED when that changed it, else
OK, with the value stored; no other parameter changes but the other bound of the exit temperature window.
An unknown id is refused BAD_FIELD, and GET_PARAM reads what is in force (R99, R105, R144, R178). -/
def Obligations.ParameterWritesSaturate : Prop :=
  (∀ (b : List Byte) (s : State) (lo hi v : Nat), s.ready supervisorPort kindSetParam b →
      b.length = 5 → u8At b 0 ∉ ownWriteIds → paramRange (u8At b 0) = some (lo, hi) →
      (v : Int) = max (lo : Int) (min (hi : Int) (i32At b 1)) →
      ∃ t : State, exec (.setParam b) s = .next t
        ∧ t.params.get (u8At b 0) = some v
        ∧ (∀ id : Nat, id ≠ u8At b 0 → t.params.get id = s.params.get id)
        ∧ t.ports = repliedPorts s.ports supervisorPort kindSetParam
            ⟨if i32At b 1 = v then .ok else .limited, 0, .parameter (b.getD 0 0) v⟩
        ∧ t = { s with params := t.params, ports := t.ports })
  ∧ (∀ (b : List Byte) (s : State), s.ready supervisorPort kindSetParam b → b.length = 5 →
      u8At b 0 = 0 ∨ 22 < u8At b 0 → exec (.setParam b) s = .next { s with
        ports := repliedPorts s.ports supervisorPort kindSetParam ⟨.badField, 0, .none⟩ })
  ∧ (∀ (b : List Byte) (s : State) (v : Nat), s.ready supervisorPort kindSetParam b →
      b.length = 5 → (v : Int) = max 600 (min 1300 (i32At b 1)) →
      let ports := repliedPorts s.ports supervisorPort kindSetParam
        ⟨if i32At b 1 = v then .ok else .limited, 0, .parameter (b.getD 0 0) v⟩
      (u8At b 0 = 13 → exec (.setParamHeatMin b) s = .next { s with
        params := { s.params with
          heatMin := v, heatMax := if s.params.heatMax < v then v else s.params.heatMax }
        ports := ports })
      ∧ (u8At b 0 = 14 → exec (.setParamHeatMax b) s = .next { s with
        params := { s.params with
          heatMax := v, heatMin := if v < s.params.heatMin then v else s.params.heatMin }
        ports := ports }))
  ∧ (∀ (b : List Byte) (s : State) (v : Nat), s.ready supervisorPort kindSetParam b →
      b.length = 5 → u8At b 0 = 21 →
      v ∈ [1, 16, 48, 64] → i32At b 1 ≤ v ∨ v = 64 → (∀ w ∈ [1, 16, 48], w < v → w < i32At b 1) →
      exec (.setParamLogThreshold b) s = .next { s with
        params := { s.params with logThreshold := v }
        ports := repliedPorts s.ports supervisorPort kindSetParam
          ⟨if i32At b 1 = v then .ok else .limited, 0, .parameter 21 v⟩ })
  ∧ (∀ (b : List Byte) (s : State), s.ready supervisorPort kindSetParam b → b.length = 5 →
      u8At b 0 = 12 →
      ∃ t : State, exec (.setParamStaleAction b) s = .next t
        ∧ t.params = { s.params with staleFreeze := decide (1 ≤ i32At b 1) } ∧ t.freezeFits
        ∧ t.ports = repliedPorts s.ports supervisorPort kindSetParam
            ⟨if i32At b 1 = 0 ∨ i32At b 1 = 1 then .ok else .limited, 0,
              .parameter 12 (if 1 ≤ i32At b 1 then 1 else 0)⟩
        ∧ t = { s with params := t.params, freezeA := t.freezeA, freezeB := t.freezeB,
                       ports := t.ports })
  ∧ (∀ (b : List Byte) (s : State), s.ready supervisorPort kindGetParam b → b.length = 1 →
      ((s.params.get (u8At b 0)).isSome ↔ 1 ≤ u8At b 0 ∧ u8At b 0 ≤ 22)
      ∧ exec (.getParam b) s = .next { s with
          ports := repliedPorts s.ports supervisorPort kindGetParam
            (match s.params.get (u8At b 0) with
              | some v => ⟨.ok, 0, .parameter (b.getD 0 0) v⟩
              | none => ⟨.badField, 0, .none⟩) })

/-! ### Terminals -/

/-- A TERM_CONFIG of a DISABLED terminal whose function fits the mode and stands nowhere else takes
effect at once: in SWITCH_IN the level is the pin's, in PROBE_IN the probe begins FAULTED with no value.
Taking a terminal out of use hands on a clamp drop, or the fault of a probe that was OK, and of any other
function only its signal ends, the line stop among them (R148 to R150, R160). TERM_WRITE and TERM_ACK write
the latch and the pending bits (R154). -/
def Obligations.TerminalsAreConfiguredAndWritten : Prop :=
  (∀ (b : List Byte) (s : State) (f : TermFields), s.takes supervisorPort ⟨kindTermConfig, b⟩ = true →
      b.length = 5 → termFieldsOf b = some f →
      s.terminals[f.terminal].mode = .disabled ∨ f.mode = .disabled →
      functionFits f.mode f.function = true →
      (f.function.unique = true →
        ∀ n : TermId, n ≠ f.terminal → s.terminals[n].function ≠ f.function) →
      let old := s.terminals[f.terminal]
      let r : Terminal := { old with
        mode := f.mode, function := f.function, polarity := f.polarity, edge := f.edge
        pending := false
        level := decide (f.mode = .switchIn) && (match f.polarity with
          | .activeHigh => s.pinHigh[f.terminal]
          | .activeLow => !s.pinHigh[f.terminal])
        candidate := none, probeOk := false, probeValue := none, lastCode := none, runCount := 0
        sampledAt := if f.mode = .probeIn then s.clock else old.sampledAt }
      let s1 := { s with
        terminals := s.terminals.set f.terminal r
        ports := s.ports.set supervisorPort s.ports[supervisorPort].dequeue }
      let answer : State → State := fun x =>
        (x.appendReply supervisorPort kindTermConfig ⟨.ok, 0, .none⟩).sendNotices
      (s.settled → old.mode = .disabled → exec (.termConfig b) s = .next { s with
        terminals := s.terminals.set f.terminal r
        ports := repliedPorts s.ports supervisorPort kindTermConfig ⟨.ok, 0, .none⟩ })
      ∧ (∀ bay : Fin 24, old.mode = .switchIn → old.function = .clampBay bay → old.level = true →
        exec (.termConfig b) s = .next (answer (s1.clampDrop bay.val)))
      ∧ (old.mode = .probeIn → old.probeOk = true →
        exec (.termConfig b) s = .next (answer (s1.probeFault f.terminal)))
      ∧ (old.mode = .out
          ∨ old.mode = .switchIn ∧ (old.level = false ∨ ∀ bay : Fin 24, old.function ≠ .clampBay bay)
          ∨ old.mode = .probeIn ∧ old.probeOk = false →
        exec (.termConfig b) s = .next (answer s1))
      ∧ (∀ fn : TermFunction, f.mode = .disabled → old.function = fn →
        (∀ n : TermId, n ≠ f.terminal → s.terminals[n].function ≠ fn) → s1.functionSignal fn = false))
  ∧ (∀ (b : List Byte) (s : State) (n : TermId) (latch enable : Bool),
      s.ready supervisorPort kindTermWrite b → b.length = 3 → u8At b 0 = n.val →
      u8At b 1 = latch.toNat → u8At b 2 = enable.toNat →
      exec (.termWrite b) s = .next { s with
        terminals := s.terminals.set n { s.terminals[n] with
          latch := latch, pendingEnable := enable, pending := s.terminals[n].pending && enable }
        ports := repliedPorts s.ports supervisorPort kindTermWrite ⟨.ok, 0, .none⟩ })
  ∧ (∀ (ts : List Byte) (s : State), ts.length < 60 →
      s.ready supervisorPort kindTermAck (BitVec.ofNat 8 ts.length :: ts) →
      ((∀ x ∈ ts, x.toNat < 40) →
        ∃ t : State, exec (.termAck (BitVec.ofNat 8 ts.length :: ts)) s = .next t
          ∧ (∀ n : TermId, t.terminals[n] = { s.terminals[n] with
              pending := s.terminals[n].pending && !decide (BitVec.ofNat 8 n.val ∈ ts) })
          ∧ t = { s with
              terminals := t.terminals
              ports := repliedPorts s.ports supervisorPort kindTermAck
                ⟨.ok, 0, .terminalSet
                  ((List.finRange 40).filter (fun n => t.terminals[n].pending))⟩ })
      ∧ ((∃ x ∈ ts, 40 ≤ x.toNat) →
        exec (.termAck (BitVec.ofNat 8 ts.length :: ts)) s = .next { s with
          ports := repliedPorts s.ports supervisorPort kindTermAck ⟨.badField, 0, .none⟩ }))

/-- A raw change of a SWITCH_IN pin away from the debounced level starts a candidate and one back to it
discards it; the candidate is accepted once it has stood for DEBOUNCE_MS, and a write of DEBOUNCE_MS
accepts those that have reached it. A selected edge sets pending where enabled, and a selected RAM edge
captures the age of a FED rivet (R117, R151 to R153). -/
def Obligations.SwitchLevelsAreDebounced : Prop :=
  (∀ (n : TermId) (high : Bool) (s : State), s.inReset = false → s.settled →
      s.pinHigh[n] = !high →
      let r := s.terminals[n]
      let active := match r.polarity with | .activeHigh => high | .activeLow => !high
      (r.mode ≠ .switchIn → exec (.rawChange n high) s = .next { s with
        pinHigh := s.pinHigh.set n high })
      ∧ (r.mode = .switchIn → active = r.level → exec (.rawChange n high) s = .next { s with
        pinHigh := s.pinHigh.set n high
        terminals := s.terminals.set n { r with candidate := none } })
      ∧ (r.mode = .switchIn → active ≠ r.level → 0 < s.params.debounceMs →
        exec (.rawChange n high) s = .next { s with
          pinHigh := s.pinHigh.set n high
          terminals := s.terminals.set n { r with candidate := some ⟨active, s.clock⟩ } })
      ∧ (r.mode = .switchIn → active ≠ r.level → s.params.debounceMs = 0 →
        exec (.rawChange n high) s = exec (.acceptance n) { s with
          pinHigh := s.pinHigh.set n high
          terminals := s.terminals.set n { r with candidate := some ⟨active, s.clock⟩ } }))
  ∧ (∀ (n : TermId) (c : Candidate) (s : State), s.inReset = false →
      s.terminals[n].mode = .switchIn → s.terminals[n].candidate = some c →
      s.params.debounceMs ≤ (s.clock - c.since).toNat →
      let r := s.terminals[n]
      let selected := match r.edge with | .rise => c.active | .fall => !c.active | .both => true
      let r' := { r with
        level := c.active, candidate := none, pending := r.pending || (r.pendingEnable && selected) }
      ∃ t : State, exec (.acceptance n) s = .next t
        ∧ t.terminals = s.terminals.set n r'
        ∧ (r.pending = false → r'.pending = true → t.announced supervisorPort .terminal)
        ∧ (∀ bay : Fin 24, r.function = .clampBay bay → c.active = false →
          let u := { s with terminals := s.terminals.set n { r with
            level := false, candidate := none } }.clampDrop bay.val
          t.heads = u.heads ∧ t.timers = u.timers ∧ t.plan = u.plan ∧ t.log = u.log
            ∧ t.heat = u.heat ∧ t.dev = u.dev)
        ∧ (∀ (h : Slot) (hd : Head) (g : HoleGrant) (x : Rivet), r.function = .ram h →
          selected = true → s.heads[h] = some hd → hd.kind = .set → hd.status = .work g →
          g.phase = some (.fed x) →
          t.heads = s.heads.set h (some { hd with status := .work { g with
            phase := some (.rammed x (s.clock - x.heatOut).toNat) } }))
        ∧ ((∀ bay : Fin 24, r.function = .clampBay bay → c.active = true) →
          (∀ (h : Slot) (hd : Head) (g : HoleGrant) (x : Rivet), r.function = .ram h →
            selected = true → s.heads[h] = some hd → hd.kind = .set → hd.status = .work g →
            g.phase ≠ some (.fed x)) →
          t = { s with terminals := t.terminals, ports := t.ports }))
  ∧ (∀ (b : List Byte) (s : State) (v : Nat), s.takes supervisorPort ⟨kindSetParam, b⟩ = true →
      b.length = 5 → u8At b 0 = 22 → (v : Int) = max 0 (min 255 (i32At b 1)) →
      ∃ t : State, exec (.setParamDebounceMs b) s = .next t
        ∧ t.params = { s.params with debounceMs := v }
        ∧ (∀ n : TermId, (∀ c : Candidate, s.terminals[n].mode = .switchIn →
            s.terminals[n].candidate = some c → (s.clock - c.since).toNat < v) →
          t.terminals[n] = s.terminals[n])
        ∧ (∀ (n : TermId) (c : Candidate), s.terminals[n].mode = .switchIn →
          s.terminals[n].candidate = some c → v ≤ (s.clock - c.since).toNat →
          t.terminals[n] = { s.terminals[n] with
            level := c.active, candidate := none, pending := t.terminals[n].pending })
        ∧ AnsweredAt s t supervisorPort kindSetParam
            ⟨if i32At b 1 = v then .ok else .limited, 0, .parameter 22 v⟩)

/-! ### The station links -/

/-- The characters of a message, received from HUNT by a port that is not deaf, give that message: it
joins the queue, or with four messages there it waits in the buffer of a port now deaf. A wrong check
gives an error and no message (R166 to R169). That the line counts as high after a character is the model's
reading, log entry 16. A frame the coordinator sends has one mark, on its header, and bytes that sum to 0
modulo 256. -/
def Obligations.CharactersGiveBackTheMessage : Prop :=
  (∀ (m : Message) (q : Port), m.payload.length ≤ 60 → q.assembly = none → q.deaf = false →
      (q.receiveQueue.length < 4 → q.receiveAll m.characters = { q with
        receiveQueue := q.receiveQueue ++ [m], lowFor := none, gapFor := none })
      ∧ (4 ≤ q.receiveQueue.length → q.receiveAll m.characters = { q with
        waiting := some m, deaf := true, lowFor := none, gapFor := none })
      ∧ ∀ bad : Byte, (false, bad) ∉ m.characters.getLast? →
        q.receiveAll (m.characters.dropLast ++ [(false, bad)]) = { q with
          errors := min 255 (q.errors + 1), lowFor := none, gapFor := none })
  ∧ ∀ f : TxFrame, f.payload.length ≤ 240 →
      byteSum (f.characters.map Prod.snd) = 0
        ∧ f.characters.length = f.payload.length + 3
        ∧ f.characters.map Prod.fst = true :: List.replicate (f.payload.length + 2) false

/-- The events of a port: a character with a bad stop bit or in the wrong place, a length, the gap, the fall of
the line, the 22nd bit time of a low line, and the start and end of a frame (R165, R167 to R170, R172). The
counts 110, 1152 and 55 are 22 bit times, 2 ms and a character in units of the model's choice, log entry 1;
that the line counts as high after a character and that a fall is not judged in a break are log entry 16,
that a low stop bit is judged by the time since the line's last fall is log entry 27, and the idle time is log
entry 15. -/
def Obligations.PortEventsDoAsTheyAreLaidDown : Prop :=
  ∀ (p : PortId) (s : State), s.inReset = false → s.settled →
    let q := s.ports[p]
    let as : Port → State := fun v => { s with ports := s.ports.set p v }
    (∀ (mark : Bool) (data : Byte), q.inBreak = false → q.lowFor.all (fun n => decide (n < 110)) = true →
      (∀ stop : Bool, q.deaf = true → exec (.characterArrival p mark data stop) s =
        .next (as { q with lowFor := none }))
      ∧ (q.deaf = false → q.assembly = none → exec (.characterArrival p mark data false) s =
        .next (as { q with lowFor := none, errors := min 255 (q.errors + 1) }))
      ∧ (q.deaf = false → q.assembly = none → exec (.characterArrival p false data true) s =
        .next (as { q with lowFor := none }))
      ∧ (q.deaf = false → q.assembly = none → exec (.characterArrival p true data true) s =
        .next (as { q with
          lowFor := none, assembly := some ⟨data, none, [], data⟩, gapFor := some 0 }))
      ∧ (∀ a : Assembly, q.deaf = false → q.assembly = some a →
        exec (.characterArrival p mark data false) s = .next (as { q with
          lowFor := none, assembly := none, gapFor := none, errors := min 255 (q.errors + 1) })
        ∧ exec (.characterArrival p true data true) s = .next (as { q with
          lowFor := none, assembly := some ⟨data, none, [], data⟩, gapFor := some 0
          errors := min 255 (q.errors + 1) })
        ∧ (a.length = none → data.toNat ≤ 60 →
          exec (.characterArrival p false data true) s = .next (as { q with
            lowFor := none, gapFor := some 0
            assembly := some { a with length := some data.toNat, sum := a.sum + data } }))
        ∧ (a.length = none → 60 < data.toNat →
          exec (.characterArrival p false data true) s = .next (as { q with
            lowFor := none, assembly := none, gapFor := none, errors := min 255 (q.errors + 1) }))
        ∧ (∀ n : Nat, a.length = some n → a.payload.length < n →
          exec (.characterArrival p false data true) s = .next (as { q with
            lowFor := none, gapFor := some 0
            assembly := some { a with payload := a.payload ++ [data], sum := a.sum + data } }))
        ∧ (∀ n : Nat, a.length = some n → n ≤ a.payload.length → a.sum + data = 0 →
          4 ≤ q.receiveQueue.length →
          ∃ t : State, exec (.characterArrival p false data true) s = .next t
            ∧ t.ports[p].deaf = true ∧ t.ports[p].waiting = some ⟨a.kind, a.payload⟩
            ∧ t.announced p .portDeaf ∧ t.announced supervisorPort .portDeaf
            ∧ t = { s with ports := t.ports })))
    ∧ (∀ n : Nat, q.gapFor = some n → 1152 < n → exec (.gapExpiry p) s = .next (as { q with
      assembly := none, gapFor := none, errors := min 255 (q.errors + 1) }))
    ∧ (q.inBreak = false → q.lowFor.all (fun n => decide (n < 110)) = true →
      exec (.receiveLineFall p) s = .next (as { q with lowFor := some 0, gapFor := none }))
    ∧ (∀ n : Nat, q.inBreak = false → q.lowFor = some n → 110 ≤ n →
      exec (.inBreak p) s = .next (as { q with inBreak := true }))
    ∧ (q.transmitQueue ≠ [] → q.sendingFor = none → 55 ≤ q.idleFor →
      exec (.frameTransmitStart p) s = .next (as { q with sendingFor := some 0 }))
    ∧ (∀ (n : Nat) (f : TxFrame) (rest : List TxFrame), q.sendingFor = some n →
      q.transmitQueue = f :: rest → f.characters.length * 55 ≤ n →
      exec (.frameSent p) s = .next (as { q with
        transmitQueue := rest, sendingFor := none, idleFor := 0 }).sendNotices)

/-! ### Fences and the plan -/

/-- FENCE_SET replaces a fence's entries and record when its interval is CLEAR of every other owner on each
rail it covers, and is refused OVERLAP else, rail A's conflict first; FENCE_CLEAR removes them (R58). -/
def Obligations.FencesAreSetAndCleared : Prop :=
  (∀ (b : List Byte) (s : State) (id : FenceId) (rails : FenceRails),
      s.ready supervisorPort kindFenceSet b → b.length = 10 → u8At b 0 = id.val →
      fenceRailsOfCode (u8At b 1) = some rails →
      0 ≤ i32At b 2 → i32At b 2 < i32At b 6 → i32At b 6 ≤ 2000000 →
      let onA := rails ≠ .onlyB
      let onB := rails ≠ .onlyA
      let e : Entry := ⟨.fence id, .fence, i32At b 2, i32At b 6, none⟩
      let clear : List Entry → Option Owner := fun l => conflict l (.fence id) (i32At b 2) (i32At b 6)
      let without : List Entry → List Entry := fun l => l.filter (fun x => x.owner ≠ .fence id)
      let refused : Owner → State := fun w => { s with
        ports := repliedPorts s.ports supervisorPort kindFenceSet ⟨.overlap, 0, .blockedBy w⟩ }
      ((onA → clear s.rails.listA = none) → (onB → clear s.rails.listB = none) →
        exec (.fenceSet b) s = .next { s with
          rails :=
            { listA := if onA then insertEntry e (without s.rails.listA) else without s.rails.listA
              listB := if onB then insertEntry e (without s.rails.listB) else without s.rails.listB
              fences := s.rails.fences.set id (some ⟨rails, i32At b 2, i32At b 6⟩) }
          ports := repliedPorts s.ports supervisorPort kindFenceSet ⟨.ok, 0, .none⟩ })
      ∧ (∀ w : Owner, onA → clear s.rails.listA = some w →
        exec (.fenceSet b) s = .next (refused w))
      ∧ (∀ w : Owner, (onA → clear s.rails.listA = none) → onB → clear s.rails.listB = some w →
        exec (.fenceSet b) s = .next (refused w)))
  ∧ (∀ (b : List Byte) (s : State) (id : FenceId), s.ready supervisorPort kindFenceClear b →
      b.length = 1 → u8At b 0 = id.val →
      let without : List Entry → List Entry := fun l => l.filter (fun x => x.owner ≠ .fence id)
      exec (.fenceClear b) s = .next (match s.rails.fences[id] with
        | none => { s with
            ports := repliedPorts s.ports supervisorPort kindFenceClear ⟨.badState, 0, .none⟩ }
        | some _ => { s with
            rails :=
              { listA := without s.rails.listA, listB := without s.rails.listB
                fences := s.rails.fences.set id none }
            ports := repliedPorts s.ports supervisorPort kindFenceClear ⟨.ok, 0, .none⟩ }))

/-- In EMPTY a PLAN_BEGIN opens tables of the sizes it carries with nothing loaded; in LOADING a
PLAN_SEGMENT, PLAN_BAY or PLAN_HOLE whose index is not yet loaded stores its row, and a hole joins its
joint and the PLANNED count; an index already loaded is refused DUPLICATE (R2 to R5, R20, R22). -/
def Obligations.PlanIsLoadedRowByRow : Prop :=
  (∀ (b : List Byte) (s : State), s.ready supervisorPort kindPlanBegin b → b.length = 13 →
      s.plan.state = .empty →
      1 ≤ u16At b 4 → u16At b 4 ≤ 1024 → 1 ≤ u8At b 6 → u8At b 6 ≤ 128 →
      1 ≤ u8At b 7 → u8At b 7 ≤ 16 → 1 ≤ u8At b 8 → u8At b 8 ≤ 24 →
      0 ≤ i32At b 9 → i32At b 9 ≤ 2000000 →
      exec (.planBegin b) s = .next { s with
        plan :=
          { state := .loading
            header := some ⟨word32At b 0, u16At b 4, u8At b 6, u8At b 7, u8At b 8, i32At b 9⟩
            jd := none
            holes := List.replicate (u16At b 4) none
            joints := List.replicate (u8At b 6) ⟨[], 0, 0, Vector.replicate 4 0⟩
            segments := List.replicate (u8At b 7) none
            bays := List.replicate (u8At b 8) none
            counters := ⟨0, 0, 0, Vector.replicate 7 0, 0, 0, 0, 0⟩ }
        ports := repliedPorts s.ports supervisorPort kindPlanBegin ⟨.ok, 0, .none⟩ })
  ∧ (∀ (b : List Byte) (s : State) (n : TermId), s.ready supervisorPort kindPlanSegment b →
      b.length = 10 → s.plan.state = .loading → u8At b 9 = n.val → u8At b 0 < s.plan.segCount →
      0 ≤ i32At b 1 → i32At b 1 ≤ 2000000 → 0 ≤ i32At b 5 → i32At b 5 ≤ 2000000 →
      exec (.planSegment b) s = .next (match (s.plan.segments[u8At b 0]?).join with
        | some _ => { s with
            ports := repliedPorts s.ports supervisorPort kindPlanSegment ⟨.duplicate, 0, .none⟩ }
        | none => { s with
            plan := { s.plan with
              segments := s.plan.segments.set (u8At b 0) (some ⟨i32At b 1, i32At b 5, n⟩)
              counters := { s.plan.counters with
                segsLoaded := s.plan.counters.segsLoaded + 1 } }
            ports := repliedPorts s.ports supervisorPort kindPlanSegment ⟨.ok, 0, .none⟩ }))
  ∧ (∀ (b : List Byte) (s : State), s.ready supervisorPort kindPlanBay b → b.length = 9 →
      s.plan.state = .loading → u8At b 0 < s.plan.bayCount →
      0 ≤ i32At b 1 → i32At b 1 ≤ 2000000 → 0 ≤ i32At b 5 → i32At b 5 ≤ 2000000 →
      exec (.planBay b) s = .next (match (s.plan.bays[u8At b 0]?).join with
        | some _ => { s with
            ports := repliedPorts s.ports supervisorPort kindPlanBay ⟨.duplicate, 0, .none⟩ }
        | none => { s with
            plan := { s.plan with
              bays := s.plan.bays.set (u8At b 0) (some ⟨i32At b 1, i32At b 5⟩)
              counters := { s.plan.counters with
                baysLoaded := s.plan.counters.baysLoaded + 1 } }
            ports := repliedPorts s.ports supervisorPort kindPlanBay ⟨.ok, 0, .none⟩ }))
  ∧ (∀ (b : List Byte) (s : State) (tier : Tier) (rail : Rail) (c : RivetClass),
      s.ready supervisorPort kindPlanHole b → b.length = 16 → s.plan.state = .loading →
      u16At b 0 < s.plan.holeCount → u8At b 2 < s.plan.jointCount → u8At b 3 = tier.val →
      u8At b 4 = rail.code → 0 ≤ i32At b 5 → i32At b 5 ≤ 2000000 →
      -150000 ≤ i32At b 9 → i32At b 9 ≤ 150000 → u8At b 13 = c.val + 1 →
      100 ≤ u16At b 14 → u16At b 14 ≤ 12000 →
      exec (.planHole b) s = .next (match s.plan.hole? (u16At b 0) with
        | some _ => { s with
            ports := repliedPorts s.ports supervisorPort kindPlanHole ⟨.duplicate, 0, .none⟩ }
        | none => { s with
            plan := { s.plan with
              holes := s.plan.holes.set (u16At b 0) (some
                { joint := u8At b 2, tier := tier, rail := rail, xNom := i32At b 5
                  yNom := i32At b 9, cls := c, stackNom := u16At b 14, state := .planned
                  grantHead := none, heldFrom := none, heldClass := none, drillReport := none
                  setReport := none, marks := [] })
              joints := s.plan.joints.modify (u8At b 2) (fun j => { j with
                members := insertMember (u16At b 0) j.members
                tierOpen := j.tierOpen.set tier (j.tierOpen[tier] + 1) })
              counters := { s.plan.counters with
                holesLoaded := s.plan.counters.holesLoaded + 1
                stateCounts := s.plan.counters.stateCounts.set 0
                  (s.plan.counters.stateCounts[0] + 1) } }
            ports := repliedPorts s.ports supervisorPort kindPlanHole ⟨.ok, 0, .none⟩ }))

/-- PLAN_SEAL passes exactly when every row is loaded, segments and bays ascend without gap, every hole and
x_d lie within the segments, and every joint with holes has one of tier 0; else it names the first of the six
checks that fails, in their order, its table and the lowest index that fails it, and changes nothing (R6, R7).
A sealed frame is READY, its segments are LIVE where their probes are OK, and each that is SUBSTITUTED from
the start raises PROBE_SUBST (R28, R33). -/
def Obligations.SealChecksThePlan : Prop :=
  (∀ (p : PlanStore) (hd : PlanHeader), p.header = some hd →
    let segments := p.segments.filterMap (fun o => o.map (fun r => (r.lower, r.upper)))
    let bays := p.bays.filterMap (fun o => o.map (fun r => (r.lower, r.upper)))
    let breaks : List (Int × Int) → Nat → Prop := fun l k => ∃ a : Int × Int, l[k]? = some a
      ∧ (a.2 ≤ a.1 ∨ ∃ b : Int × Int, l[k + 1]? = some b ∧ a.2 ≠ b.1)
    let inside : Int → Prop := fun x => ∃ a b : Int × Int, segments.head? = some a
      ∧ segments.getLast? = some b ∧ a.1 ≤ x ∧ x ≤ b.2
    let checks : List (Nat × Nat × (Nat → Prop)) :=
      [(1, 1, fun i => p.segments[i]? = some none),
       (1, 2, fun i => p.bays[i]? = some none),
       (1, 3, fun i => p.holes[i]? = some none),
       (2, 1, breaks segments),
       (3, 2, breaks bays),
       (4, 3, fun i => ∃ h : Hole, p.hole? i = some h ∧ ¬inside h.xNom),
       (5, 4, fun i => i = 0 ∧ ¬inside hd.xd),
       (6, 5, fun j => ∃ r : Joint, p.joints[j]? = some r ∧ r.members ≠ []
          ∧ ∀ i ∈ r.members, ∀ h : Hole, p.hole? i = some h → h.tier ≠ 0)]
    (p.sealFailure = none ↔ ∀ c ∈ checks, ∀ i : Nat, ¬c.2.2 i)
    ∧ ∀ subcode table i : Nat, p.sealFailure = some (subcode, table, i) ↔
      ∃ (n : Nat) (fails : Nat → Prop), checks[n]? = some (subcode, table, fails)
        ∧ (∀ c ∈ checks.take n, ∀ j : Nat, ¬c.2.2 j) ∧ fails i ∧ ∀ j : Nat, j < i → ¬fails j)
  ∧ (∀ s : State, s.takes supervisorPort ⟨kindPlanSeal, []⟩ = true → s.plan.state = .loading →
      s.plan.sealFailure = none →
      ∃ t : State, exec (.planSeal []) s = .next t
        ∧ t.plan = { s.plan with state := .ready }
        ∧ t.thermal = settleSegments ((s.plan.segments.filterMap id).map (fun row =>
            ⟨row.lower, row.upper, row.probe,
              match s.terminals[row.probe].probeValue with
              | some v => if s.terminals[row.probe].mode = .probeIn ∧
                  s.terminals[row.probe].probeOk = true then .live v else .unknown
              | none => .unknown⟩))
        ∧ SubstRaised s t []
        ∧ AnsweredAt s t supervisorPort kindPlanSeal ⟨.ok, 0, .none⟩
        ∧ t = { s with plan := t.plan, thermal := t.thermal, dev := t.dev, ports := t.ports })
  ∧ (∀ (s : State) (subcode table index : Nat), s.ready supervisorPort kindPlanSeal [] →
      s.plan.state = .loading → s.plan.sealFailure = some (subcode, table, index) →
      exec (.planSeal []) s = .next { s with
        ports := repliedPorts s.ports supervisorPort kindPlanSeal
          ⟨.sealFail, subcode, .sealFailed table index⟩ })

/-- DATUM stores J_d, raises the datum count and takes a READY frame to WORKING; it is refused NO_FRAME while
FRAME_PRESENT stands on a terminal and is inactive, and BAD_STATE in WORKING while a grant stands (R9). PLAN_ABORT in LOADING
and READY, and FRAME_END with no grant, no head in trouble and an empty log, return the frame to EMPTY
with no segments (R8, R24, R25). -/
def Obligations.DatumAbortAndEndMoveTheFrame : Prop :=
  (∀ (b : List Byte) (s : State), s.ready supervisorPort kindDatum b → b.length = 4 →
      0 ≤ i32At b 0 → i32At b 0 ≤ 2000000 →
      s.plan.state = .ready ∨ s.plan.state = .working →
      ((∃ n : TermId, s.terminals[n].function = .framePresent) →
        s.functionSignal .framePresent = false → exec (.datum b) s = .next { s with
        ports := repliedPorts s.ports supervisorPort kindDatum ⟨.noFrame, 0, .none⟩ })
      ∧ ((∀ n : TermId, s.terminals[n].function = .framePresent →
          s.functionSignal .framePresent = true) →
        s.plan.state = .working → (∃ (h : Slot) (hd : Head), s.heads[h] = some hd ∧
          hd.status.hasGrant = true) →
        exec (.datum b) s = .next { s with
          ports := repliedPorts s.ports supervisorPort kindDatum ⟨.badState, 0, .none⟩ }))
  ∧ (∀ (b : List Byte) (s : State), s.ready supervisorPort kindDatum b → b.length = 4 →
      0 ≤ i32At b 0 → i32At b 0 ≤ 2000000 →
      (∀ n : TermId, s.terminals[n].function = .framePresent →
        s.functionSignal .framePresent = true) →
      s.plan.state = .ready ∨ s.plan.state = .working ∧ (∀ (h : Slot) (hd : Head),
        s.heads[h] = some hd → hd.status.hasGrant = false) →
      exec (.datum b) s = .next { s with
        plan := { s.plan with
          state := .working, jd := some (i32At b 0)
          counters := { s.plan.counters with
            datumCount := min 255 (s.plan.counters.datumCount + 1) } }
        ports := repliedPorts s.ports supervisorPort kindDatum ⟨.ok, 0, .none⟩ })
  ∧ (∀ s : State, s.ready supervisorPort kindPlanAbort [] →
      s.plan.state = .loading ∨ s.plan.state = .ready →
      exec (.planAbort []) s = .next { s with
        plan := State.reset.plan, thermal := []
        ports := repliedPorts s.ports supervisorPort kindPlanAbort ⟨.ok, 0, .none⟩ })
  ∧ (∀ s : State, s.ready supervisorPort kindFrameEnd [] →
      s.plan.state ≠ .empty → s.plan.state ≠ .loading →
      (∀ (h : Slot) (hd : Head), s.heads[h] = some hd → hd.status = .idle) →
      exec (.frameEnd []) s = .next (if s.log.records = []
        then { s with
          plan := State.reset.plan, thermal := []
          ports := repliedPorts s.ports supervisorPort kindFrameEnd ⟨.ok, 0, .none⟩ }
        else { s with
          ports := repliedPorts s.ports supervisorPort kindFrameEnd ⟨.logPending, 0, .none⟩ }))

/-- REDO of a HELD hole returns it to the state before the stopped work, without that work's report;
ACCEPT takes it on by the report that is present, with an accepted record; HOLE_EXCUSE ends its work. Each
keeps the marks and the other holes, and a frame whose last hole enters SET or EXCUSED is COMPLETE (R18,
R19, R21). -/
def Obligations.HeldHolesAreReleasedOrExcused : Prop :=
  ∀ (b : List Byte) (s : State) (hole : Hole), s.plan.state = .working →
    u16At b 0 < s.plan.holeCount → s.plan.hole? (u16At b 0) = some hole →
    (∀ from_ : Work, s.ready supervisorPort kindHoleRelease b → b.length = 3 → u8At b 2 = 0 →
      hole.state = .held → hole.heldFrom = some from_ →
      ∃ t : State, exec (.holeReleaseRedo b) s = .next t
        ∧ t.plan.hole? (u16At b 0) = some { hole with
            state := (match from_ with | .drilling => .planned | .setting => .drilled)
            grantHead := none, heldFrom := none, heldClass := none
            drillReport := (match from_ with | .drilling => none | .setting => hole.drillReport)
            setReport := (match from_ with | .drilling => hole.setReport | .setting => none) }
        ∧ OnlyHoleChanged s.plan t.plan (u16At b 0) ∧ t.plan.state = .working
        ∧ t.plan.counters.redoCount = min 65535 (s.plan.counters.redoCount + 1)
        ∧ t.ports = repliedPorts s.ports supervisorPort kindHoleRelease ⟨.ok, 0, .none⟩
        ∧ t = { s with plan := t.plan, ports := t.ports })
    ∧ (∀ (done : HoleState) (event : LogEvent),
      s.takes supervisorPort ⟨kindHoleRelease, b⟩ = true → b.length = 3 → u8At b 2 = 1 →
      hole.state = .held → s.log.records.length + s.log.inFlight + 1 ≤ 64 →
      (hole.heldFrom = some .drilling ∧ done = .drilled ∧ ∃ r : DrillReport,
          hole.drillReport = some r ∧ event = .drilled r.head r.x r.diameter r.stack)
        ∨ (hole.heldFrom = some .setting ∧ done = .set ∧ ∃ r : SetReport,
          hole.setReport = some r ∧ event = .set r.head r.x r.serial r.ramAge) →
      ∃ t : State, exec (.holeReleaseAccept b) s = .next t
        ∧ t.plan.hole? (u16At b 0) = some { hole with
            state := done, grantHead := none, heldFrom := none, heldClass := none }
        ∧ OnlyHoleChanged s.plan t.plan (u16At b 0)
        ∧ t.plan.state = (if done = .set ∧ t.plan.counters.stateCounts[4] +
            t.plan.counters.stateCounts[6] = s.plan.holeCount then .complete else .working)
        ∧ t.plan.counters.acceptCount = min 65535 (s.plan.counters.acceptCount + 1)
        ∧ t.log = { s.log with
            records := s.log.records ++ [⟨s.log.sequence, u16At b 0, event, true, s.clock⟩]
            sequence := s.log.sequence + 1 }
        ∧ AnsweredAt s t supervisorPort kindHoleRelease ⟨.ok, 0, .none⟩
        ∧ t = { s with plan := t.plan, log := t.log, ports := t.ports })
    ∧ (s.takes supervisorPort ⟨kindHoleExcuse, b⟩ = true → b.length = 2 →
      hole.state = .planned ∨ hole.state = .drilled ∨ hole.state = .held →
      s.log.records.length + s.log.inFlight + 1 ≤ 64 →
      ∃ t : State, exec (.holeExcuse b) s = .next t
        ∧ t.plan.hole? (u16At b 0) = some { hole with
            state := .excused, grantHead := none, heldFrom := none, heldClass := none }
        ∧ OnlyHoleChanged s.plan t.plan (u16At b 0)
        ∧ t.plan.state = (if t.plan.counters.stateCounts[4] + t.plan.counters.stateCounts[6] =
            s.plan.holeCount then .complete else .working)
        ∧ t.log = { s.log with
            records := s.log.records ++ [⟨s.log.sequence, u16At b 0, .excused, false, s.clock⟩]
            sequence := s.log.sequence + 1 }
        ∧ AnsweredAt s t supervisorPort kindHoleExcuse ⟨.ok, 0, .none⟩
        ∧ t = { s with plan := t.plan, log := t.log, ports := t.ports })

/-! ### Queries -/

/-- The six queries change nothing but their port's queues, and report what their rules list as it stands when
they are taken: a STOPPED timer by its mode alone (R63, R90), hole records (R23), modes with the settable
classes (R125, R135), a terminal by its mode (R161), the eight pages (R22, R35, R60, R102, R146, R164, R177),
with P8's transmit count taken after the reply has joined it (R172), and the tray (R123). -/
def Obligations.QueriesReportAndChangeNothing : Prop :=
  (∀ (h : Slot) (s : State), s.ready (headPort h) kindHeadQuery [] →
      exec (.headQuery h []) s = .next { s with
        ports := repliedPorts s.ports (headPort h) kindHeadQuery
          ⟨.ok, 0, .headRecord (headStateOf s.heads[h]) ((s.heads[h]).map (fun hd =>
            ⟨hd, (s.rails.list hd.rail).find? (fun e => e.owner == .head h),
              (match s.timers[h] with
                | .stopped => .stopped
                | .counting stage limit count => .counting stage limit count (s.timerRunning h)),
              s.permit h⟩))⟩ })
  ∧ (∀ (b : List Byte) (s : State), s.ready supervisorPort kindPlanRead b → b.length = 3 →
      s.plan.state ≠ .empty → u16At b 0 < s.plan.holeCount →
      (u8At b 2 = 1 → exec (.planRead b) s = .next { s with
        ports := repliedPorts s.ports supervisorPort kindPlanRead
          ⟨.ok, 0, .planRecords [(u16At b 0, s.plan.hole? (u16At b 0))]⟩ })
      ∧ (u8At b 2 = 2 →
        let j := if u16At b 0 + 1 = s.plan.holeCount then 0 else u16At b 0 + 1
        exec (.planRead b) s = .next { s with
          ports := repliedPorts s.ports supervisorPort kindPlanRead
            ⟨.ok, 0, .planRecords [(u16At b 0, s.plan.hole? (u16At b 0)), (j, s.plan.hole? j)]⟩ }))
  ∧ (∀ s : State, s.ready supervisorPort kindDevRead [] → ∃ settable : Vector Bool 10,
      (∀ c : DevClass, settable[c.index] = decide (c ≠ .workTimeout ∧ c ≠ .linkBreak))
      ∧ exec (.devRead []) s = .next { s with
        ports := repliedPorts s.ports supervisorPort kindDevRead
          ⟨.ok, 0, .deviations ⟨s.dev.modes, settable, s.dev.flags, s.dev.first⟩⟩ })
  ∧ (∀ (b : List Byte) (s : State) (n : TermId), s.ready supervisorPort kindTermRead b →
      b.length = 1 → u8At b 0 = n.val →
      let r := s.terminals[n]
      let switch : Bool := decide (r.mode = .switchIn)
      exec (.termRead b) s = .next { s with
        ports := repliedPorts s.ports supervisorPort kindTermRead ⟨.ok, 0, .terminalRecord
          { mode := r.mode, function := r.function, polarity := r.polarity, edge := r.edge
            pendingEnable := r.pendingEnable, latch := r.latch
            level := switch && r.level, pending := switch && r.pending
            candidate := if switch then
              r.candidate.map (fun c => (c.active, (s.clock - c.since).toNat)) else none
            activeLevel := if r.mode = .out then some (s.activeLevel r) else none
            probe := if r.mode = .probeIn then
              some (r.probeOk, r.probeValue, r.lastCode, r.runCount) else none }⟩ })
  ∧ (∀ s : State, ∃ budgets : Vector Nat 6,
      (∀ c : RivetClass, budgets[c] = s.params.budgets[c] * 100) ∧
      let aged : Rivet → BitVec 16 × RivetClass × Nat := fun r =>
        (r.serial, r.cls, (s.clock - r.heatOut).toNat)
      let heat : HeatReport :=
        { queue := s.heat.queue.map aged, chute := s.heat.chute.map aged, overrun := s.heat.overrun
          fullMark := s.heat.fullMark, pause := s.heaterPause
          waitingClasses := s.heat.waiting.filterMap s.classOf
          heatMin := s.params.heatMin, heatMax := s.params.heatMax, budgetsMs := budgets
          accepted := s.heat.accepted, scrapped := s.heat.scrapped }
      (s.ready heaterPort kindHeaterQuery [] → exec (.heaterQuery []) s = .next { s with
        ports := repliedPorts s.ports heaterPort kindHeaterQuery ⟨.ok, 0, .heater heat⟩ })
      ∧ ∀ b : List Byte, s.ready supervisorPort kindLineQuery b → b.length = 1 →
        let freezing : Rail → List Slot := fun rail => (List.finRange 8).filter (fun h =>
          (s.heads[h]).any (fun hd => hd.rail == rail
            && (hd.status == .stale || hd.status == .faulted)))
        let counted := repliedPorts s.ports supervisorPort kindLineQuery ⟨.ok, 0, .none⟩
        let answers : LinePage → Prop := fun pg => exec (.lineQuery b) s = .next { s with
          ports := repliedPorts s.ports supervisorPort kindLineQuery ⟨.ok, 0, .page pg⟩ };
        (u8At b 0 = 0 → answers (.frame s.plan.state s.plan.header s.plan.jd
          s.plan.counters s.clock))
        ∧ (u8At b 0 = 1 → ∃ list : List SegmentReport, list.length = s.thermal.length
          ∧ (∀ (k : Nat) (g : Segment), s.thermal[k]? = some g → list[k]? = some (match g.status with
            | .live v => ⟨0, some v, none⟩
            | .held v start => ⟨1, some v, some (s.clock - start).toNat⟩
            | .substituted => ⟨2, valueUsed s.thermal k, none⟩
            | .unknown => ⟨3, none, none⟩))
          ∧ answers (.segments list))
        ∧ (u8At b 0 = 2 → answers (.rail .A s.rails.listA))
        ∧ (u8At b 0 = 3 → answers (.rail .B s.rails.listB))
        ∧ (u8At b 0 = 4 → answers (.line s.clock s.lineStop s.params.staleFreeze
          s.freezeA (if s.freezeA then freezing .A else [])
          s.freezeB (if s.freezeB then freezing .B else [])
          s.rails.fences s.dev.flags s.attention))
        ∧ (u8At b 0 = 5 → answers (.heat heat s.heat.waiting))
        ∧ (u8At b 0 = 6 → answers (.log s.log.records.length s.log.inFlight
          (64 - s.log.records.length - s.log.inFlight) s.params.logThreshold
          (decide (s.params.logThreshold ≤ s.log.records.length)) s.log.sequence
          (s.log.records.head?.map LogRecord.sequence)))
        ∧ (u8At b 0 = 7 → ∃ list : List PortReport, list.length = 10
          ∧ (∀ p : PortId, list[p.val]? = some ⟨counted[p].assembly.isSome, counted[p].deaf,
            counted[p].inBreak, counted[p].receiveQueue.length, counted[p].transmitQueue.length,
            counted[p].notices, counted[p].errors⟩)
          ∧ answers (.ports list))
        ∧ (8 ≤ u8At b 0 → exec (.lineQuery b) s = .next { s with
          ports := repliedPorts s.ports supervisorPort kindLineQuery ⟨.badField, 0, .none⟩ }))
end

