-- ==== Sys2Proof/Laws/Layout.lean ====
section
/-! SUPPORT. Every record of the layouts has the width its readers are told, so that an absent optional
field and a present one take the same bytes (R179). -/

namespace Sys2Proof.Machine

@[simp] theorem leBytes_length (n v : Nat) : (leBytes n v).length = n := by
  induction n generalizing v with
  | zero => rfl
  | succ n ih => simp [leBytes, ih]

@[simp] theorem leInt_length (n : Nat) (v : Int) : (leInt n v).length = n := by simp [leInt]

theorem optBytes_length {α : Type} (width : Nat) (encode : α → List Byte)
    (h : ∀ v, (encode v).length = width) (o : Option α) :
    (optBytes width encode o).length = width + 1 := by
  cases o <;> simp [optBytes, h]

@[simp] theorem rivetBytes_length (r : BitVec 16 × RivetClass × Nat) : (rivetBytes r).length = 7 := by
  simp [rivetBytes]

@[simp] theorem Rivet.bytes_length (r : Rivet) : r.bytes.length = 7 := by simp [Rivet.bytes]

@[simp] theorem LastHold.bytes_length (l : LastHold) : l.bytes.length = 7 := by
  simp [LastHold.bytes, classBytes]

@[simp] theorem Entry.bytes_length (e : Entry) : e.bytes.length = 20 := by
  simp [Entry.bytes, optBytes_length]

@[simp] theorem DrillReport.bytes_length (r : DrillReport) : r.bytes.length = 15 := by
  simp [DrillReport.bytes]

@[simp] theorem SetReport.bytes_length (r : SetReport) : r.bytes.length = 17 := by
  simp [SetReport.bytes, optBytes_length]

@[simp] theorem firstDeviationBytes_length (f : FirstDeviation) : (firstDeviationBytes f).length = 23 := by
  simp [firstDeviationBytes, optBytes_length]

@[simp] theorem Hole.bytes_length (h : Hole) : h.bytes.length = holeWidth := by
  simp [Hole.bytes, Hole.staticBytes, optBytes_length, classBytes, holeWidth]

@[simp] theorem HeadStatus.grantBytes_length (st : HeadStatus) : st.grantBytes.length = grantWidth := by
  simp [HeadStatus.grantBytes, optBytes_length, grantWidth]

/-- Each record of a PLAN_READ takes 58 bytes, loaded or not (R23). -/
theorem planRecordBytes_length (o : Option Hole) : (planRecordBytes o).length = 58 := by
  simp [planRecordBytes, optBytes_length, holeWidth]

@[simp] theorem openNat_length (f : OpenField) (v : Nat) : (openNat f v).length = Config.openWidth f := by
  simp [openNat]

@[simp] theorem openInt_length (f : OpenField) (v : Int) : (openInt f v).length = Config.openWidth f := by
  simp [openInt]

@[simp] theorem Fence.bytes_length (f : Fence) : f.bytes.length = 9 := by simp [Fence.bytes]

/-- An entry of a page takes 20 bytes for a head and 11 for a fence (R60). -/
theorem Entry.pageBytes_length (e : Entry) :
    e.pageBytes.length = match e.owner with | .head _ => 20 | .fence _ => 11 := by
  cases h : e.owner <;> simp [Entry.pageBytes, h]

@[simp] theorem headerBytes_length (o : Option PlanHeader) : (headerBytes o).length = 19 := by
  simp [headerBytes, optBytes_length]

/-- Page LINE always takes 53 bytes (R177). -/
theorem LinePage.line_bytes_length (clock : Clock) (stop freeze fa : Bool) (sa : List Slot) (fb : Bool)
    (sb : List Slot) (fences : Vector (Option Fence) 4) (flags : Vector Bool 10) (attention : Bool) :
    (LinePage.line clock stop freeze fa sa fb sb fences flags attention).bytes.length = 53 := by
  have h : ∀ l : List (Option Fence), (l.flatMap (optBytes 9 Fence.bytes)).length = l.length * 10 := by
    intro l
    induction l with
    | nil => rfl
    | cons o l ih => simp [ih, optBytes_length]; omega
  simp [LinePage.bytes, h]

/-- Each log record takes 24 bytes (R180). -/
theorem LogRecord.bytes_length (r : LogRecord) : r.bytes.length = 24 := by
  cases h : r.event <;> simp [LogRecord.bytes, LogEvent.area, optBytes_length, h]

end Sys2Proof.Machine
end

