-- ==== Sys2Proof/Laws/State.lean ====
section
/-! SUPPORT. One lemma per field per update of State: each says what the field holds after the update. -/

namespace Sys2Proof.Machine

variable (s : State)

/-! ### State.setHead -/

@[simp] theorem State.setHead_inReset (h : Slot) (v : Option Head) : (s.setHead h v).inReset = s.inReset := rfl
@[simp] theorem State.setHead_clock (h : Slot) (v : Option Head) : (s.setHead h v).clock = s.clock := rfl
@[simp] theorem State.setHead_subMs (h : Slot) (v : Option Head) : (s.setHead h v).subMs = s.subMs := rfl
@[simp] theorem State.setHead_params (h : Slot) (v : Option Head) : (s.setHead h v).params = s.params := rfl
@[simp] theorem State.setHead_plan (h : Slot) (v : Option Head) : (s.setHead h v).plan = s.plan := rfl
@[simp] theorem State.setHead_thermal (h : Slot) (v : Option Head) : (s.setHead h v).thermal = s.thermal := rfl
@[simp] theorem State.setHead_rails (h : Slot) (v : Option Head) : (s.setHead h v).rails = s.rails := rfl
@[simp] theorem State.setHead_heads (h : Slot) (v : Option Head) : (s.setHead h v).heads = s.heads.set h v := rfl
@[simp] theorem State.setHead_timers (h : Slot) (v : Option Head) : (s.setHead h v).timers = s.timers := rfl
@[simp] theorem State.setHead_freezeA (h : Slot) (v : Option Head) : (s.setHead h v).freezeA = s.freezeA := rfl
@[simp] theorem State.setHead_freezeB (h : Slot) (v : Option Head) : (s.setHead h v).freezeB = s.freezeB := rfl
@[simp] theorem State.setHead_heat (h : Slot) (v : Option Head) : (s.setHead h v).heat = s.heat := rfl
@[simp] theorem State.setHead_dev (h : Slot) (v : Option Head) : (s.setHead h v).dev = s.dev := rfl
@[simp] theorem State.setHead_log (h : Slot) (v : Option Head) : (s.setHead h v).log = s.log := rfl
@[simp] theorem State.setHead_terminals (h : Slot) (v : Option Head) : (s.setHead h v).terminals = s.terminals := rfl
@[simp] theorem State.setHead_ports (h : Slot) (v : Option Head) : (s.setHead h v).ports = s.ports := rfl
@[simp] theorem State.setHead_pinHigh (h : Slot) (v : Option Head) : (s.setHead h v).pinHigh = s.pinHigh := rfl
@[simp] theorem State.setHead_pending (h : Slot) (v : Option Head) : (s.setHead h v).pending = s.pending := rfl

/-! ### State.setTimer -/

@[simp] theorem State.setTimer_inReset (h : Slot) (v : MotionTimer) : (s.setTimer h v).inReset = s.inReset := rfl
@[simp] theorem State.setTimer_clock (h : Slot) (v : MotionTimer) : (s.setTimer h v).clock = s.clock := rfl
@[simp] theorem State.setTimer_subMs (h : Slot) (v : MotionTimer) : (s.setTimer h v).subMs = s.subMs := rfl
@[simp] theorem State.setTimer_params (h : Slot) (v : MotionTimer) : (s.setTimer h v).params = s.params := rfl
@[simp] theorem State.setTimer_plan (h : Slot) (v : MotionTimer) : (s.setTimer h v).plan = s.plan := rfl
@[simp] theorem State.setTimer_thermal (h : Slot) (v : MotionTimer) : (s.setTimer h v).thermal = s.thermal := rfl
@[simp] theorem State.setTimer_rails (h : Slot) (v : MotionTimer) : (s.setTimer h v).rails = s.rails := rfl
@[simp] theorem State.setTimer_heads (h : Slot) (v : MotionTimer) : (s.setTimer h v).heads = s.heads := rfl
@[simp] theorem State.setTimer_timers (h : Slot) (v : MotionTimer) : (s.setTimer h v).timers = s.timers.set h v := rfl
@[simp] theorem State.setTimer_freezeA (h : Slot) (v : MotionTimer) : (s.setTimer h v).freezeA = s.freezeA := rfl
@[simp] theorem State.setTimer_freezeB (h : Slot) (v : MotionTimer) : (s.setTimer h v).freezeB = s.freezeB := rfl
@[simp] theorem State.setTimer_heat (h : Slot) (v : MotionTimer) : (s.setTimer h v).heat = s.heat := rfl
@[simp] theorem State.setTimer_dev (h : Slot) (v : MotionTimer) : (s.setTimer h v).dev = s.dev := rfl
@[simp] theorem State.setTimer_log (h : Slot) (v : MotionTimer) : (s.setTimer h v).log = s.log := rfl
@[simp] theorem State.setTimer_terminals (h : Slot) (v : MotionTimer) : (s.setTimer h v).terminals = s.terminals := rfl
@[simp] theorem State.setTimer_ports (h : Slot) (v : MotionTimer) : (s.setTimer h v).ports = s.ports := rfl
@[simp] theorem State.setTimer_pinHigh (h : Slot) (v : MotionTimer) : (s.setTimer h v).pinHigh = s.pinHigh := rfl
@[simp] theorem State.setTimer_pending (h : Slot) (v : MotionTimer) : (s.setTimer h v).pending = s.pending := rfl

/-! ### State.setTerminal -/

@[simp] theorem State.setTerminal_inReset (t : TermId) (v : Terminal) : (s.setTerminal t v).inReset = s.inReset := rfl
@[simp] theorem State.setTerminal_clock (t : TermId) (v : Terminal) : (s.setTerminal t v).clock = s.clock := rfl
@[simp] theorem State.setTerminal_subMs (t : TermId) (v : Terminal) : (s.setTerminal t v).subMs = s.subMs := rfl
@[simp] theorem State.setTerminal_params (t : TermId) (v : Terminal) : (s.setTerminal t v).params = s.params := rfl
@[simp] theorem State.setTerminal_plan (t : TermId) (v : Terminal) : (s.setTerminal t v).plan = s.plan := rfl
@[simp] theorem State.setTerminal_thermal (t : TermId) (v : Terminal) : (s.setTerminal t v).thermal = s.thermal := rfl
@[simp] theorem State.setTerminal_rails (t : TermId) (v : Terminal) : (s.setTerminal t v).rails = s.rails := rfl
@[simp] theorem State.setTerminal_heads (t : TermId) (v : Terminal) : (s.setTerminal t v).heads = s.heads := rfl
@[simp] theorem State.setTerminal_timers (t : TermId) (v : Terminal) : (s.setTerminal t v).timers = s.timers := rfl
@[simp] theorem State.setTerminal_freezeA (t : TermId) (v : Terminal) : (s.setTerminal t v).freezeA = s.freezeA := rfl
@[simp] theorem State.setTerminal_freezeB (t : TermId) (v : Terminal) : (s.setTerminal t v).freezeB = s.freezeB := rfl
@[simp] theorem State.setTerminal_heat (t : TermId) (v : Terminal) : (s.setTerminal t v).heat = s.heat := rfl
@[simp] theorem State.setTerminal_dev (t : TermId) (v : Terminal) : (s.setTerminal t v).dev = s.dev := rfl
@[simp] theorem State.setTerminal_log (t : TermId) (v : Terminal) : (s.setTerminal t v).log = s.log := rfl
@[simp] theorem State.setTerminal_terminals (t : TermId) (v : Terminal) : (s.setTerminal t v).terminals = s.terminals.set t v := rfl
@[simp] theorem State.setTerminal_ports (t : TermId) (v : Terminal) : (s.setTerminal t v).ports = s.ports := rfl
@[simp] theorem State.setTerminal_pinHigh (t : TermId) (v : Terminal) : (s.setTerminal t v).pinHigh = s.pinHigh := rfl
@[simp] theorem State.setTerminal_pending (t : TermId) (v : Terminal) : (s.setTerminal t v).pending = s.pending := rfl

/-! ### State.setPort -/

@[simp] theorem State.setPort_inReset (p : PortId) (v : Port) : (s.setPort p v).inReset = s.inReset := rfl
@[simp] theorem State.setPort_clock (p : PortId) (v : Port) : (s.setPort p v).clock = s.clock := rfl
@[simp] theorem State.setPort_subMs (p : PortId) (v : Port) : (s.setPort p v).subMs = s.subMs := rfl
@[simp] theorem State.setPort_params (p : PortId) (v : Port) : (s.setPort p v).params = s.params := rfl
@[simp] theorem State.setPort_plan (p : PortId) (v : Port) : (s.setPort p v).plan = s.plan := rfl
@[simp] theorem State.setPort_thermal (p : PortId) (v : Port) : (s.setPort p v).thermal = s.thermal := rfl
@[simp] theorem State.setPort_rails (p : PortId) (v : Port) : (s.setPort p v).rails = s.rails := rfl
@[simp] theorem State.setPort_heads (p : PortId) (v : Port) : (s.setPort p v).heads = s.heads := rfl
@[simp] theorem State.setPort_timers (p : PortId) (v : Port) : (s.setPort p v).timers = s.timers := rfl
@[simp] theorem State.setPort_freezeA (p : PortId) (v : Port) : (s.setPort p v).freezeA = s.freezeA := rfl
@[simp] theorem State.setPort_freezeB (p : PortId) (v : Port) : (s.setPort p v).freezeB = s.freezeB := rfl
@[simp] theorem State.setPort_heat (p : PortId) (v : Port) : (s.setPort p v).heat = s.heat := rfl
@[simp] theorem State.setPort_dev (p : PortId) (v : Port) : (s.setPort p v).dev = s.dev := rfl
@[simp] theorem State.setPort_log (p : PortId) (v : Port) : (s.setPort p v).log = s.log := rfl
@[simp] theorem State.setPort_terminals (p : PortId) (v : Port) : (s.setPort p v).terminals = s.terminals := rfl
@[simp] theorem State.setPort_ports (p : PortId) (v : Port) : (s.setPort p v).ports = s.ports.set p v := rfl
@[simp] theorem State.setPort_pinHigh (p : PortId) (v : Port) : (s.setPort p v).pinHigh = s.pinHigh := rfl
@[simp] theorem State.setPort_pending (p : PortId) (v : Port) : (s.setPort p v).pending = s.pending := rfl

/-! ### State.setPin -/

@[simp] theorem State.setPin_inReset (t : TermId) (v : Bool) : (s.setPin t v).inReset = s.inReset := rfl
@[simp] theorem State.setPin_clock (t : TermId) (v : Bool) : (s.setPin t v).clock = s.clock := rfl
@[simp] theorem State.setPin_subMs (t : TermId) (v : Bool) : (s.setPin t v).subMs = s.subMs := rfl
@[simp] theorem State.setPin_params (t : TermId) (v : Bool) : (s.setPin t v).params = s.params := rfl
@[simp] theorem State.setPin_plan (t : TermId) (v : Bool) : (s.setPin t v).plan = s.plan := rfl
@[simp] theorem State.setPin_thermal (t : TermId) (v : Bool) : (s.setPin t v).thermal = s.thermal := rfl
@[simp] theorem State.setPin_rails (t : TermId) (v : Bool) : (s.setPin t v).rails = s.rails := rfl
@[simp] theorem State.setPin_heads (t : TermId) (v : Bool) : (s.setPin t v).heads = s.heads := rfl
@[simp] theorem State.setPin_timers (t : TermId) (v : Bool) : (s.setPin t v).timers = s.timers := rfl
@[simp] theorem State.setPin_freezeA (t : TermId) (v : Bool) : (s.setPin t v).freezeA = s.freezeA := rfl
@[simp] theorem State.setPin_freezeB (t : TermId) (v : Bool) : (s.setPin t v).freezeB = s.freezeB := rfl
@[simp] theorem State.setPin_heat (t : TermId) (v : Bool) : (s.setPin t v).heat = s.heat := rfl
@[simp] theorem State.setPin_dev (t : TermId) (v : Bool) : (s.setPin t v).dev = s.dev := rfl
@[simp] theorem State.setPin_log (t : TermId) (v : Bool) : (s.setPin t v).log = s.log := rfl
@[simp] theorem State.setPin_terminals (t : TermId) (v : Bool) : (s.setPin t v).terminals = s.terminals := rfl
@[simp] theorem State.setPin_ports (t : TermId) (v : Bool) : (s.setPin t v).ports = s.ports := rfl
@[simp] theorem State.setPin_pinHigh (t : TermId) (v : Bool) : (s.setPin t v).pinHigh = s.pinHigh.set t v := rfl
@[simp] theorem State.setPin_pending (t : TermId) (v : Bool) : (s.setPin t v).pending = s.pending := rfl

/-! ### State.setParams -/

@[simp] theorem State.setParams_inReset (v : Params) : (s.setParams v).inReset = s.inReset := rfl
@[simp] theorem State.setParams_clock (v : Params) : (s.setParams v).clock = s.clock := rfl
@[simp] theorem State.setParams_subMs (v : Params) : (s.setParams v).subMs = s.subMs := rfl
@[simp] theorem State.setParams_params (v : Params) : (s.setParams v).params = v := rfl
@[simp] theorem State.setParams_plan (v : Params) : (s.setParams v).plan = s.plan := rfl
@[simp] theorem State.setParams_thermal (v : Params) : (s.setParams v).thermal = s.thermal := rfl
@[simp] theorem State.setParams_rails (v : Params) : (s.setParams v).rails = s.rails := rfl
@[simp] theorem State.setParams_heads (v : Params) : (s.setParams v).heads = s.heads := rfl
@[simp] theorem State.setParams_timers (v : Params) : (s.setParams v).timers = s.timers := rfl
@[simp] theorem State.setParams_freezeA (v : Params) : (s.setParams v).freezeA = s.freezeA := rfl
@[simp] theorem State.setParams_freezeB (v : Params) : (s.setParams v).freezeB = s.freezeB := rfl
@[simp] theorem State.setParams_heat (v : Params) : (s.setParams v).heat = s.heat := rfl
@[simp] theorem State.setParams_dev (v : Params) : (s.setParams v).dev = s.dev := rfl
@[simp] theorem State.setParams_log (v : Params) : (s.setParams v).log = s.log := rfl
@[simp] theorem State.setParams_terminals (v : Params) : (s.setParams v).terminals = s.terminals := rfl
@[simp] theorem State.setParams_ports (v : Params) : (s.setParams v).ports = s.ports := rfl
@[simp] theorem State.setParams_pinHigh (v : Params) : (s.setParams v).pinHigh = s.pinHigh := rfl
@[simp] theorem State.setParams_pending (v : Params) : (s.setParams v).pending = s.pending := rfl

/-! ### State.setPlan -/

@[simp] theorem State.setPlan_inReset (v : PlanStore) : (s.setPlan v).inReset = s.inReset := rfl
@[simp] theorem State.setPlan_clock (v : PlanStore) : (s.setPlan v).clock = s.clock := rfl
@[simp] theorem State.setPlan_subMs (v : PlanStore) : (s.setPlan v).subMs = s.subMs := rfl
@[simp] theorem State.setPlan_params (v : PlanStore) : (s.setPlan v).params = s.params := rfl
@[simp] theorem State.setPlan_plan (v : PlanStore) : (s.setPlan v).plan = v := rfl
@[simp] theorem State.setPlan_thermal (v : PlanStore) : (s.setPlan v).thermal = s.thermal := rfl
@[simp] theorem State.setPlan_rails (v : PlanStore) : (s.setPlan v).rails = s.rails := rfl
@[simp] theorem State.setPlan_heads (v : PlanStore) : (s.setPlan v).heads = s.heads := rfl
@[simp] theorem State.setPlan_timers (v : PlanStore) : (s.setPlan v).timers = s.timers := rfl
@[simp] theorem State.setPlan_freezeA (v : PlanStore) : (s.setPlan v).freezeA = s.freezeA := rfl
@[simp] theorem State.setPlan_freezeB (v : PlanStore) : (s.setPlan v).freezeB = s.freezeB := rfl
@[simp] theorem State.setPlan_heat (v : PlanStore) : (s.setPlan v).heat = s.heat := rfl
@[simp] theorem State.setPlan_dev (v : PlanStore) : (s.setPlan v).dev = s.dev := rfl
@[simp] theorem State.setPlan_log (v : PlanStore) : (s.setPlan v).log = s.log := rfl
@[simp] theorem State.setPlan_terminals (v : PlanStore) : (s.setPlan v).terminals = s.terminals := rfl
@[simp] theorem State.setPlan_ports (v : PlanStore) : (s.setPlan v).ports = s.ports := rfl
@[simp] theorem State.setPlan_pinHigh (v : PlanStore) : (s.setPlan v).pinHigh = s.pinHigh := rfl
@[simp] theorem State.setPlan_pending (v : PlanStore) : (s.setPlan v).pending = s.pending := rfl

/-! ### State.setThermal -/

@[simp] theorem State.setThermal_inReset (v : List Segment) : (s.setThermal v).inReset = s.inReset := rfl
@[simp] theorem State.setThermal_clock (v : List Segment) : (s.setThermal v).clock = s.clock := rfl
@[simp] theorem State.setThermal_subMs (v : List Segment) : (s.setThermal v).subMs = s.subMs := rfl
@[simp] theorem State.setThermal_params (v : List Segment) : (s.setThermal v).params = s.params := rfl
@[simp] theorem State.setThermal_plan (v : List Segment) : (s.setThermal v).plan = s.plan := rfl
@[simp] theorem State.setThermal_thermal (v : List Segment) : (s.setThermal v).thermal = v := rfl
@[simp] theorem State.setThermal_rails (v : List Segment) : (s.setThermal v).rails = s.rails := rfl
@[simp] theorem State.setThermal_heads (v : List Segment) : (s.setThermal v).heads = s.heads := rfl
@[simp] theorem State.setThermal_timers (v : List Segment) : (s.setThermal v).timers = s.timers := rfl
@[simp] theorem State.setThermal_freezeA (v : List Segment) : (s.setThermal v).freezeA = s.freezeA := rfl
@[simp] theorem State.setThermal_freezeB (v : List Segment) : (s.setThermal v).freezeB = s.freezeB := rfl
@[simp] theorem State.setThermal_heat (v : List Segment) : (s.setThermal v).heat = s.heat := rfl
@[simp] theorem State.setThermal_dev (v : List Segment) : (s.setThermal v).dev = s.dev := rfl
@[simp] theorem State.setThermal_log (v : List Segment) : (s.setThermal v).log = s.log := rfl
@[simp] theorem State.setThermal_terminals (v : List Segment) : (s.setThermal v).terminals = s.terminals := rfl
@[simp] theorem State.setThermal_ports (v : List Segment) : (s.setThermal v).ports = s.ports := rfl
@[simp] theorem State.setThermal_pinHigh (v : List Segment) : (s.setThermal v).pinHigh = s.pinHigh := rfl
@[simp] theorem State.setThermal_pending (v : List Segment) : (s.setThermal v).pending = s.pending := rfl

/-! ### State.setRails -/

@[simp] theorem State.setRails_inReset (v : RailMap) : (s.setRails v).inReset = s.inReset := rfl
@[simp] theorem State.setRails_clock (v : RailMap) : (s.setRails v).clock = s.clock := rfl
@[simp] theorem State.setRails_subMs (v : RailMap) : (s.setRails v).subMs = s.subMs := rfl
@[simp] theorem State.setRails_params (v : RailMap) : (s.setRails v).params = s.params := rfl
@[simp] theorem State.setRails_plan (v : RailMap) : (s.setRails v).plan = s.plan := rfl
@[simp] theorem State.setRails_thermal (v : RailMap) : (s.setRails v).thermal = s.thermal := rfl
@[simp] theorem State.setRails_rails (v : RailMap) : (s.setRails v).rails = v := rfl
@[simp] theorem State.setRails_heads (v : RailMap) : (s.setRails v).heads = s.heads := rfl
@[simp] theorem State.setRails_timers (v : RailMap) : (s.setRails v).timers = s.timers := rfl
@[simp] theorem State.setRails_freezeA (v : RailMap) : (s.setRails v).freezeA = s.freezeA := rfl
@[simp] theorem State.setRails_freezeB (v : RailMap) : (s.setRails v).freezeB = s.freezeB := rfl
@[simp] theorem State.setRails_heat (v : RailMap) : (s.setRails v).heat = s.heat := rfl
@[simp] theorem State.setRails_dev (v : RailMap) : (s.setRails v).dev = s.dev := rfl
@[simp] theorem State.setRails_log (v : RailMap) : (s.setRails v).log = s.log := rfl
@[simp] theorem State.setRails_terminals (v : RailMap) : (s.setRails v).terminals = s.terminals := rfl
@[simp] theorem State.setRails_ports (v : RailMap) : (s.setRails v).ports = s.ports := rfl
@[simp] theorem State.setRails_pinHigh (v : RailMap) : (s.setRails v).pinHigh = s.pinHigh := rfl
@[simp] theorem State.setRails_pending (v : RailMap) : (s.setRails v).pending = s.pending := rfl

/-! ### State.setHeat -/

@[simp] theorem State.setHeat_inReset (v : HeatQueue) : (s.setHeat v).inReset = s.inReset := rfl
@[simp] theorem State.setHeat_clock (v : HeatQueue) : (s.setHeat v).clock = s.clock := rfl
@[simp] theorem State.setHeat_subMs (v : HeatQueue) : (s.setHeat v).subMs = s.subMs := rfl
@[simp] theorem State.setHeat_params (v : HeatQueue) : (s.setHeat v).params = s.params := rfl
@[simp] theorem State.setHeat_plan (v : HeatQueue) : (s.setHeat v).plan = s.plan := rfl
@[simp] theorem State.setHeat_thermal (v : HeatQueue) : (s.setHeat v).thermal = s.thermal := rfl
@[simp] theorem State.setHeat_rails (v : HeatQueue) : (s.setHeat v).rails = s.rails := rfl
@[simp] theorem State.setHeat_heads (v : HeatQueue) : (s.setHeat v).heads = s.heads := rfl
@[simp] theorem State.setHeat_timers (v : HeatQueue) : (s.setHeat v).timers = s.timers := rfl
@[simp] theorem State.setHeat_freezeA (v : HeatQueue) : (s.setHeat v).freezeA = s.freezeA := rfl
@[simp] theorem State.setHeat_freezeB (v : HeatQueue) : (s.setHeat v).freezeB = s.freezeB := rfl
@[simp] theorem State.setHeat_heat (v : HeatQueue) : (s.setHeat v).heat = v := rfl
@[simp] theorem State.setHeat_dev (v : HeatQueue) : (s.setHeat v).dev = s.dev := rfl
@[simp] theorem State.setHeat_log (v : HeatQueue) : (s.setHeat v).log = s.log := rfl
@[simp] theorem State.setHeat_terminals (v : HeatQueue) : (s.setHeat v).terminals = s.terminals := rfl
@[simp] theorem State.setHeat_ports (v : HeatQueue) : (s.setHeat v).ports = s.ports := rfl
@[simp] theorem State.setHeat_pinHigh (v : HeatQueue) : (s.setHeat v).pinHigh = s.pinHigh := rfl
@[simp] theorem State.setHeat_pending (v : HeatQueue) : (s.setHeat v).pending = s.pending := rfl

/-! ### State.setDev -/

@[simp] theorem State.setDev_inReset (v : DeviationUnit) : (s.setDev v).inReset = s.inReset := rfl
@[simp] theorem State.setDev_clock (v : DeviationUnit) : (s.setDev v).clock = s.clock := rfl
@[simp] theorem State.setDev_subMs (v : DeviationUnit) : (s.setDev v).subMs = s.subMs := rfl
@[simp] theorem State.setDev_params (v : DeviationUnit) : (s.setDev v).params = s.params := rfl
@[simp] theorem State.setDev_plan (v : DeviationUnit) : (s.setDev v).plan = s.plan := rfl
@[simp] theorem State.setDev_thermal (v : DeviationUnit) : (s.setDev v).thermal = s.thermal := rfl
@[simp] theorem State.setDev_rails (v : DeviationUnit) : (s.setDev v).rails = s.rails := rfl
@[simp] theorem State.setDev_heads (v : DeviationUnit) : (s.setDev v).heads = s.heads := rfl
@[simp] theorem State.setDev_timers (v : DeviationUnit) : (s.setDev v).timers = s.timers := rfl
@[simp] theorem State.setDev_freezeA (v : DeviationUnit) : (s.setDev v).freezeA = s.freezeA := rfl
@[simp] theorem State.setDev_freezeB (v : DeviationUnit) : (s.setDev v).freezeB = s.freezeB := rfl
@[simp] theorem State.setDev_heat (v : DeviationUnit) : (s.setDev v).heat = s.heat := rfl
@[simp] theorem State.setDev_dev (v : DeviationUnit) : (s.setDev v).dev = v := rfl
@[simp] theorem State.setDev_log (v : DeviationUnit) : (s.setDev v).log = s.log := rfl
@[simp] theorem State.setDev_terminals (v : DeviationUnit) : (s.setDev v).terminals = s.terminals := rfl
@[simp] theorem State.setDev_ports (v : DeviationUnit) : (s.setDev v).ports = s.ports := rfl
@[simp] theorem State.setDev_pinHigh (v : DeviationUnit) : (s.setDev v).pinHigh = s.pinHigh := rfl
@[simp] theorem State.setDev_pending (v : DeviationUnit) : (s.setDev v).pending = s.pending := rfl

/-! ### State.setLog -/

@[simp] theorem State.setLog_inReset (v : CompletionLog) : (s.setLog v).inReset = s.inReset := rfl
@[simp] theorem State.setLog_clock (v : CompletionLog) : (s.setLog v).clock = s.clock := rfl
@[simp] theorem State.setLog_subMs (v : CompletionLog) : (s.setLog v).subMs = s.subMs := rfl
@[simp] theorem State.setLog_params (v : CompletionLog) : (s.setLog v).params = s.params := rfl
@[simp] theorem State.setLog_plan (v : CompletionLog) : (s.setLog v).plan = s.plan := rfl
@[simp] theorem State.setLog_thermal (v : CompletionLog) : (s.setLog v).thermal = s.thermal := rfl
@[simp] theorem State.setLog_rails (v : CompletionLog) : (s.setLog v).rails = s.rails := rfl
@[simp] theorem State.setLog_heads (v : CompletionLog) : (s.setLog v).heads = s.heads := rfl
@[simp] theorem State.setLog_timers (v : CompletionLog) : (s.setLog v).timers = s.timers := rfl
@[simp] theorem State.setLog_freezeA (v : CompletionLog) : (s.setLog v).freezeA = s.freezeA := rfl
@[simp] theorem State.setLog_freezeB (v : CompletionLog) : (s.setLog v).freezeB = s.freezeB := rfl
@[simp] theorem State.setLog_heat (v : CompletionLog) : (s.setLog v).heat = s.heat := rfl
@[simp] theorem State.setLog_dev (v : CompletionLog) : (s.setLog v).dev = s.dev := rfl
@[simp] theorem State.setLog_log (v : CompletionLog) : (s.setLog v).log = v := rfl
@[simp] theorem State.setLog_terminals (v : CompletionLog) : (s.setLog v).terminals = s.terminals := rfl
@[simp] theorem State.setLog_ports (v : CompletionLog) : (s.setLog v).ports = s.ports := rfl
@[simp] theorem State.setLog_pinHigh (v : CompletionLog) : (s.setLog v).pinHigh = s.pinHigh := rfl
@[simp] theorem State.setLog_pending (v : CompletionLog) : (s.setLog v).pending = s.pending := rfl

/-! ### State.setFreeze -/

@[simp] theorem State.setFreeze_inReset (a b : Bool) : (s.setFreeze a b).inReset = s.inReset := rfl
@[simp] theorem State.setFreeze_clock (a b : Bool) : (s.setFreeze a b).clock = s.clock := rfl
@[simp] theorem State.setFreeze_subMs (a b : Bool) : (s.setFreeze a b).subMs = s.subMs := rfl
@[simp] theorem State.setFreeze_params (a b : Bool) : (s.setFreeze a b).params = s.params := rfl
@[simp] theorem State.setFreeze_plan (a b : Bool) : (s.setFreeze a b).plan = s.plan := rfl
@[simp] theorem State.setFreeze_thermal (a b : Bool) : (s.setFreeze a b).thermal = s.thermal := rfl
@[simp] theorem State.setFreeze_rails (a b : Bool) : (s.setFreeze a b).rails = s.rails := rfl
@[simp] theorem State.setFreeze_heads (a b : Bool) : (s.setFreeze a b).heads = s.heads := rfl
@[simp] theorem State.setFreeze_timers (a b : Bool) : (s.setFreeze a b).timers = s.timers := rfl
@[simp] theorem State.setFreeze_freezeA (a b : Bool) : (s.setFreeze a b).freezeA = a := rfl
@[simp] theorem State.setFreeze_freezeB (a b : Bool) : (s.setFreeze a b).freezeB = b := rfl
@[simp] theorem State.setFreeze_heat (a b : Bool) : (s.setFreeze a b).heat = s.heat := rfl
@[simp] theorem State.setFreeze_dev (a b : Bool) : (s.setFreeze a b).dev = s.dev := rfl
@[simp] theorem State.setFreeze_log (a b : Bool) : (s.setFreeze a b).log = s.log := rfl
@[simp] theorem State.setFreeze_terminals (a b : Bool) : (s.setFreeze a b).terminals = s.terminals := rfl
@[simp] theorem State.setFreeze_ports (a b : Bool) : (s.setFreeze a b).ports = s.ports := rfl
@[simp] theorem State.setFreeze_pinHigh (a b : Bool) : (s.setFreeze a b).pinHigh = s.pinHigh := rfl
@[simp] theorem State.setFreeze_pending (a b : Bool) : (s.setFreeze a b).pending = s.pending := rfl

end Sys2Proof.Machine
end

