-- ==== Sys2Proof/Laws/Operations.lean ====
section
/-! SUPPORT. What the shared operations over the reservation lists, the hole records and the log can
do. -/

namespace Sys2Proof.Machine

/-! ### Reservation lists (R45, R53, R56) -/

@[simp] theorem mem_insertEntry {x e : Entry} {l : List Entry} :
    x ∈ insertEntry e l ↔ x = e ∨ x ∈ l := by
  induction l with
  | nil => simp [insertEntry]
  | cons y l ih =>
    unfold insertEntry
    split
    · simp
    · simp only [List.mem_cons, ih]
      constructor
      · rintro (h | h | h) <;> simp [h]
      · rintro (h | h | h) <;> simp [h]

@[simp] theorem mem_removeOwner {x : Entry} {o : Owner} {l : List Entry} :
    x ∈ removeOwner o l ↔ x ∈ l ∧ x.owner ≠ o := by
  simp [removeOwner]

/-- The entries after one is placed: the new one, and those of other owners. -/
@[simp] theorem mem_placeEntry {x e : Entry} {l : List Entry} :
    x ∈ placeEntry e l ↔ x = e ∨ (x ∈ l ∧ x.owner ≠ e.owner) := by
  simp [placeEntry]

/-- An entry that meets no other keeps a list in order when it is placed by its lower bound. -/
theorem pairwise_insertEntry {e : Entry} {l : List Entry} (he : e.lo < e.hi)
    (hl : l.Pairwise (fun a b => a.hi ≤ b.lo)) (hp : ∀ x ∈ l, x.lo < x.hi)
    (hc : ∀ x ∈ l, x.hi ≤ e.lo ∨ e.hi ≤ x.lo) :
    (insertEntry e l).Pairwise (fun a b => a.hi ≤ b.lo) := by
  induction l with
  | nil => simp [insertEntry]
  | cons y l ih =>
    rw [List.pairwise_cons] at hl
    have hy := hp y (by simp)
    have hcy := hc y (by simp)
    unfold insertEntry
    split
    · rename_i hlt
      refine List.pairwise_cons.2 ⟨?_, List.pairwise_cons.2 ⟨hl.1, hl.2⟩⟩
      intro x hx
      rcases List.mem_cons.1 hx with rfl | hx
      · omega
      · have := hl.1 x hx
        omega
    · rename_i hge
      refine List.pairwise_cons.2 ⟨?_, ih hl.2 (fun x hx => hp x (by simp [hx]))
        (fun x hx => hc x (by simp [hx]))⟩
      intro x hx
      rcases mem_insertEntry.1 hx with rfl | hx
      · omega
      · exact hl.1 x hx

theorem pairwise_removeOwner {o : Owner} {l : List Entry}
    (hl : l.Pairwise (fun a b => a.hi ≤ b.lo)) :
    (removeOwner o l).Pairwise (fun a b => a.hi ≤ b.lo) := hl.filter _

@[simp] theorem RailMap.list_setList_self (m : RailMap) (r : Rail) (l : List Entry) :
    (m.setList r l).list r = l := by cases r <;> rfl

theorem RailMap.list_setList_other (m : RailMap) {r r' : Rail} (h : r' ≠ r) (l : List Entry) :
    (m.setList r l).list r' = m.list r' := by
  cases r <;> cases r' <;> first | rfl | exact absurd rfl h

/-! ### One hole's record (R10, R11) -/

theorem PlanStore.hole?_changeHole_self (p : PlanStore) (i : Nat) (f : Hole → Hole) :
    (p.changeHole i f).hole? i = (p.hole? i).map f := by
  unfold PlanStore.changeHole
  cases h : p.hole? i with
  | none => simp [h]
  | some x =>
    have hi : i < p.holes.length := by
      by_contra hn
      simp [PlanStore.hole?, List.getElem?_eq_none (Nat.le_of_not_lt hn)] at h
    simp only
    split <;> simp [PlanStore.hole?, hi]

theorem PlanStore.hole?_changeHole_other (p : PlanStore) {i j : Nat} (f : Hole → Hole)
    (h : j ≠ i) : (p.changeHole i f).hole? j = p.hole? j := by
  unfold PlanStore.changeHole
  split
  · rfl
  · simp only
    split <;> simp [PlanStore.hole?, List.getElem?_set_ne h.symm]

/-- A change of a hole's record leaves the rest of the Plan Store but the joints and counters. -/
theorem PlanStore.changeHole_eq (p : PlanStore) (i : Nat) (f : Hole → Hole) :
    p.changeHole i f = { p with
      holes := (p.changeHole i f).holes
      joints := (p.changeHole i f).joints
      counters := (p.changeHole i f).counters } := by
  unfold PlanStore.changeHole
  split
  · rfl
  · simp only
    split <;> rfl

/-- The completion test changes the frame state at most. -/
theorem PlanStore.testComplete_eq (p : PlanStore) :
    p.testComplete = { p with state := p.testComplete.state } := by
  unfold PlanStore.testComplete
  split <;> rfl

/-! ### The heads -/

/-- A status is written to an attached head and changes nothing else. -/
theorem State.setStatus_eq (s : State) (h : Slot) (st : HeadStatus) :
    s.setStatus h st =
      { s with heads := s.heads.set h (s.heads[h].map (fun hd => { hd with status := st })) } := by
  unfold State.setStatus
  cases e : s.heads[h] with
  | none =>
    simp only [Option.map_none]
    have : s.heads.set h none = s.heads := by
      rw [← e]; simp
    rw [this]
  | some hd => rfl

/-! ### The log (R138, R145) -/

/-- A record joins the log's end under the counter's number, and the counter rises. -/
theorem State.writeLog_log (s : State) (hole : Nat) (event : LogEvent) (accepted : Bool) :
    (s.writeLog hole event accepted).log = { s.log with
      records := s.log.records ++
        [{ sequence := s.log.sequence, hole := hole, event := event, accepted := accepted,
           time := s.clock }]
      sequence := s.log.sequence + 1 } := by
  unfold State.writeLog
  simp only
  split
  · unfold State.makePending
    split <;> rfl
  · rfl

/-- Writing the log changes the log and the supervisor's pending set at most. -/
theorem State.writeLog_eq (s : State) (hole : Nat) (event : LogEvent) (accepted : Bool) :
    s.writeLog hole event accepted = { s with
      log := (s.writeLog hole event accepted).log
      ports := (s.writeLog hole event accepted).ports } := by
  unfold State.writeLog
  simp only
  split
  · unfold State.makePending
    split <;> rfl
  · rfl

end Sys2Proof.Machine
end

