-- ==== Sys2Proof/Laws/Taking.lean ====
section
/-! SUPPORT. What a taking can do: when it takes place, what it leaves, and what sending notices changes.
The meanings of all commands go through these operations. -/

namespace Sys2Proof.Machine

variable {s t : State} {p : PortId}

/-! ### Rows of ports -/

@[simp] theorem repliedPorts_self (ports : Vector Port 10) (p : PortId) (kind : Byte) (r : Reply) :
    (repliedPorts ports p kind r)[p.val] =
      { ports[p] with
        receiveQueue := ports[p].receiveQueue.tail ++ ports[p].waiting.toList
        waiting := none
        transmitQueue := ports[p].transmitQueue ++ [.reply kind r] } := by
  simp [repliedPorts]

theorem repliedPorts_other {ports : Vector Port 10} {p q : PortId} {kind : Byte} {r : Reply}
    (h : q ≠ p) : (repliedPorts ports p kind r)[q] = ports[q] := by
  have : p.val ≠ q.val := fun e => h (Fin.ext e.symm)
  simp [repliedPorts, this]

/-! ### The frame of a notice -/

/-- Sending a notice from one port changes that port's transmit queue and pending set, and nothing
else. -/
theorem State.sendNotice_eq (s : State) (p : PortId) :
    s.sendNotice p = { s with ports := (s.sendNotice p).ports } := by
  unfold State.sendNotice
  split
  · cases s.firstPending p <;> rfl
  · rfl

/-- A port with frames to send, or with no notice, is left as it stands. -/
theorem State.sendNotice_of_settled (s : State) (p : PortId)
    (h : s.ports[p].transmitQueue = [] → s.ports[p].notices = []) : s.sendNotice p = s := by
  unfold State.sendNotice State.firstPending
  by_cases e : s.ports[p].transmitQueue = []
  · have hn := h e
    have hf : ∀ l : List NoticeKind, l.find? (fun k => s.ports[p].notices.contains k) = none := by
      intro l; rw [hn]; simp
    rw [if_pos (by rw [e]; rfl), hf]
  · have : s.ports[p.val].transmitQueue ≠ [] := e
    simp [this]

/-- Where no notice may be sent, none is. -/
theorem State.sendNotices_of_settled (h : s.settled) : s.sendNotices = s := by
  unfold State.sendNotices
  have : ∀ l : List (Fin 10), l.foldl State.sendNotice s = s := by
    intro l
    induction l with
    | nil => rfl
    | cons q l ih => simpa [State.sendNotice_of_settled s q (h q)] using ih
  exact this _

/-- Sending notices changes ports alone. -/
theorem State.sendNotices_eq (s : State) : s.sendNotices = { s with ports := s.sendNotices.ports } := by
  unfold State.sendNotices
  have : ∀ (l : List (Fin 10)) (a : State), l.foldl State.sendNotice a
      = { a with ports := (l.foldl State.sendNotice a).ports } := by
    intro l
    induction l with
    | nil => intro a; rfl
    | cons q l ih =>
      intro a
      have h1 := ih (a.sendNotice q)
      have h2 := State.sendNotice_eq a q
      simp only [List.foldl_cons]
      rw [h1, h2]
  exact this _ s

/-! ### Taking a message -/

theorem takeMessage_taken {kind : Byte} {payload : List Byte} {rule : State → Taken}
    (h : s.takes p ⟨kind, payload⟩ = true) :
    takeMessage p kind payload rule s = .next (s.afterTaking p ⟨kind, payload⟩ rule) := by
  simp [takeMessage, h]

theorem takeMessage_not_taken {kind : Byte} {payload : List Byte} {rule : State → Taken}
    (h : s.takes p ⟨kind, payload⟩ = false) :
    takeMessage p kind payload rule s = .next s := by
  simp [takeMessage, h]

/-- A taking of a message leaves the state as it was, or takes the message at the head of the queue. -/
theorem takeMessage_cases {kind : Byte} {payload : List Byte} {rule : State → Taken}
    (h : takeMessage p kind payload rule s = .next t) :
    t = s ∨ (s.takes p ⟨kind, payload⟩ = true ∧ t = s.afterTaking p ⟨kind, payload⟩ rule) := by
  unfold takeMessage at h
  split at h
  · exact .inr ⟨‹_›, (Host.Outcome.next.inj h).symm⟩
  · exact .inl ((Host.Outcome.next.inj h).symm)

/-- An event that is not due, or comes while RESET_N is low, leaves the state as it was; one that is due
has its effect, and notices are sent. -/
theorem takeEvent_cases {due : Bool} {effect : State → State}
    (h : takeEvent due effect s = .next t) :
    t = s ∨ (s.inReset = false ∧ due = true ∧ t = (effect s).sendNotices) := by
  unfold takeEvent at h
  split at h
  · rename_i hc
    simp at hc
    exact .inr ⟨hc.1, hc.2, (Host.Outcome.next.inj h).symm⟩
  · exact .inl ((Host.Outcome.next.inj h).symm)

theorem takeEvent_due {due : Bool} {effect : State → State} (hr : s.inReset = false)
    (hd : due = true) : takeEvent due effect s = .next (effect s).sendNotices := by
  simp [takeEvent, hr, hd]

theorem takeEvent_not_due {due : Bool} {effect : State → State} (hd : due = false) :
    takeEvent due effect s = .next s := by
  simp [takeEvent, hd]

/-- A message of a known kind with the right length is handed to the owning block. -/
theorem judgeMessage_passed {m : Message} {rule : State → Taken} (hk : kindKnown p m.kind = true)
    (hl : lengthFits p m.kind m.payload = true) : judgeMessage p m rule s = rule s := by
  simp [judgeMessage, hk, hl]

/-- The reply to a message keeps every port settled when the rule changed no port. -/
theorem settled_replied (hs : s.settled) (kind : Byte) (r : Reply) (t : State)
    (ht : t.ports = repliedPorts s.ports p kind r) : t.settled := by
  intro q
  rw [ht]
  by_cases e : q = p
  · subst e; rw [Fin.getElem_fin, repliedPorts_self]; simp
  · rw [repliedPorts_other e]; exact hs q

/-- A message whose rule changes no port: it is answered, and no notice is sent. -/
theorem takeMessage_answered {kind : Byte} {payload : List Byte} {rule : State → Taken} {s' : State}
    {r : Reply} (hs : s.settled) (ht : s.takes p ⟨kind, payload⟩ = true)
    (hk : kindKnown p kind = true) (hl : lengthFits p kind payload = true)
    (hr : rule (s.setPort p s.ports[p].dequeue) = (s', r))
    (hp : s'.ports = s.ports.set p s.ports[p].dequeue) :
    takeMessage p kind payload rule s =
      .next { s' with ports := repliedPorts s.ports p kind r } := by
  have hports : (s'.appendReply p kind r).ports = repliedPorts s.ports p kind r := by
    simp [State.appendReply, repliedPorts, hp, Port.dequeue]
  have hset : (s'.appendReply p kind r).settled := settled_replied hs kind r _ hports
  rw [takeMessage_taken ht]
  unfold State.afterTaking
  rw [judgeMessage_passed hk hl, hr]
  simp only
  rw [State.sendNotices_of_settled hset]
  congr 1
  rw [← hports]
  rfl

end Sys2Proof.Machine
end

