-- ==== Sys2Proof/Laws/Ports.lean ====
section
/-! SUPPORT. What making a notice pending and sending notices can do to a port, when the length check of
a link passes, and what a completed taking leaves. -/

namespace Sys2Proof.Machine

variable {s s' : State} {p q : PortId} {kind : Byte} {b : List Byte}

/-! ### The length check (R171, R180) -/

theorem lengthFits_supervisor {n : Nat} (hm : (kind, n) ∈ supervisorCatalogue)
    (hl : b.length = n) : lengthFits supervisorPort kind b = true := by
  have h1 : ∀ x ∈ supervisorCatalogue, x.1 ≠ kindTermAck := by decide
  have h2 : (kind == kindTermAck) = false := by simpa using h1 _ hm
  unfold lengthFits
  rw [h2]
  simp only [Bool.false_and, Bool.false_eq_true, if_false, List.any_eq_true]
  exact ⟨_, hm, by simp [hl]⟩

theorem lengthFits_heater {n : Nat} (hm : (kind, n) ∈ heaterCatalogue)
    (hl : b.length = n) : lengthFits heaterPort kind b = true := by
  have h1 : ∀ x ∈ heaterCatalogue, x.1 ≠ kindTermAck := by decide
  have h2 : (kind == kindTermAck) = false := by simpa using h1 _ hm
  unfold lengthFits
  rw [h2]
  simp only [Bool.false_and, Bool.false_eq_true, if_false, List.any_eq_true]
  exact ⟨_, hm, by simp [hl]⟩

theorem lengthFits_head (h : Slot) {n : Nat} (hm : (kind, n) ∈ headCatalogue)
    (hl : b.length = n) : lengthFits (headPort h) kind b = true := by
  have h0 : roleOf (headPort h) = .head := by revert h; decide
  have h1 : ∀ x ∈ headCatalogue, x.1 ≠ kindTermAck := by decide
  have h2 : (kind == kindTermAck) = false := by simpa using h1 _ hm
  unfold lengthFits
  rw [h2, h0]
  simp only [Bool.false_and, Bool.false_eq_true, if_false, List.any_eq_true]
  exact ⟨_, hm, by simp [hl]⟩

theorem kindKnown_head (h : Slot) (hm : kind ∈ headCatalogue.map Prod.fst) :
    kindKnown (headPort h) kind = true := by
  have h0 : roleOf (headPort h) = .head := by revert h; decide
  unfold kindKnown
  rw [h0]
  obtain ⟨x, hx, rfl⟩ := List.mem_map.1 hm
  simp only [Bool.or_eq_true, List.any_eq_true]
  exact .inl ⟨x, hx, by simp⟩

/-! ### Making a notice pending (R173) -/

/-- Making a notice pending changes ports alone, and that as the word for it says. -/
theorem State.makePending_eq (s : State) (p : PortId) (k : NoticeKind) :
    s.makePending p k = { s with ports := pendedPorts s.ports p k } := by
  unfold State.makePending pendedPorts
  by_cases h : k ∈ s.ports[p].notices
  · have hc : s.ports[p].notices.contains k = true := by simpa using h
    rw [if_pos hc, if_pos h]
    have e : s.ports.set p s.ports[p] = s.ports := by simp
    exact congrArg (fun v => { s with ports := v }) e.symm
  · have hc : ¬ s.ports[p].notices.contains k = true := by simpa using h
    rw [if_neg hc, if_neg h]
    rfl

theorem State.makePending_announced (s : State) (p : PortId) (k : NoticeKind) :
    (s.makePending p k).announced p k := by
  left
  unfold State.makePending
  split
  · rename_i h; simpa using h
  · simp [State.setPort]

/-! ### Sending notices (R173) -/

theorem State.sendNotice_other (s : State) (h : q ≠ p) : (s.sendNotice p).ports[q] = s.ports[q] := by
  unfold State.sendNotice
  split
  · split
    · rfl
    · have : p.val ≠ q.val := fun e => h (Fin.ext e.symm)
      simp [State.setPort, this]
  · rfl

theorem State.sendNotice_self (s : State) (p : PortId) : (s.sendNotice p).ports[p] =
    { s.ports[p] with
      transmitQueue := (s.sendNotice p).ports[p].transmitQueue
      notices := (s.sendNotice p).ports[p].notices } := by
  unfold State.sendNotice
  split
  · split
    · rfl
    · simp [State.setPort]
  · rfl

/-- A port sends nothing, or one notice from an empty transmit queue. -/
theorem State.sendNotice_queue (s : State) (p : PortId) :
    (s.sendNotice p).ports[p].transmitQueue = s.ports[p].transmitQueue ∨
      s.ports[p].transmitQueue = [] ∧
        ∃ n : Notice, (s.sendNotice p).ports[p].transmitQueue = [.notice n] := by
  unfold State.sendNotice
  split
  · rename_i h
    split
    · exact .inl rfl
    · rename_i k _
      exact .inr ⟨by simpa using h, s.buildNotice p k, by simp [State.setPort]⟩
  · exact .inl rfl

/-- Sending notices changes of a port its pending set at most, and sends at most one notice, from an empty
transmit queue. -/
theorem State.sendNotices_port (s : State) (q : PortId) :
    NoticesOnly s.ports[q] s.sendNotices.ports[q] := by
  unfold State.sendNotices
  generalize indices 10 = l
  induction l generalizing s with
  | nil => exact ⟨rfl, .inl rfl⟩
  | cons p l ih =>
    simp only [List.foldl_cons]
    obtain ⟨h1, h2⟩ := ih (s.sendNotice p)
    by_cases e : q = p
    · subst e
      refine ⟨?_, ?_⟩
      · rw [h1, State.sendNotice_self]
      · rcases State.sendNotice_queue s q with hq | ⟨h0, n, hn⟩
        · rw [hq] at h2; exact h2
        · refine .inr ⟨h0, ?_⟩
          rcases h2 with h2 | ⟨h2, _⟩
          · exact ⟨n, h2.trans hn⟩
          · rw [hn] at h2; simp at h2
    · rw [State.sendNotice_other _ e] at h1 h2
      exact ⟨h1, h2⟩

/-- A port that has frames to send, or no notice, is left alone. -/
theorem State.sendNotices_keep (h : s.ports[q].transmitQueue = [] → s.ports[q].notices = []) :
    s.sendNotices.ports[q] = s.ports[q] := by
  unfold State.sendNotices
  generalize indices 10 = l
  have : ∀ a : State, a.ports[q] = s.ports[q] →
      (l.foldl State.sendNotice a).ports[q] = s.ports[q] := by
    induction l with
    | nil => intro a ha; exact ha
    | cons p l ih =>
      intro a ha
      refine ih _ ?_
      by_cases e : q = p
      · subst e; rw [State.sendNotice_of_settled _ _ (by rw [ha]; exact h)]; exact ha
      · rw [State.sendNotice_other _ e]; exact ha
  exact this s rfl

theorem State.announced_sendNotice (s : State) (p q : PortId) {k : NoticeKind}
    (h : s.announced q k) : (s.sendNotice p).announced q k := by
  by_cases e : q = p
  · subst e
    unfold State.sendNotice
    split
    · rename_i ht
      split
      · exact h
      · rename_i k' _
        have ht' : s.ports[q].transmitQueue = [] := by simpa using ht
        rcases h with h | ⟨n, hn, _⟩
        · by_cases ek : k = k'
          · subst ek
            right
            refine ⟨s.buildNotice q k, by simp [State.setPort], ?_⟩
            cases k <;> simp only [State.buildNotice] <;> (try rfl)
            split <;> rfl
          · left
            simp [State.setPort, ek]; exact h
        · rw [ht'] at hn; simp at hn
    · exact h
  · unfold State.announced at *
    rw [State.sendNotice_other _ e]; exact h

/-- A notice pending or sent stays so through the sending. -/
theorem State.announced_sendNotices {k : NoticeKind} (h : s.announced q k) :
    s.sendNotices.announced q k := by
  unfold State.sendNotices
  generalize indices 10 = l
  induction l generalizing s with
  | nil => exact h
  | cons p l ih => exact ih (State.announced_sendNotice _ _ _ h)

/-! ### A completed taking (R171, R172) -/

/-- A taking whose two link checks pass: the rule's result, its reply appended, then the notices. -/
theorem takeMessage_ruled {rule : State → Taken} {r : Reply}
    (ht : s.takes p ⟨kind, b⟩ = true) (hk : kindKnown p kind = true)
    (hl : lengthFits p kind b = true) (hr : rule (s.setPort p s.ports[p].dequeue) = (s', r)) :
    takeMessage p kind b rule s = .next (s'.appendReply p kind r).sendNotices := by
  rw [takeMessage_taken ht]
  unfold State.afterTaking
  rw [judgeMessage_passed hk hl, hr]

/-- A rule that changes ports at most in their pending sets leaves its message answered. -/
theorem answeredAt_of_rule {r : Reply}
    (hp : ∀ q : PortId, s'.ports[q] =
      { (s.ports.set p s.ports[p].dequeue)[q] with notices := s'.ports[q].notices }) :
    AnsweredAt s (s'.appendReply p kind r).sendNotices p kind r := by
  have key : ∀ q : PortId, q ≠ p → (s'.appendReply p kind r).ports[q] = s'.ports[q] := by
    intro q hq
    have : p.val ≠ q.val := fun e => hq (Fin.ext e.symm)
    simp [State.appendReply, State.setPort, this]
  refine ⟨?_, ?_⟩
  · have h1 : (s'.appendReply p kind r).ports[p] =
        { s'.ports[p] with transmitQueue := s'.ports[p].transmitQueue ++ [.reply kind r] } := by
      simp [State.appendReply, State.setPort]
    rw [State.sendNotices_keep (q := p) (by rw [h1]; simp), h1, hp p]
    simp [repliedPorts, Port.dequeue]
  · intro q hq
    have ne : p.val ≠ q.val := fun e => hq (Fin.ext e.symm)
    obtain ⟨h1, h2⟩ := State.sendNotices_port (s'.appendReply p kind r) q
    rw [key q hq, hp q] at h1 h2
    simp only [Vector.getElem_set, Fin.getElem_fin, ne, if_false] at h1 h2
    exact ⟨h1, h2⟩

end Sys2Proof.Machine
end

