-- ==== Sys2Proof/Tests/Slice0.lean ====
section
/-! SUPPORT. Small tests of single steps, their expected results taken from the manual's worked examples
and tables, a smoke test of WellFormed, and for each statement of Certificates/Slice0 a concrete state that
meets its hypotheses. -/

namespace Sys2Proof.Tests

open Sys2Proof Sys2Proof.Machine

/-! ### Small states -/

/-- The state of an outcome; every outcome of this machine is a next state. -/
def after : Host.Outcome State Fault Refusal → State
  | .next s => s
  | _ => State.reset

/-- One message stands at the head of a port's receive queue. -/
def withMessage (s : State) (p : PortId) (kind : Byte) (payload : List Byte) : State :=
  s.setPort p { s.ports[p] with receiveQueue := [⟨kind, payload⟩] }

/-- The last frame of a port's transmit queue. -/
def lastFrame (s : State) (p : PortId) : Option TxFrame := s.ports[p].transmitQueue.getLast?

/-- A probe that is OK at a temperature. -/
def probeAt (v : Int) : Terminal :=
  { Terminal.powerOn with mode := .probeIn, function := .probe, probeOk := true, probeValue := some v }

/-- A switch input of a function, at a level. -/
def switchAt (f : TermFunction) (level : Bool) : Terminal :=
  { Terminal.powerOn with mode := .switchIn, function := f, edge := .both, level := level }

/-- A planned hole of joint 0, tier 0, class 3, on rail A. -/
def plannedAt (x : Int) : Hole := Hole.planned 0 0 .A x 500 2 3800

/-- The frame of section 2.4 with the holes of its two calculations, WORKING. -/
def frame : PlanStore where
  state := .working
  header := some ⟨77, 3, 1, 4, 1, 900000⟩
  jd := some 905437
  holes := [some (plannedAt 1650000), some (plannedAt 300000), some (plannedAt 900000)]
  joints := [⟨[0, 1, 2], 0, 0, ⟨#[3, 0, 0, 0], rfl⟩⟩]
  segments := [some ⟨0, 500000, 1⟩, some ⟨500000, 1000000, 2⟩, some ⟨1000000, 1500000, 3⟩,
    some ⟨1500000, 2000000, 4⟩]
  bays := [some ⟨0, 2000000⟩]
  counters := ⟨4, 1, 3, ⟨#[3, 0, 0, 0, 0, 0, 0], rfl⟩, 0, 0, 0, 1⟩

/-- The segments of section 2.4, all LIVE. -/
def segments : List Segment :=
  [⟨0, 500000, 1, .live 320⟩, ⟨500000, 1000000, 2, .live 415⟩, ⟨1000000, 1500000, 3, .live 470⟩,
   ⟨1500000, 2000000, 4, .live 380⟩]

/-- The line with the frame of section 2.4: the clamp of bay 0 on terminal 0, probes on 1 to 4, and a
plain switch on 5. -/
def line : State :=
  { State.reset with
    clock := 500000
    plan := frame
    thermal := segments
    terminals := (((((State.reset.terminals.set 0 (switchAt (.clampBay 0) true)).set 1 (probeAt 320)).set 2
      (probeAt 415)).set 3 (probeAt 470)).set 4 (probeAt 380)).set 5 (switchAt .plain false) }

/-- A head of a kind on rail A at 1 200 000, in slot 0, with its entry and timer. -/
def headed (s : State) (kind : HeadKind) (status : HeadStatus) (timer : MotionTimer) (e : Entry) :
    State :=
  { s with
    heads := s.heads.set 0 (some ⟨kind, .A, 60000, 1200000, status, none⟩)
    timers := s.timers.set 0 timer
    rails := { s.rails with listA := [e] } }

/-- Hole 0 in another state, with a slot. -/
def holed (s : State) (f : Hole → Hole) : State :=
  { s with plan := { s.plan with holes := s.plan.holes.set 0 (some (f (plannedAt 1650000))) } }

/-- The grant of hole 0 to slot 0. -/
def grant0 (phase : Option SetPhase) : HoleGrant := ⟨0, 1655648, 500, 211, 0, 1200000, 26783, phase⟩

def print0 : Entry := footprint 0 60000 1200000

def hull0 : Entry := hull 0 60000 1200000 1655648

/-- An IDLE head of a kind. -/
def idle (kind : HeadKind) : State := headed line kind .idle .stopped print0

/-- A drill report of hole 0. -/
def report0 : DrillReport := ⟨0, 2350, 3800, 1655640, .within, .within, 400000⟩

/-- Hole 0 DRILLED, with its report. -/
def drilled0 (h : Hole) : Hole := { h with state := .drilled, drillReport := some report0 }

/-- A drill head in TRAVEL to hole 0. -/
def travelling : State :=
  { headed (holed line (fun h => { h with state := .drilling, grantHead := some 0 })) .drill
      (.travelHole (grant0 none)) (.counting .travel 26783 0) hull0 with
    log := ⟨[], 0, 1⟩ }

/-- A drill head in TRAVEL under a MOVE grant. -/
def moving : State :=
  headed line .drill (.travelMove ⟨1655648, 1200000, 26783⟩) (.counting .travel 26783 0) hull0

/-- A drill head in WORK on hole 0. -/
def drilling : State :=
  { headed (holed line (fun h => { h with state := .drilling, grantHead := some 0 })) .drill
      (.work (grant0 none)) (.counting .work 90000 0) (footprint 0 60000 1655648) with
    log := ⟨[], 0, 1⟩ }

/-- A rivet of class 3, 36 000 ms old at the reading of `line`. -/
def rivet3 : Rivet := ⟨41, 2, 464000⟩

/-- A setting head in WORK on hole 0 in a set phase. -/
def setting (phase : SetPhase) : State :=
  { headed (holed line (fun h =>
      { drilled0 h with state := .setting, grantHead := some 0 })) .set
      (.work (grant0 (some phase))) (.counting .work 30000 0) (footprint 0 60000 1655648) with
    log := ⟨[], 0, 1⟩ }

/-- A head HALTED with the hull of its travel. -/
def halted : State := headed line .drill .halted .stopped hull0

/-- A head STALE with the hull of its travel. -/
def stale : State := headed line .drill .stale .stopped hull0

/-- Hole 0 HELD from a work, with both reports. -/
def heldFrom (w : Work) : State :=
  holed line (fun h => { drilled0 h with
    state := .held, heldFrom := some w, heldClass := some .clampLost
    setReport := if w = .setting then some ⟨0, 7, 2, none, 1655640, 450000⟩ else none })

/-- A frame of the plan in a frame state, with no heads. -/
def framed (st : FrameState) : State := { line with plan := { frame with state := st } }

/-- The command answers a next state. -/
def nexts (c : Instr) (s : State) : Bool :=
  match exec c s with
  | .next _ => true
  | _ => false

/-- The step answers a next state. -/
def steps (s : State) : Bool :=
  match step s with
  | .next _ => true
  | _ => false

/-! ### WellFormed -/

/-- A payload of 61 bytes, one more than a frame carries. -/
def tooLong : List Byte := List.replicate 61 0

theorem test_long_payloads_refused :
    ([.attach 0 tooLong, .detach 0 tooLong, .next 0 tooLong, .take 0 tooLong, .move 0 tooLong,
      .arrived 0 tooLong, .progress 0 tooLong, .abandon 0 tooLong, .drillDone 0 tooLong,
      .feed 0 tooLong, .setDone 0 tooLong, .haltAt 0 tooLong, .headQuery 0 tooLong,
      .planBegin tooLong, .planSegment tooLong, .planBay tooLong, .planHole tooLong,
      .planSeal tooLong, .planAbort tooLong, .planRead tooLong, .datum tooLong, .fenceSet tooLong,
      .fenceClear tooLong, .holeReleaseRedo tooLong, .holeReleaseAccept tooLong,
      .holeExcuse tooLong, .headRecover tooLong, .headEvict tooLong, .devMode tooLong,
      .devClear tooLong, .devRead tooLong, .logRead tooLong, .setParam tooLong,
      .setParamProbeHold tooLong, .setParamStaleAction tooLong, .setParamHeatMin tooLong,
      .setParamHeatMax tooLong, .setParamBudget tooLong, .setParamLogThreshold tooLong,
      .setParamDebounceMs tooLong, .getParam tooLong, .termConfig tooLong, .termWrite tooLong,
      .termRead tooLong, .termAck tooLong, .heaterClear tooLong, .frameEnd tooLong,
      .lineQuery tooLong, .rivetOut tooLong, .heaterQuery tooLong,
      .unknownKindMessage 0 0x7F tooLong] : List Instr).all
      (fun c => !c.wellFormed) = true := by decide

theorem test_known_kind_refused :
    (Instr.unknownKindMessage 0 kindTake [0, 0]).wellFormed = false := by decide

theorem test_longest_payload_accepted :
    (Instr.unknownKindMessage 0 0x7F (List.replicate 60 0)).wellFormed = true := by decide

/-! ### Worked examples of the manual -/

/-- Section 2.4: the hole at 1 650 000 is granted X 1 655 648 with D 211; R91: the travel from 1 200 000
has the limit 26 783. -/
theorem test_take_section_2_4 :
    lastFrame (after (exec (.take 0 [0, 0]) (withMessage (idle .drill) 0 kindTake [0, 0]))) 0 =
      some (.reply 0x13 ⟨.ok, 0, .holeGranted 0 1655648 500 211 2 3800 0 26783⟩) := by decide

/-- Section 2.4: with CORR_LIMIT 210 the hole is granted D 210, X 1 655 647, with THERMAL_LIMIT marked. -/
theorem test_take_beyond_limit :
    (after (exec (.take 0 [0, 0]) (withMessage { idle .drill with
      params := { line.params with corrLimit := 210 } } 0 kindTake [0, 0]))).plan.hole? 0 =
      some { plannedAt 1650000 with
        state := .drilling, grantHead := some 0, marks := [.thermalLimit] } := by decide

/-- Section 2.4: the second hole's D_raw is −127 and its X 305 310. -/
theorem test_target_below_datum :
    (line.target (plannedAt 300000)).map (fun t => (t.dRaw, t.d, t.x)) = some (-127, -127, 305310) := by
  decide

/-- R67: a drill head at 1 200 000 is offered the hole at the datum before the two farther ones. -/
theorem test_next_takes_the_nearest :
    ((after (exec (.next 0 []) (withMessage (idle .drill) 0 kindNext []))).heads[0].bind
      (fun hd => hd.status.holeGrant)).map HoleGrant.hole = some 2 := by decide

/-- Section 2.4: when segment 2's hold expires its value is (412 + 378) / 2 = 395, and PROBE_SUBST records
a = 2, b = 395. -/
theorem test_hold_expiry_section_2_4 :
    (after (exec (.holdExpiry 2) { line with
      clock := 530000
      thermal := [⟨0, 500000, 1, .live 318⟩, ⟨500000, 1000000, 2, .live 412⟩,
        ⟨1000000, 1500000, 3, .held 470 500000⟩, ⟨1500000, 2000000, 4, .live 378⟩] })).dev.first =
      some ⟨.probeSubst, some 77, none, none, 530000, 2, 395⟩ := by decide

/-- R47: a head at 20 000 with clearance 45 000 has the footprint [0, 65 000). -/
theorem test_attach_at_the_low_end :
    (after (exec (.attach 0 [1, 0, 0x20, 0x4E, 0, 0])
      (withMessage State.reset 0 kindAttach [1, 0, 0x20, 0x4E, 0, 0]))).rails.listA =
      [⟨.head 0, .footprint, 0, 65000, some (20000, 20000)⟩] := by decide

/-- R46: a head whose footprint only touches another's is placed. -/
theorem test_attach_touching :
    lastFrame (after (exec (.attach 1 [0, 0, 0xC0, 0x27, 0x09, 0])
      (withMessage { State.reset with
        rails := { RailMap.empty with listA := [footprint 0 60000 480000] } } 1 kindAttach
        [0, 0, 0xC0, 0x27, 0x09, 0]))) 1 = some (.reply 0x10 ⟨.ok, 0, .clearance 60000⟩) := by decide

/-- R91: a MOVE to the head's own place has the limit TRAVEL_BASE_MS. -/
theorem test_move_of_length_zero :
    lastFrame (after (exec (.move 0 [0x80, 0x4F, 0x12, 0])
      (withMessage (idle .drill) 0 kindMove [0x80, 0x4F, 0x12, 0]))) 0 =
      some (.reply 0x14 ⟨.ok, 0, .moveGranted 1200000 4000⟩) := by decide

/-- R73 under HOLDING: an arrival at an open clamp holds the hole. -/
theorem test_arrived_open_clamp :
    lastFrame (after (exec (.arrived 0 []) (withMessage { travelling with
      terminals := travelling.terminals.set 0 (switchAt (.clampBay 0) false) } 0 kindArrived []))) 0 =
      some (.reply 0x15 ⟨.held, 0, .arrivalHeld 0 .clampLost⟩) := by decide

/-- R72: PROGRESS starts the work limit anew. -/
theorem test_progress_restarts :
    (after (exec (.progress 0 []) (withMessage { drilling with
      timers := drilling.timers.set 0 (.counting .work 90000 80000) } 0 kindProgress []))).timers[0] =
      .counting .work 90000 0 := by decide

/-- R17: an abandoned drill grant leaves its hole PLANNED. -/
theorem test_abandon_returns_hole :
    (after (exec (.abandon 0 []) (withMessage drilling 0 kindAbandon []))).plan.hole? 0 =
      some (plannedAt 1650000) := by decide

/-- R74: a diameter at the upper bound of the tolerance, 23.50 + 0.30 mm, is WITHIN. -/
theorem test_drill_done_at_the_bound :
    lastFrame (after (exec (.drillDone 0 [0x4C, 0x09, 0xD8, 0x0E])
      (withMessage drilling 0 kindDrillDone [0x4C, 0x09, 0xD8, 0x0E]))) 0 =
      some (.reply 0x18 ⟨.ok, 0, .drillJudged .within .within 0 none⟩) := by decide

/-- R13: a diameter beyond the bound holds the hole under DIA_OUT. -/
theorem test_drill_done_beyond :
    lastFrame (after (exec (.drillDone 0 [0x4D, 0x09, 0xD8, 0x0E])
      (withMessage drilling 0 kindDrillDone [0x4D, 0x09, 0xD8, 0x0E]))) 0 =
      some (.reply 0x18 ⟨.held, 0, .drillJudged .above .within 0 (some .diaOut)⟩) := by decide

/-- R76: a ram age equal to the budget of class 3, 36 000 ms, is in time. -/
theorem test_set_done_at_the_budget :
    ((after (exec (.setDone 0 []) (withMessage (setting (.rammed rivet3 36000)) 0 kindSetDone
      []))).plan.hole? 0).map Hole.state = some .set := by decide

/-- R76: one millisecond more holds the hole under COLD_SET. -/
theorem test_set_done_cold :
    ((after (exec (.setDone 0 []) (withMessage (setting (.rammed rivet3 36001)) 0 kindSetDone
      []))).plan.hole? 0).map Hole.heldClass = some (some .coldSet) := by decide

/-- R112: FEED gives the oldest rivet of the hole's class and its age. -/
theorem test_feed_gives :
    lastFrame (after (exec (.feed 0 []) (withMessage { setting .unfed with
      heat := { HeatQueue.empty with queue := [⟨40, 1, 463000⟩, rivet3] } } 0 kindFeed []))) 0 =
      some (.reply 0x19 ⟨.given, 0, .rivetGiven 41 2 36000⟩) := by decide

/-- R54: HALT_AT at the high end of the hull's span puts the head down there. -/
theorem test_halt_at_the_span_end :
    ((after (exec (.haltAt 0 [0x60, 0x43, 0x19, 0]) (withMessage halted 0 kindHaltAt
      [0x60, 0x43, 0x19, 0]))).heads[0]).map (fun hd => (hd.position, hd.status)) =
      some (1655648, .idle) := by decide

/-- R82: an expiry leaves the head STALE and its hole held under WORK_TIMEOUT. -/
theorem test_timer_expiry :
    (after (exec (.motionTimerExpiry 0) { drilling with
      timers := drilling.timers.set 0 (.counting .work 90000 90000) })).log.records =
      [⟨0, 0, .held 0 1655648 none .workTimeout, false, 500000⟩] := by decide

/-- R86: a break takes a head in TRAVEL to FAULTED. -/
theorem test_break_faults_the_head :
    headStateOf (after (exec (.breakReturn 0) (travelling.setPort 0 { travelling.ports[0] with
      lowFor := some 110 }))).heads[0] = .faulted := by decide

/-- R104 and R108: the serial counter starts at 0 and the rivet joins the queue. -/
theorem test_rivet_out_first_serial :
    (after (exec (.rivetOut [3, 0x4C, 4]) (withMessage line heaterPort kindRivetOut
      [3, 0x4C, 4]))).heat.queue = [⟨0, 2, 500000⟩] := by decide

/-- R107: an exit temperature below the window raises HEAT_WINDOW with HEAT_MIN. -/
theorem test_rivet_out_cold :
    (after (exec (.rivetOut [3, 0xE7, 3]) (withMessage line heaterPort kindRivetOut
      [3, 0xE7, 3]))).dev.first = some ⟨.heatWindow, some 77, none, none, 500000, 999, 1000⟩ := by
  decide

/-- R110: HEATER_CLEAR answers with the number of rivets discarded. -/
theorem test_heater_clear :
    lastFrame (after (exec (.heaterClear []) (withMessage { line with
      heat := { HeatQueue.empty with queue := [rivet3, rivet3] } } 8 kindHeaterClear []))) 8 =
      some (.reply 0x58 ⟨.ok, 0, .discarded 2⟩) := by decide

/-- R111: a rivet of class 3 expires at the age of 36 000 ms, the default budget. -/
theorem test_rivet_expiry :
    (after (exec (.rivetExpiry 41) { line with
      heat := { HeatQueue.empty with queue := [rivet3] } })).heat.scrapped = 1 := by decide

/-- R105: with the defaults a HEAT_MIN of 1200 moves HEAT_MAX to 1200. -/
theorem test_heat_min_moves_heat_max :
    (after (exec (.setParamHeatMin [13, 0xB0, 4, 0, 0]) (withMessage line 8 kindSetParam
      [13, 0xB0, 4, 0, 0]))).params.heatMax = 1200 := by decide

/-- R105: a HEAT_MAX of 1400 is saturated to 1300 and answered LIMITED. -/
theorem test_heat_max_limited :
    lastFrame (after (exec (.setParamHeatMax [14, 0x78, 5, 0, 0]) (withMessage line 8 kindSetParam
      [14, 0x78, 5, 0, 0]))) 8 = some (.reply 0x52 ⟨.limited, 0, .parameter 14 1300⟩) := by decide

/-- R144: a LOG_THRESHOLD of 20 stores 48. -/
theorem test_log_threshold_rounds :
    (after (exec (.setParamLogThreshold [21, 20, 0, 0, 0]) (withMessage line 8 kindSetParam
      [21, 20, 0, 0, 0]))).params.logThreshold = 48 := by decide

/-- R178: a write of ALPHA above its range is saturated. -/
theorem test_alpha_saturates :
    (after (exec (.setParam [1, 0xFF, 0xFF, 0, 0]) (withMessage line 8 kindSetParam
      [1, 0xFF, 0xFF, 0, 0]))).params.alpha = 2000 := by decide

/-- R106: a shorter budget expires a rivet in the tray at once. -/
theorem test_budget_write_expires :
    (after (exec (.setParamBudget [17, 0x5E, 1, 0, 0]) (withMessage { line with
      heat := { HeatQueue.empty with queue := [rivet3] } } 8 kindSetParam
      [17, 0x5E, 1, 0, 0]))).heat.queue = [] := by decide

/-- R34: a write of 0 ends every running hold. -/
theorem test_probe_hold_zero :
    ((after (exec (.setParamProbeHold [3, 0, 0, 0, 0]) (withMessage { line with
      thermal := [⟨0, 2000000, 1, .held 355 499999⟩] } 8 kindSetParam
      [3, 0, 0, 0, 0]))).thermal).map Segment.status = [.unknown] := by decide

/-- R99 and R100: FREEZE with a STALE head on rail A freezes rail A alone. -/
theorem test_stale_action_freezes :
    let t := after (exec (.setParamStaleAction [12, 1, 0, 0, 0]) (withMessage stale 8 kindSetParam
      [12, 1, 0, 0, 0]))
    t.freezeA = true ∧ t.freezeB = false := by decide

set_option maxRecDepth 4000 in
/-- R152: a write of DEBOUNCE_MS accepts a candidate that has reached it. -/
theorem test_debounce_write_accepts :
    ((after (exec (.setParamDebounceMs [22, 5, 0, 0, 0]) (withMessage { line with
      terminals := line.terminals.set 5 { switchAt .plain false with
        candidate := some ⟨true, 499995⟩ } } 8 kindSetParam [22, 5, 0, 0, 0]))).terminals[5]).level =
      true := by decide

/-- R178: GET_PARAM of BUDGET_6 reads 520. -/
theorem test_get_param :
    lastFrame (after (exec (.getParam [20]) (withMessage line 8 kindGetParam [20]))) 8 =
      some (.reply 0x53 ⟨.ok, 0, .parameter 20 520⟩) := by decide

/-- The codes of the table of R157. -/
theorem test_probe_codes :
    [1, 326, 327, 1145, 1146, 1475, 3275, 3276, 4094].map (fun c : ProbeCode => convertCode c) =
      [-300, -300, -300, 199, 200, 400, 1499, 1500, 1500] := by decide

/-- R155 and R157: code 1475 reads 40.0 degrees and makes the segment LIVE with it. -/
theorem test_probe_sample :
    ((after (exec (.probeSample 1 1475) line)).thermal.head?).map Segment.status = some (.live 400) := by
  decide

/-- Section 10.3, a noisy line: the gap expires more than 2 ms after the last character. -/
theorem test_gap_expiry :
    let s := line.setPort 2 { line.ports[2] with
      assembly := some ⟨0x13, some 2, [0x2A], 0x3F⟩, gapFor := some 1728, errors := 4 }
    ((after (exec (.gapExpiry 2) s)).ports[2]).errors = 5 := by decide

/-- Section 10.3, a noisy line: the TAKE of hole 42 with check 0xC1 joins the queue. -/
theorem test_frame_received :
    ((line.ports[2]).receiveAll [(true, 0x13), (false, 0x02), (false, 0x2A), (false, 0x00),
      (false, 0xC1)]).receiveQueue = [⟨0x13, [0x2A, 0x00]⟩] := by decide

/-- Section 10.3, a noisy line: with check 0xBF the frame is discarded. -/
theorem test_frame_discarded :
    ((line.ports[2]).receiveAll [(true, 0x13), (false, 0x02), (false, 0x2A), (false, 0x00),
      (false, 0xBF)]).errors = 1 := by decide

/-- R167: a header starts a frame. -/
theorem test_character_header :
    ((after (exec (.characterArrival 2 true 0x13 true) line)).ports[2]).assembly =
      some ⟨0x13, none, [], 0x13⟩ := by decide

/-- R166 and R179: the frame of the reply OK to a TAKE_OF kind, with the check that sums it to 0. -/
theorem test_reply_characters :
    (TxFrame.reply kindDetach ⟨.notAttached, 0, .none⟩).characters =
      [(true, 0x01), (false, 0x03), (false, 0x11), (false, 0x14), (false, 0x00), (false, 0xD7)] := by
  decide

/-- R170: the line stands low for 22 bit times. -/
theorem test_in_break :
    ((after (exec (.inBreak 3) (line.setPort 3 { line.ports[3] with lowFor := some 110 }))).ports[3]).inBreak
      = true := by decide

/-- R170: a fall sets the line watch. -/
theorem test_receive_line_fall :
    ((after (exec (.receiveLineFall 3) line)).ports[3]).lowFor = some 0 := by decide

/-- R165: a frame may start after one idle character time. -/
theorem test_frame_start :
    ((after (exec (.frameTransmitStart 3) (line.setPort 3 { line.ports[3] with
      transmitQueue := [.reply 0x11 ⟨.notAttached, 0, .none⟩], idleFor := 55 }))).ports[3]).sendingFor =
      some 0 := by decide

/-- R172: a frame of six characters has gone out after 66 bit times. -/
theorem test_frame_sent :
    ((after (exec (.frameSent 3) (line.setPort 3 { line.ports[3] with
      transmitQueue := [.reply 0x11 ⟨.notAttached, 0, .none⟩]
      sendingFor := some 330 }))).ports[3]).transmitQueue = [] := by decide

/-- R171: a supervisor's kind on a head port is refused UNKNOWN_KIND. -/
theorem test_unknown_kind :
    lastFrame (after (exec (.unknownKindMessage 0 0x40 []) (withMessage line 0 0x40 []))) 0 =
      some (.reply 0x40 ⟨.unknownKind, 0, .none⟩) := by decide

/-- R151: a change away from the debounced level starts a candidate. -/
theorem test_raw_change :
    ((after (exec (.rawChange 5 true) line)).terminals[5]).candidate = some ⟨true, 500000⟩ := by decide

set_option maxRecDepth 4000 in
/-- R80: an accepted drop of the clamp withdraws the head at work in the bay. -/
theorem test_acceptance_drops_the_clamp :
    headStateOf (after (exec (.acceptance 0) { drilling with
      terminals := drilling.terminals.set 0 { switchAt (.clampBay 0) true with
        candidate := some ⟨false, 499980⟩ } })).heads[0] = .idle := by decide

/-- R149: a function that stands on another terminal is refused DUPLICATE. -/
theorem test_term_config_duplicate :
    lastFrame (after (exec (.termConfig [9, 1, 0, 0, 0]) (withMessage line 8 kindTermConfig
      [9, 1, 0, 0, 0]))) 8 = some (.reply 0x54 ⟨.duplicate, 0, .none⟩) := by decide

/-- R154: the latch of a terminal is written. -/
theorem test_term_write :
    ((after (exec (.termWrite [39, 1, 0]) (withMessage line 8 kindTermWrite [39, 1, 0]))).terminals[39]).latch
      = true := by decide

/-- R154: an acknowledgement answers with the terminals still pending. -/
theorem test_term_ack :
    lastFrame (after (exec (.termAck [1, 5]) (withMessage { line with
      terminals := (line.terminals.set 5 { switchAt .plain false with
        pendingEnable := true, pending := true }).set 0 { switchAt (.clampBay 0) true with
        pendingEnable := true, pending := true } } 8 kindTermAck [1, 5]))) 8 =
      some (.reply 0x57 ⟨.ok, 0, .terminalSet [0]⟩) := by decide

/-- R58: a fence over a head's entry is refused OVERLAP naming the head. -/
theorem test_fence_over_a_head :
    lastFrame (after (exec (.fenceSet [0, 2, 0x80, 0x4F, 0x12, 0, 0x80, 0x84, 0x1E, 0])
      (withMessage (idle .drill) 8 kindFenceSet [0, 2, 0x80, 0x4F, 0x12, 0, 0x80, 0x84, 0x1E, 0]))) 8 =
      some (.reply 0x48 ⟨.overlap, 0, .blockedBy (.head 0)⟩) := by decide

/-- R58: a fence not set is refused BAD_STATE. -/
theorem test_fence_clear_absent :
    lastFrame (after (exec (.fenceClear [3]) (withMessage line 8 kindFenceClear [3]))) 8 =
      some (.reply 0x49 ⟨.badState, 0, .none⟩) := by decide

/-- R4: a bay index already loaded is refused DUPLICATE. -/
theorem test_plan_bay_duplicate :
    lastFrame (after (exec (.planBay [0, 0, 0, 0, 0, 1, 0, 0, 0]) (withMessage (framed .loading) 8
      kindPlanBay [0, 0, 0, 0, 0, 1, 0, 0, 0]))) 8 = some (.reply 0x42 ⟨.duplicate, 0, .none⟩) := by
  decide

/-- R2: PLAN_BEGIN in EMPTY enters LOADING with the sizes it carries. -/
theorem test_plan_begin :
    (after (exec (.planBegin [77, 0, 0, 0, 3, 0, 1, 4, 1, 0xA0, 0xBB, 0x0D, 0]) (withMessage State.reset 8
      kindPlanBegin [77, 0, 0, 0, 3, 0, 1, 4, 1, 0xA0, 0xBB, 0x0D, 0]))).plan.header =
      some ⟨77, 3, 1, 4, 1, 900000⟩ := by decide

/-- R3: the row of segment 1 is stored. -/
theorem test_plan_segment :
    ((after (exec (.planSegment [1, 0x20, 0xA1, 7, 0, 0x40, 0x42, 0x0F, 0, 2]) (withMessage { framed .loading with
      plan := { frame with state := .loading, segments := [none, none, none, none] } } 8 kindPlanSegment
      [1, 0x20, 0xA1, 7, 0, 0x40, 0x42, 0x0F, 0, 2]))).plan.segments)[1]? =
      some (some ⟨500000, 1000000, 2⟩) := by decide

/-- R5: a hole of a joint number beyond joint_count is refused. -/
theorem test_plan_hole_bad_joint :
    lastFrame (after (exec (.planHole [0, 0, 1, 0, 0, 0, 0, 0, 0, 0, 0, 0, 0, 3, 0xD8, 0x0E]) (withMessage (framed .loading)
      8 kindPlanHole [0, 0, 1, 0, 0, 0, 0, 0, 0, 0, 0, 0, 0, 3, 0xD8, 0x0E]))) 8 =
      some (.reply 0x43 ⟨.badField, 0, .none⟩) := by decide

/-- R6: a hole not loaded fails check 1 in the hole table. -/
theorem test_plan_seal_missing_hole :
    lastFrame (after (exec (.planSeal []) (withMessage { framed .loading with
      plan := { frame with
        state := .loading, holes := [some (plannedAt 0), none, some (plannedAt 0)] } } 8 kindPlanSeal []))) 8
      = some (.reply 0x44 ⟨.sealFail, 1, .sealFailed 3 1⟩) := by decide

/-- R7: a sealed frame is READY. -/
theorem test_plan_seal :
    (after (exec (.planSeal []) (withMessage (framed .loading) 8 kindPlanSeal []))).plan.state = .ready := by
  decide

/-- R8: PLAN_ABORT in WORKING is refused BAD_STATE. -/
theorem test_plan_abort_in_working :
    lastFrame (after (exec (.planAbort []) (withMessage line 8 kindPlanAbort []))) 8 =
      some (.reply 0x45 ⟨.badState, 0, .none⟩) := by decide

/-- R9: DATUM takes a READY frame to WORKING. -/
theorem test_datum :
    (after (exec (.datum [0xDD, 0xD0, 0x0D, 0]) (withMessage (framed .ready) 8 kindDatum
      [0xDD, 0xD0, 0x0D, 0]))).plan.jd = some 905437 := by decide

/-- R18: REDO of a hole held from SETTING keeps the drill report. -/
theorem test_redo :
    (after (exec (.holeReleaseRedo [0, 0, 0]) (withMessage (heldFrom .setting) 8 kindHoleRelease
      [0, 0, 0]))).plan.hole? 0 = some (drilled0 (plannedAt 1650000)) := by decide

/-- R18: ACCEPT of a hole held from DRILLING writes an accepted record. -/
theorem test_accept :
    (after (exec (.holeReleaseAccept [0, 0, 1]) (withMessage (heldFrom .drilling) 8 kindHoleRelease
      [0, 0, 1]))).log.records = [⟨0, 0, .drilled 0 1655640 2350 3800, true, 500000⟩] := by decide

/-- R19: an excused hole is logged. -/
theorem test_excuse :
    (after (exec (.holeExcuse [2, 0]) (withMessage line 8 kindHoleExcuse [2, 0]))).log.records =
      [⟨0, 2, .excused, false, 500000⟩] := by decide

/-- R24: a frame is not ended while the log holds a record. -/
theorem test_frame_end_log_pending :
    lastFrame (after (exec (.frameEnd []) (withMessage { line with
      log := ⟨[⟨0, 2, .excused, false, 500000⟩], 1, 0⟩ } 8 kindFrameEnd []))) 8 =
      some (.reply 0x59 ⟨.logPending, 0, .none⟩) := by decide

/-- R143: LOG_READ takes out the oldest record. -/
theorem test_log_read :
    (after (exec (.logRead [1]) (withMessage { line with
      log := ⟨[⟨0, 2, .excused, false, 500000⟩, ⟨1, 1, .excused, false, 500000⟩], 2, 0⟩ } 8 kindLogRead
      [1]))).log.records = [⟨1, 1, .excused, false, 500000⟩] := by decide

/-- R133: WORK_TIMEOUT is fixed. -/
theorem test_dev_mode_fixed :
    lastFrame (after (exec (.devMode [6, 0]) (withMessage line 8 kindDevMode [6, 0]))) 8 =
      some (.reply 0x4E ⟨.badField, 0, .none⟩) := by decide

/-- R134: clearing the class of the first-deviation record removes it. -/
theorem test_dev_clear :
    (after (exec (.devClear [0, 2]) (withMessage { line with
      dev := { line.dev with
        flags := line.dev.flags.set 9 true
        first := some ⟨.heatWindow, none, none, none, 0, 999, 1000⟩ } } 8 kindDevClear [0, 2]))).dev =
      line.dev := by decide

/-- R63: a DETACHED slot's HEAD_QUERY reports DETACHED. -/
theorem test_head_query :
    lastFrame (after (exec (.headQuery 7 []) (withMessage line 7 kindHeadQuery []))) 7 =
      some (.reply 0x1C ⟨.ok, 0, .headRecord .detached none⟩) := by decide

/-- R23: PLAN_READ of two records wraps at hole_count. -/
theorem test_plan_read_wraps :
    lastFrame (after (exec (.planRead [2, 0, 2]) (withMessage line 8 kindPlanRead [2, 0, 2]))) 8 =
      some (.reply 0x46 ⟨.ok, 0, .planRecords
        [(2, some (plannedAt 900000)), (0, some (plannedAt 1650000))]⟩) := by decide

/-- R172: page PORTS counts the reply that carries it among the frames of P8. -/
theorem test_line_query_counts_its_reply :
    (match lastFrame (after (exec (.lineQuery [7]) (withMessage line 8 kindLineQuery [7]))) 8 with
      | some (.reply _ ⟨.ok, _, .page (.ports list)⟩) => list.map PortReport.transmitCount
      | _ => []) = [0, 0, 0, 0, 0, 0, 0, 0, 1, 0] := by decide

/-- R23: a hole not loaded is sent as zeros, and a loaded one with each optional part's presence byte. -/
theorem test_plan_record_bytes :
    planRecordBytes none = List.replicate 58 0
    ∧ planRecordBytes (some (plannedAt 1650000)) =
      [1, 0, 0, 0, 0x50, 0x2D, 0x19, 0, 0xF4, 1, 0, 0, 3, 0xD8, 0x0E] ++ List.replicate 43 0
    ∧ (planRecordBytes ((heldFrom .setting).plan.hole? 0)).length = 58 := by decide

/-- R135 and R179: the bytes of a DEV_READ after power-on, its record absent. -/
theorem test_dev_read_bytes :
    (DeviationUnit.defaults.report).bytes =
      [1, 0, 1, 1, 1, 1, 1, 0, 0, 0, 0x9F, 0x03, 0, 0] ++ List.replicate 24 0 := by decide

/-- R146, R179 and R174: the sequences of page LOG take two bytes, the oldest with its presence byte, and the
headroom the free width of its field. -/
theorem test_log_page_bytes :
    (LinePage.log 2 1 61 16 false 0x0105 (some 0x0103)).bytes =
      [2, 1] ++ openNat .headroom 61 ++ [16, 0, 0x05, 0x01, 1, 0x03, 0x01] := by
  simp only [LinePage.bytes, List.append_assoc]; rfl

/-- R177 and R179: a frozen rail A held by slots 0 and 3, and fence 1 over BOTH. -/
theorem test_line_page_bytes :
    (LinePage.line 258 true true true [0, 3] false [] (Vector.replicate 4 none |>.set 1 (some
      ⟨.both, 1000000, 1100000⟩)) (Vector.replicate 10 false |>.set 9 true) true).bytes =
      [2, 1, 0, 0, 1, 1, 1, 9, 0, 0] ++ List.replicate 10 0
        ++ [1, 2, 0x40, 0x42, 0x0F, 0, 0xE0, 0xC8, 0x10, 0] ++ List.replicate 20 0 ++ [0, 2, 1] := by decide

/-- R71 and R179: the bytes of the reply that grants a MOVE to 1 200 000 within 4 000 ms. -/
theorem test_move_reply_bytes :
    (ReplyFields.moveGranted 1200000 4000).bytes =
      [1, 0, 0, 0x80, 0x4F, 0x12, 0, 0, 0, 0, 0, 0, 0, 0, 0, 0, 0, 0xA0, 0x0F, 0, 0] := by decide

/-- R90: a STOPPED timer is reported by its mode alone. -/
theorem test_timer_bytes :
    TimerReport.stopped.bytes = [0]
    ∧ (TimerReport.counting .work 90000 258 true).bytes = [2, 0x90, 0x5F, 1, 0, 2, 1, 0, 0, 1] := by decide

/-- R165: start bit, data bits least significant first, mark, stop bit. -/
theorem test_character_bits :
    characterBits true 0x13 =
      [false, true, true, false, false, true, false, false, false, true, true] := by decide

/-- R177: page 8 is undefined. -/
theorem test_line_query_bad_page :
    lastFrame (after (exec (.lineQuery [8]) (withMessage line 8 kindLineQuery [8]))) 8 =
      some (.reply 0x5A ⟨.badField, 0, .none⟩) := by decide

/-- R163: power-on keeps the levels of the pins. -/
theorem test_power_on_keeps_pins :
    ((after (exec .powerOn { line with pinHigh := line.pinHigh.set 3 true })).pinHigh[3]) = true := by
  decide

/-! ### A state for every statement's hypotheses -/

/-- A line with a drill head at work, two log records, rivets in the tray and a deviation: it keeps every
law of the device. -/
def busy : State :=
  { drilling with
    plan := { drilling.plan with
      joints := [⟨[0, 1, 2], 1, 0, ⟨#[3, 0, 0, 0], rfl⟩⟩]
      counters := { frame.counters with stateCounts := ⟨#[2, 1, 0, 0, 0, 0, 0], rfl⟩ } }
    heads := drilling.heads.set 0 (some ⟨.drill, .A, 60000, 1655648, .work (grant0 none), none⟩)
    heat := { HeatQueue.empty with queue := [⟨0, 2, 464000⟩, ⟨1, 3, 470000⟩], serialCounter := 2 }
    dev := { DeviationUnit.defaults with
      flags := DeviationUnit.defaults.flags.set 9 true
      first := some ⟨.heatWindow, none, none, none, 0, 999, 1000⟩ }
    log := ⟨[⟨5, 1, .held 1 305310 none .workTimeout, false, 400000⟩], 6, 1⟩ }

theorem witness_StepTakesTheFrontCommand :
    { State.reset with pending := [.resetNAssert, .powerOn] }.pending = .resetNAssert :: [.powerOn] := rfl

theorem witness_EmptyQueuePassesOneUnitOfTime :
    (line.pending = [] ∧ line.inReset = false) ∧ { line with subMs := 575 }.pending = [] := by decide

theorem witness_ResetHeldLowStopsThePartUntilPowerOn :
    { line with inReset := true }.inReset = true ∧ (.rawChange 0 true : Instr) ≠ .powerOn
      ∧ nexts (.rawChange 0 true) { line with inReset := true } = true := by decide

/-- Terminal 6 an output of a function, ACTIVE_LOW. -/
def output6 (f : TermFunction) : State :=
  { drilling with terminals := line.terminals.set 6 { Terminal.powerOn with
      mode := .out, function := f, polarity := .activeLow } }

/-- Port 3 at the last part of the last bit of a frame's check, and at the start bit of its header. -/
def sending (n : Nat) : State :=
  line.setPort 3 { line.ports[3] with
    transmitQueue := [.reply 0x11 ⟨.notAttached, 0, .none⟩], sendingFor := some n }

theorem witness_SignalsAndPinsFollowTheirCauses :
    line.terminals[0].mode ≠ .out
    ∧ (∀ f ∈ [TermFunction.permit 0, .heaterPause, .railFreeze .A, .railFreeze .B, .attention, .plain],
      (output6 f).inReset = false ∧ (output6 f).terminals[6].mode = .out
        ∧ (output6 f).terminals[6].function = f)
    ∧ line.ports[3].sendingFor = none
    ∧ ∀ x ∈ [(5, false, (0xD7 : Byte), (10 : Fin 11), (4 : Fin 5)), (0, true, 0x01, 0, 0)],
      let s := sending (x.1 * 55 + x.2.2.2.1.val * 5 + x.2.2.2.2.val);
      s.inReset = false ∧ s.ports[3].transmitQueue = .reply 0x11 ⟨.notAttached, 0, .none⟩ :: []
        ∧ (TxFrame.reply 0x11 ⟨.notAttached, 0, .none⟩).characters[x.1]? = some (x.2.1, x.2.2.1)
        ∧ s.ports[3].sendingFor = some (x.1 * 55 + x.2.2.2.1.val * 5 + x.2.2.2.2.val) := by
  refine ⟨?_, ?_, ?_, ?_⟩ <;> decide

/-- A port whose line has stood low for a time. -/
def lowPort (n : Nat) : State := line.setPort 3 { line.ports[3] with lowFor := some n }

theorem witness_CommandNotDueChangesNothing :
    (messageOf (.detach 0 []) = some (headPort 0, kindDetach, [])
      ∧ line.takes (headPort 0) ⟨kindDetach, []⟩ = false)
    ∧ ({ drilling with timers := drilling.timers.set 0 (.counting .work 90000 89999) }).expiryDue 0 = false
    ∧ { line with thermal := [⟨0, 2000000, 1, .held 355 470001⟩] }.holdDue 0 = false
    ∧ { line with heat := { HeatQueue.empty with queue := [⟨41, 2, 464001⟩] } }.rivetExpiryDue 41 = false
    ∧ (line.inReset = false ∧ line.pinHigh[7] = false)
    ∧ { line with terminals := line.terminals.set 5 { switchAt .plain false with
        candidate := some ⟨true, 499981⟩ } }.acceptanceDue 5 = false
    ∧ { line with terminals := line.terminals.set 1 { probeAt 320 with
        sampledAt := 499751 } }.sampleDue 1 = false
    ∧ ((lowPort 110).inReset = false ∧ (lowPort 110).ports[3].breaking = true)
    ∧ (line.setPort 3 { line.ports[3] with gapFor := some 1152 }).ports[3].gapDue = false
    ∧ (lowPort 109).ports[3].lowLongEnough = false
    ∧ (line.setPort 3 { line.ports[3] with lowFor := some 110, inBreak := true }).ports[3].inBreak = true
    ∧ ((lowPort 109).inReset = false ∧ (lowPort 109).ports[3].breaking = false)
    ∧ (line.setPort 3 { line.ports[3] with
        transmitQueue := [.reply 0x11 ⟨.notAttached, 0, .none⟩]
        sendingFor := some 329 }).ports[3].sentDue = false
    ∧ (line.setPort 3 { line.ports[3] with
        transmitQueue := [.reply 0x11 ⟨.notAttached, 0, .none⟩]
        idleFor := 54 }).ports[3].startDue = false := by
  refine ⟨?_, ?_, ?_, ?_, ?_, ?_, ?_, ?_, ?_, ?_, ?_, ?_, ?_, ?_⟩ <;> decide

theorem witness_StationLinksRefuseKindsAndLengths :
    (kindKnown 0 0x40 = false ∧ (withMessage line 0 0x40 []).ready 0 0x40 [])
    ∧ (messageOf (.rivetOut [1, 2]) = some (heaterPort, kindRivetOut, [1, 2])
      ∧ kindKnown heaterPort kindRivetOut = true ∧ lengthFits heaterPort kindRivetOut [1, 2] = false
      ∧ (withMessage line heaterPort kindRivetOut [1, 2]).ready heaterPort kindRivetOut [1, 2]) := by
  decide

theorem witness_RefusedMessageChangesNothing :
    messageOf (.detach 0 []) = some (headPort 0, kindDetach, [])
    ∧ (withMessage line 0 kindDetach []).ready (headPort 0) kindDetach []
    ∧ (after (exec (.detach 0 []) (withMessage line 0 kindDetach []))).ports[headPort 0].transmitQueue =
      (withMessage line 0 kindDetach []).ports[headPort 0].transmitQueue ++
        [.reply kindDetach ⟨.notAttached, 0, .none⟩]
    ∧ ResultCode.notAttached.refusesWhole = true := by decide

theorem witness_TakenMessageMakesOneReply :
    messageOf (.detach 0 []) = some (headPort 0, kindDetach, [])
    ∧ (withMessage line 0 kindDetach []).takes (headPort 0) ⟨kindDetach, []⟩ = true := by decide

theorem witness_IdlePortSendsItsFirstNotice :
    let s := line.setPort 8 { line.ports[8] with notices := [.headState, .deviation] };
    (s.ports[supervisorPort].transmitQueue = []
      ∧ (sendingOrder (roleOf supervisorPort)).find?
        (fun x => decide (x ∈ s.ports[supervisorPort].notices)) = some .deviation)
    ∧ s.ports[heaterPort].notices = [] := by decide

/-- A state that keeps every law, with a command waiting that takes effect. -/
def ready (c : Instr) (p : PortId) (kind : Byte) (b : List Byte) : State :=
  { withMessage busy p kind b with pending := [c] }

/-- The drill head of `busy` reports: the hole, the log, the grants and the timer all move. -/
def reporting : State :=
  ready (.drillDone 0 [0x4C, 0x09, 0xD8, 0x0E]) 0 kindDrillDone [0x4C, 0x09, 0xD8, 0x0E]

theorem witness_StepKeepsThePortsWithinBounds :
    reporting.portsKept ∧ reporting.settled ∧ steps reporting = true := by
  refine ⟨?_, ?_, ?_⟩ <;> decide

theorem witness_StepKeepsParametersAndDeviations :
    reporting.params.kept ∧ reporting.dev.kept ∧ steps reporting = true := by
  refine ⟨?_, ?_, ?_⟩ <;> decide

theorem witness_StepKeepsALogPlaceForEveryGrant : reporting.logKept ∧ steps reporting = true := by
  refine ⟨?_, ?_⟩ <;> decide

/-- A rivet of class 4 leaves the heater for the tray of `busy`. -/
def feeding : State := ready (.rivetOut [4, 0x4C, 4]) heaterPort kindRivetOut [4, 0x4C, 4]

theorem witness_StepKeepsTheTrayAndItsSerials :
    feeding.heat.kept ∧ feeding.serialsKept ∧ steps feeding = true ∧ feeding.agesCount
      ∧ feeding.trayInOrder := by
  refine ⟨?_, ?_, ?_, ?_, ?_⟩ <;> decide

/-- A setting head that waits for a rivet of class 3 beside a tray with one of class 4; a rivet of class 3
comes. -/
def awaited : State :=
  { withMessage { setting .feedWait with
      plan := { (setting .feedWait).plan with
        counters := { frame.counters with stateCounts := ⟨#[2, 0, 0, 1, 0, 0, 0], rfl⟩ } }
      heat := { HeatQueue.empty with queue := [⟨0, 3, 490000⟩], waiting := [0], serialCounter := 1 } }
      heaterPort kindRivetOut [3, 0x4C, 4] with pending := [.rivetOut [3, 0x4C, 4]] }

theorem witness_StepKeepsTimersWaitingAndFreeze :
    (reporting.headsKept ∧ reporting.freezeFits ∧ steps reporting = true)
    ∧ awaited.headsKept ∧ awaited.freezeFits ∧ awaited.holesKept ∧ awaited.waitersUnserved
    ∧ steps awaited = true := by
  refine ⟨⟨?_, ?_, ?_⟩, ?_, ?_, ?_, ?_, ?_⟩ <;> decide

theorem witness_StepKeepsTheReservationsApart :
    reporting.params.kept ∧ reporting.railsKept ∧ steps reporting = true := by
  refine ⟨?_, ?_, ?_⟩ <;> decide

theorem witness_StepKeepsHolesGrantsAndCounts :
    reporting.holesKept ∧ reporting.plan.countsKept ∧ steps reporting = true := by
  refine ⟨?_, ?_, ?_⟩ <;> decide

theorem witness_StepKeepsTheOrderOfJoints :
    reporting.holesKept ∧ reporting.plan.countsKept ∧ reporting.plan.orderKept
      ∧ steps reporting = true := by
  refine ⟨?_, ?_, ?_, ?_⟩ <;> decide

theorem witness_StepKeepsTheSegmentPicture :
    { busy with pending := [.probeSample 1 0] }.thermalKept
      ∧ steps { busy with pending := [.probeSample 1 0] } = true := by
  refine ⟨?_, ?_⟩ <;> decide

set_option maxRecDepth 20000 in
theorem witness_StepKeepsTheTerminals :
    { busy with pending := [.rawChange 5 true] }.terminalsKept
      ∧ steps { busy with pending := [.rawChange 5 true] } = true := by
  refine ⟨?_, ?_⟩ <;> decide

/-- ATTACH at both ends of the jig; one entry only touches the footprint, one stands in its way. -/
theorem witness_AttachPlacesTheFootprint :
    let low : List Byte := [0, 0, 0, 0, 0, 0];
    let high : List Byte := [1, 1, 0x80, 0x84, 0x1E, 0];
    let touching := { line with rails := { RailMap.empty with listA := [footprint 1 60000 120000] } };
    ((withMessage touching 0 kindAttach low).ready (headPort 0) kindAttach low ∧ low.length = 6
      ∧ touching.heads[0] = none ∧ headKindOfCode (u8At low 0) = some .drill
      ∧ railOfCode (u8At low 1) = some .A ∧ 0 ≤ i32At low 2
      ∧ ∀ f ∈ touching.rails.list .A, f.owner ≠ .head 0 → f.hi ≤ 0 ∨ 60000 ≤ f.lo)
    ∧ ((withMessage line 0 kindAttach high).ready (headPort 0) kindAttach high ∧ high.length = 6
      ∧ headKindOfCode (u8At high 0) = some .set ∧ railOfCode (u8At high 1) = some .B
      ∧ i32At high 2 = 2000000)
    ∧ conflict (touching.rails.list .A) (.head 0) 0 60001 = some (.head 1) := by decide

theorem witness_IntervalsAndTheOverlapTest :
    let l := [footprint 0 60000 100000, footprint 1 60000 220000, footprint 2 60000 400000];
    l.Pairwise (fun a b => a.lo < b.lo) ∧ conflict l (.head 0) 100000 400000 = some (.head 1)
      ∧ conflict l (.head 0) 280000 340000 = none := by decide

theorem witness_DetachAndEvictFreeTheSlot :
    ((withMessage (idle .set) 0 kindDetach []).ready (headPort 0) kindDetach []
      ∧ ((idle .set).heads[0]).map Head.status = some .idle)
    ∧ ((withMessage stale 8 kindHeadEvict [0]).ready supervisorPort kindHeadEvict [0]
      ∧ u8At [0] 0 = (0 : Slot).val ∧ (stale.heads[0]).map Head.status = some .stale) := by decide

/-- HALT_AT at each end of the span and one step beyond each. -/
theorem witness_TroubledHeadIsPutDown :
    (∀ b ∈ [leInt 4 1200000, leInt 4 1655648, leInt 4 1199999, leInt 4 1655649],
      (withMessage halted 0 kindHaltAt b).ready (headPort 0) kindHaltAt b ∧ b.length = 4)
    ∧ (halted.heads[0]).map Head.status = some .halted
    ∧ ((halted.rails.entryOf .A 0).bind Entry.span = some (1200000, 1655648))
    ∧ (let b : List Byte := [0, 0x80, 0x84, 0x1E, 0];
      (withMessage stale 8 kindHeadRecover b).ready supervisorPort kindHeadRecover b
        ∧ b.length = 5 ∧ u8At b 0 = (0 : Slot).val ∧ 0 ≤ i32At b 1 ∧ i32At b 1 ≤ 2000000
        ∧ (stale.heads[0]).map Head.status = some .stale
        ∧ conflict (stale.rails.list .A) (.head 0) (footprint 0 60000 (i32At b 1)).lo
          (footprint 0 60000 (i32At b 1)).hi = none) := by decide

/-- The joint of `line`. -/
def joint0 : Joint := ⟨[0, 1, 2], 0, 0, ⟨#[3, 0, 0, 0], rfl⟩⟩

/-- The setting head may take hole 0 once it is DRILLED; the drill head may take it PLANNED. -/
def takes0 (kind : HeadKind) : State :=
  match kind with
  | .drill => idle .drill
  | .set => headed (holed line drilled0) .set .idle .stopped print0

/-- Two bays that meet at 1 000 000. -/
def twoBays : PlanStore := { frame with bays := [some ⟨0, 1000000⟩, some ⟨1000000, 2000000⟩] }

theorem witness_TakeCommitsTheHoleGrant_bays : none ∉ twoBays.bays
    ∧ (∀ (k : Nat) (a b : BayRow), twoBays.bays[k]? = some (some a) →
      twoBays.bays[k + 1]? = some (some b) → a.upper = b.lower)
    ∧ ∀ a : BayRow, some a ∈ twoBays.bays → a.lower < a.upper := by
  refine ⟨by decide, ?_, ?_⟩
  · intro k a b ha hb
    match k with
    | 0 => simp [twoBays] at ha hb; subst ha; subst hb; rfl
    | k + 1 => simp [twoBays] at hb
  · intro a ha
    simp [twoBays] at ha
    rcases ha with rfl | rfl <;> decide

/-- The drill head without a limit indication, with one that THERMAL_LIMIT notes, and the setting head. -/
theorem witness_TakeCommitsTheHoleGrant : ∀ x ∈ [(HeadKind.drill, 1150, (⟨211, 211, false, 1655648⟩ : Target)),
      (.drill, 210, ⟨211, 210, true, 1655647⟩), (.set, 1150, ⟨211, 211, false, 1655648⟩)],
    let kind := x.1;
    let s := withMessage { takes0 kind with params := { line.params with corrLimit := x.2.1 } } 0 kindTake
      [0, 0];
    s.ready (headPort 0) kindTake [0, 0]
    ∧ s.heads[0] = some ⟨kind, .A, 60000, 1200000, .idle, none⟩
    ∧ s.plan.state = .working ∧ s.lineStop = false ∧ s.frozen .A = false
    ∧ u16At [0, 0] 0 < s.plan.holeCount
    ∧ (s.plan.hole? 0).map Hole.state =
      some (match kind with | .drill => .planned | .set => .drilled)
    ∧ (s.plan.hole? 0).map Hole.rail = some .A ∧ s.plan.joints[0]? = some joint0
    ∧ joint0.settingCount = 0 ∧ joint0.drillingCount = 0
    ∧ (s.plan.hole? 0).bind s.target = some x.2.2 ∧ s.modeOf .thermalLimit = .noting
    ∧ s.plan.bayOf x.2.2.x = some 0 ∧ s.clampActive 0 = true
    ∧ s.log.records.length + s.log.inFlight + 1 ≤ 64
    ∧ conflict (s.rails.list .A) (.head 0) hull0.lo hull0.hi = none := by decide

theorem witness_NextGrantsTheBestCandidate :
    let s := withMessage (idle .drill) 0 kindNext [];
    let hd : Head := ⟨.drill, .A, 60000, 1200000, .idle, none⟩;
    (s.candidates 0 hd).Pairwise (fun a b => a.index < b.index)
    ∧ s.ready (headPort 0) kindNext [] ∧ s.heads[0] = some hd ∧ s.plan.state = .working
    ∧ s.lineStop = false ∧ s.frozen .A = false
    ∧ s.log.records.length + s.log.inFlight + 1 ≤ 64
    ∧ (chooseCandidate 1200000 (s.candidates 0 hd)).map (fun c => (c.index, c.target.beyond)) =
      some (2, false)
    ∧ chooseCandidate 1200000 ({ s with thermal := [] }.candidates 0 { hd with kind := .set }) = none
    ∧ (let u := { s with
        params := { s.params with corrLimit := 210 }
        plan := { s.plan with holes := s.plan.holes.set 2 (some { plannedAt 900000 with
          state := .excused }) } };
      u.modeOf .thermalLimit = .noting ∧ (chooseCandidate 1200000 (u.candidates 0 hd)).map
        (fun c => (c.index, c.target.beyond)) = some (0, true)) := by
  refine ⟨?_, ?_, ?_, ?_, ?_, ?_, ?_, ?_, ?_, ?_⟩ <;> decide

/-- The drill head of section 2.4 with CORR_LIMIT 210 and THERMAL_LIMIT HOLDING. -/
def limited : State :=
  { idle .drill with
    params := { line.params with corrLimit := 210 }
    dev := { line.dev with modes := line.dev.modes.set 7 .holding } }

theorem witness_ThermalLimitHoldsTheHole :
    let s := withMessage limited 0 kindTake [0, 0];
    let hd : Head := ⟨.drill, .A, 60000, 1200000, .idle, none⟩;
    s.takes (headPort 0) ⟨kindTake, [0, 0]⟩ = true ∧ s.heads[0] = some hd
    ∧ s.plan.state = .working ∧ s.lineStop = false ∧ s.frozen .A = false
    ∧ u16At [0, 0] 0 < s.plan.holeCount ∧ s.plan.hole? 0 = some (plannedAt 1650000)
    ∧ s.checkHole hd 0 = .ok ⟨0, plannedAt 1650000, ⟨211, 210, true, 1655647⟩, 0⟩
    ∧ s.log.records.length + s.log.inFlight + 1 ≤ 64 ∧ s.hullConflict 0 hd 1655647 = none
    ∧ s.modeOf .thermalLimit = .holding
    ∧ (let u := { withMessage limited 0 kindNext [] with
        plan := { s.plan with holes := s.plan.holes.set 2 none } };
      u.takes (headPort 0) ⟨kindNext, []⟩ = true
        ∧ chooseCandidate hd.position (u.candidates 0 hd) =
          some ⟨0, plannedAt 1650000, ⟨211, 210, true, 1655647⟩, 0⟩) := by
  refine ⟨?_, ?_, ?_, ?_, ?_, ?_, ?_, rfl, ?_, ?_, ?_, by decide, rfl⟩ <;> decide

theorem witness_MoveCommitsTheMoveGrant :
    0 < line.params.travelSpeed ∧ ∀ b ∈ [leInt 4 0, leInt 4 2000000],
    let s := withMessage (idle .drill) 0 kindMove b;
    s.ready (headPort 0) kindMove b ∧ b.length = 4
    ∧ s.heads[0] = some ⟨.drill, .A, 60000, 1200000, .idle, none⟩ ∧ s.plan.state = .working
    ∧ s.lineStop = false ∧ s.frozen .A = false ∧ 0 ≤ i32At b 0 ∧ i32At b 0 ≤ 2000000
    ∧ conflict (s.rails.list .A) (.head 0) (hull 0 60000 1200000 (i32At b 0)).lo
      (hull 0 60000 1200000 (i32At b 0)).hi = none := by decide

/-- The status of the head in slot 0. -/
def status0 (s : State) : Option HeadStatus := (s.heads[(0 : Slot)]).map Head.status

theorem witness_ArrivedStandsTheHeadAtItsTarget :
    ((withMessage moving 0 kindArrived []).ready (headPort 0) kindArrived []
      ∧ status0 moving = some (.travelMove ⟨1655648, 1200000, 26783⟩))
    ∧ ((withMessage travelling 0 kindArrived []).ready (headPort 0) kindArrived []
      ∧ status0 travelling = some (.travelHole (grant0 none)) ∧ travelling.clampActive 0 = true)
    ∧ (let s := { withMessage travelling 0 kindArrived [] with
        terminals := line.terminals.set 0 (switchAt (.clampBay 0) false) };
      s.takes (headPort 0) ⟨kindArrived, []⟩ = true ∧ s.clampActive 0 = false
        ∧ (s.plan.hole? 0).isSome ∧ s.modeOf .clampLost = .holding
        ∧ { s with dev := { s.dev with modes := s.dev.modes.set 2 .noting } }.modeOf .clampLost =
          .noting) := by decide

theorem witness_ProgressRestartsTheWorkTimer :
    ((withMessage drilling 0 kindProgress []).ready (headPort 0) kindProgress []
      ∧ status0 drilling = some (.work (grant0 none)))
    ∧ ((withMessage moving 0 kindProgress []).ready (headPort 0) kindProgress []
      ∧ headStateOf moving.heads[0] = .travel) := by decide

theorem witness_AbandonReturnsTheHole :
    (∀ s ∈ [travelling, drilling, setting (.fed rivet3)],
      (withMessage s 0 kindAbandon []).takes (headPort 0) ⟨kindAbandon, []⟩ = true
        ∧ ((status0 s).bind HeadStatus.holeGrant).map HoleGrant.hole = some 0
        ∧ (s.plan.hole? 0).isSome)
    ∧ (withMessage moving 0 kindAbandon []).takes (headPort 0) ⟨kindAbandon, []⟩ = true
    ∧ status0 moving = some (.travelMove ⟨1655648, 1200000, 26783⟩) := by decide

theorem witness_DrillDoneRecordsTheReport :
    ∀ b ∈ [[0xF4, 0x01, 0, 0], [0x88, 0x13, 0x98, 0x3A]],
    let s := withMessage drilling 0 kindDrillDone b;
    s.takes (headPort 0) ⟨kindDrillDone, b⟩ = true ∧ b.length = 4
    ∧ s.heads[0] = some ⟨.drill, .A, 60000, 1200000, .work (grant0 none), none⟩
    ∧ (s.plan.hole? 0).isSome
    ∧ 500 ≤ u16At b 0 ∧ u16At b 0 ≤ 5000 ∧ u16At b 2 ≤ 15000 := by decide

theorem witness_SetDoneSpendsTheRivet :
    ∀ x ∈ [(none, SetPhase.fed rivet3), (some 36000, .rammed rivet3 36000),
      (some 36001, .rammed rivet3 36001)],
    let s := withMessage (setting x.2) 0 kindSetDone [];
    s.takes (headPort 0) ⟨kindSetDone, []⟩ = true
    ∧ s.heads[0] = some ⟨.set, .A, 60000, 1200000, .work (grant0 (some x.2)), none⟩
    ∧ (s.plan.hole? 0).isSome
    ∧ some x.2 = (match x.1 with
      | none => some (.fed rivet3)
      | some a => some (.rammed rivet3 a)) := by decide

theorem witness_FeedGivesARivetOrWaits :
    (withMessage (setting .unfed) 0 kindFeed []).ready (headPort 0) kindFeed []
    ∧ status0 (setting .unfed) = some (.work (grant0 (some .unfed)))
    ∧ ((setting .unfed).plan.hole? 0).map Hole.cls = some 2
    ∧ (rivet3.cls = 2 ∧ ∀ x ∈ [(⟨40, 1, 463000⟩ : Rivet)], x.cls ≠ 2)
    ∧ ∀ x ∈ (setting .unfed).heat.queue ++ (setting .unfed).heat.chute.toList, x.cls ≠ 2 := by decide

theorem witness_TimerExpiryMakesTheHeadStale :
    (let s := { drilling with timers := drilling.timers.set 0 (.counting .work 90000 90000) };
      s.inReset = false ∧ status0 s = some (.work (grant0 none)) ∧ (s.plan.hole? 0).isSome
        ∧ s.timerRunning 0 = true)
    ∧ (let s := { moving with timers := moving.timers.set 0 (.counting .travel 26783 26783) };
      s.inReset = false ∧ status0 s = some (.travelMove ⟨1655648, 1200000, 26783⟩)
        ∧ s.timerRunning 0 = true) := by decide

/-- Port 0 after 22 bit times of a low line. -/
def broken (s : State) : State := s.setPort 0 { s.ports[0] with lowFor := some 110 }

theorem witness_BreakReturnResetsThePort :
    ((broken line).inReset = false ∧ (broken line).ports[0].breaking = true
      ∧ headStateOf line.heads[0] = .detached)
    ∧ ((broken drilling).ports[headPort 0].breaking = true
      ∧ status0 drilling = some (.work (grant0 none)) ∧ (drilling.plan.hole? 0).isSome)
    ∧ (∀ s ∈ [halted, stale, moving], (broken s).ports[headPort 0].breaking = true
      ∧ headStateOf s.heads[0] ∈ [.halted, .stale, .travel]) := by decide

theorem witness_RaisingFlagsMarksAndFillsTheFirst :
    drilling.plan.hole? 0 =
      some { plannedAt 1650000 with state := .drilling, grantHead := some 0 } := by decide

theorem witness_ClampDropWithdrawsTheHeadsAtWork :
    (line.holesKept ∧ ∀ h : Slot, line.heads[h] = none)
    ∧ busy.holesKept ∧ status0 busy = some (.work (grant0 none)) ∧ (grant0 none).bay = 0
    ∧ (busy.plan.hole? 0).isSome ∧ busy.modeOf .clampLost = .holding
    ∧ { busy with dev := { busy.dev with modes := busy.dev.modes.set 2 .noting } }.modeOf .clampLost =
      .noting := by
  refine ⟨?_, ?_, ?_, ?_, ?_, ?_, ?_⟩ <;> decide

theorem witness_ModesFlagsAndRecordsAreHandled :
    (∀ b ∈ [[1, 0], [10, 1], [6, 1]],
      (withMessage line 8 kindDevMode b).ready supervisorPort kindDevMode b ∧ b.length = 2
        ∧ u8At b 0 ∈ allClasses.map DevClass.number ∧ u8At b 1 ∈ [DevMode.noting.code, DevMode.holding.code])
    ∧ (∀ b ∈ [[0xFF, 0x03], [0x00, 0x04]],
      (withMessage line 8 kindDevClear b).ready supervisorPort kindDevClear b ∧ b.length = 2)
    ∧ u16At [0xFF, 0x03] 0 = 1023 ∧ u16At [0x00, 0x04] 0 = 1024
    ∧ (∀ b ∈ [[0], [1], [2], [3]],
      (withMessage line 8 kindLogRead b).ready supervisorPort kindLogRead b ∧ b.length = 1) := by decide

/-- Six rivets of class 4 in the queue. -/
def full (chute : Option Rivet) (overrun : Bool) : HeatQueue :=
  { HeatQueue.empty with
    queue := [⟨0, 3, 490000⟩, ⟨1, 3, 490000⟩, ⟨2, 3, 490000⟩, ⟨3, 3, 490000⟩, ⟨4, 3, 490000⟩,
      ⟨5, 3, 490000⟩]
    chute := chute
    overrun := overrun
    serialCounter := 7
    fullMark := true }

/-- A setting head that waits for a rivet of class 3. -/
def waiting : State :=
  { setting .feedWait with heat := { HeatQueue.empty with waiting := [0] } }

/-- RIVET_OUT at both ends of the window and one degree beyond each, into every place. -/
theorem witness_RivetOutIsPlacedOrRefused :
    (∀ b ∈ [[3, 0xE8, 0x03], [3, 0x7E, 0x04], [3, 0xE7, 0x03], [3, 0x7F, 0x04]],
      (withMessage line heaterPort kindRivetOut b).ready heaterPort kindRivetOut b ∧ b.length = 3
        ∧ u8At b 0 = (2 : RivetClass).val + 1 ∧ u16At b 1 ≤ 1400)
    ∧ u16At [3, 0xE8, 0x03] 1 = line.params.heatMin ∧ u16At [3, 0x7E, 0x04] 1 = line.params.heatMax
    ∧ (waiting.heat.kept ∧ waiting.headsKept ∧ waiting.holeClass 0 = some 2
      ∧ status0 waiting = some (.work (grant0 (some .feedWait))))
    ∧ (line.heat.kept ∧ line.headsKept ∧ line.heat.queue.length < 6)
    ∧ ((full none false).kept ∧ { line with heat := full none false }.headsKept)
    ∧ ((full (some ⟨6, 3, 495000⟩) false).kept ∧ (full none true).overrun = true) := by
  refine ⟨?_, ?_, ?_, ?_, ?_, ?_, ?_⟩ <;> decide

theorem witness_RivetsLeaveTheTrayAsScrap :
    (withMessage line 8 kindHeaterClear []).ready supervisorPort kindHeaterClear []
    ∧ (let s := { line with heat := { HeatQueue.empty with queue := [⟨40, 1, 499999⟩, rivet3] } };
      s.inReset = false ∧ s.settled ∧ s.heat.queue = [⟨40, 1, 499999⟩] ++ rivet3 :: []
        ∧ (∀ x ∈ [(⟨40, 1, 499999⟩ : Rivet)], x.serial ≠ rivet3.serial)
        ∧ s.params.budgets[rivet3.cls] * 100 ≤ (s.clock - rivet3.heatOut).toNat)
    ∧ (let s := { line with heat := full (some rivet3) false };
      s.inReset = false ∧ s.settled ∧ s.heat.chute = some rivet3
        ∧ (∀ x ∈ s.heat.queue, x.serial ≠ rivet3.serial)
        ∧ s.params.budgets[rivet3.cls] * 100 ≤ (s.clock - rivet3.heatOut).toNat)
    ∧ (let b : List Byte := [17, 0x5E, 1, 0, 0];
      let s := withMessage { line with
        heat := { HeatQueue.empty with queue := [rivet3] } } 8 kindSetParam b;
      s.ready supervisorPort kindSetParam b ∧ b.length = 5 ∧ u8At b 0 = 15 + (2 : RivetClass).val
        ∧ ((350 : Nat) : Int) = max 50 (min 1200 (i32At b 1)) ∧ s.heat.kept ∧ s.serialsKept) := by
  refine ⟨?_, ?_, ?_, ?_⟩ <;> decide

theorem witness_DisplacementIsRoundedOnce :
    line.plan.header = some ⟨77, 3, 1, 4, 1, 900000⟩
    ∧ line.target (plannedAt 1650000) = some ⟨211, 211, false, 1655648⟩
    ∧ segments.Pairwise (fun a b => a.upper ≤ b.lower)
    ∧ (∀ g ∈ segments, 0 ≤ g.lower ∧ g.lower ≤ g.upper ∧ g.upper ≤ 2000000)
    ∧ (∀ k < 4, (valueUsed segments k).all (fun v => decide (-300 ≤ v ∧ v ≤ 1500)) = true) := by decide

theorem witness_TargetFollowsTheFrame :
    line.plan.header = some ⟨77, 3, 1, 4, 1, 900000⟩ ∧ line.plan.jd = some 905437
    ∧ line.target (plannedAt 1650000) = some ⟨211, 211, false, 1655648⟩
    ∧ { line with thermal := [⟨0, 2000000, 1, .unknown⟩] }.target (plannedAt 300000) = none := by decide

theorem witness_SubstitutedTakesItsNeighbours :
    SegStatus.substituted = .substituted
    ∧ (∀ g ∈ [(⟨500000, 600000, 2, .unknown⟩ : Segment)], g.status.supply = none)
    ∧ (SegStatus.live (-15)).supply = some (-15) ∧ (SegStatus.held (-20) 0).supply = some (-20) := by
  decide

/-- Codes 1 and 4094, with the quotients of the table of R157. -/
theorem witness_ProbeCodesConvertToTemperatures :
    (1 ≤ (1 : ProbeCode).toNat ∧ (1 : ProbeCode).toNat ≤ 4094 ∧ (1 : Int) * 4095 ≤ 1 * 2500 + 2047
      ∧ (1 : Int) * 2500 + 2047 < (1 + 1) * 4095)
    ∧ ((4094 : ProbeCode).toNat ≤ 4094 ∧ (2499 : Int) * 4095 ≤ 4094 * 2500 + 2047
      ∧ (4094 : Int) * 2500 + 2047 < (2499 + 1) * 4095)
    ∧ line.terminals[1].probeOk = true := by decide

theorem witness_ProbeSampleReachesItsSegments :
    (line.inReset = false ∧ line.terminals[1].mode = .probeIn
      ∧ 250 ≤ (line.clock - line.terminals[1].sampledAt).toNat)
    ∧ (let s := { line with terminals := line.terminals.set 1 { probeAt 320 with
        runCount := 2, sampledAt := 499750 } };
      s.terminals[1].probeOk = true ∧ 3 ≤ s.terminals[1].runCount + 1
        ∧ (s.clock - s.terminals[1].sampledAt).toNat = 250)
    ∧ (let s := { line with terminals := line.terminals.set 1 { probeAt 320 with
        probeOk := false, runCount := 2 } };
      s.terminals[1].mode = .probeIn ∧ s.terminals[1].probeOk = false) := by decide

theorem witness_HoldsEndAtProbeHold :
    (let s := { line with thermal := [⟨0, 2000000, 9, .held 355 470000⟩] };
      s.inReset = false ∧ s.thermal[(0 : Fin 16).val]? = some ⟨0, 2000000, 9, .held 355 470000⟩
        ∧ s.params.probeHold * 1000 ≤ (s.clock - 470000).toNat)
    ∧ (∀ x ∈ [([3, 0, 0, 0, 0], 0), ([3, 0x59, 0x02, 0, 0], 600), ([3, 0xFF, 0xFF, 0xFF, 0xFF], 0)],
      let s := withMessage { line with thermal := [⟨0, 2000000, 9, .held 355 470001⟩] } 8 kindSetParam x.1;
      s.takes supervisorPort ⟨kindSetParam, x.1⟩ = true ∧ x.1.length = 5 ∧ u8At x.1 0 = 3
        ∧ ((x.2 : Nat) : Int) = max 0 (min 600 (i32At x.1 1)))
    ∧ { line with thermal := [⟨0, 2000000, 9, .held 355 470001⟩] }.thermalKept
    ∧ (let l : List Segment := [⟨500000, 1000000, 2, .live 412⟩, ⟨1000000, 1500000, 3, .held 470 500000⟩,
        ⟨1500000, 2000000, 4, .live 378⟩];
      0 * 1000 ≤ (line.clock - 500000).toNat ∧ valueUsed
        (settleSegments (l.set 1 ⟨1000000, 1500000, 3, .unknown⟩)) 1 = some 395) := by
  refine ⟨?_, ?_, ?_, ?_⟩ <;> decide

theorem witness_ParameterWritesSaturate :
    (∀ x ∈ [([1, 0xD0, 0x07, 0, 0], 2000), ([1, 0xD1, 0x07, 0, 0], 2000),
        ([1, 0xFF, 0xFF, 0xFF, 0xFF], 0), ([11, 0xE7, 0x03, 0, 0], 1000)],
      (withMessage line 8 kindSetParam x.1).ready supervisorPort kindSetParam x.1 ∧ x.1.length = 5
        ∧ u8At x.1 0 ∉ ownWriteIds
        ∧ (paramRange (u8At x.1 0)).any (fun r =>
          decide (((x.2 : Nat) : Int) = max (r.1 : Int) (min (r.2 : Int) (i32At x.1 1)))) = true)
    ∧ (∀ b ∈ [[0, 0, 0, 0, 0], [23, 0, 0, 0, 0]],
      (withMessage line 8 kindSetParam b).ready supervisorPort kindSetParam b
        ∧ (u8At b 0 = 0 ∨ 22 < u8At b 0))
    ∧ (∀ x ∈ [([13, 0xB0, 4, 0, 0], 1200), ([14, 0x15, 5, 0, 0], 1300), ([14, 0x57, 2, 0, 0], 600)],
      (withMessage line 8 kindSetParam x.1).ready supervisorPort kindSetParam x.1
        ∧ ((x.2 : Nat) : Int) = max 600 (min 1300 (i32At x.1 1)))
    ∧ (∀ x ∈ [([21, 0, 0, 0, 0], 1), ([21, 16, 0, 0, 0], 16), ([21, 17, 0, 0, 0], 48),
        ([21, 200, 0, 0, 0], 64)],
      (withMessage line 8 kindSetParam x.1).ready supervisorPort kindSetParam x.1 ∧ u8At x.1 0 = 21
        ∧ x.2 ∈ [1, 16, 48, 64] ∧ (i32At x.1 1 ≤ ((x.2 : Nat) : Int) ∨ x.2 = 64)
        ∧ ∀ w ∈ [1, 16, 48], w < x.2 → ((w : Nat) : Int) < i32At x.1 1)
    ∧ (let b : List Byte := [12, 1, 0, 0, 0];
      (withMessage line 8 kindSetParam b).ready supervisorPort kindSetParam b ∧ u8At b 0 = 12)
    ∧ (∀ b ∈ [[0], [1], [22], [23]],
      (withMessage line 8 kindGetParam b).ready supervisorPort kindGetParam b ∧ b.length = 1) := by
  refine ⟨?_, ?_, ?_, ?_, ?_, ?_⟩ <;> decide

/-- The fields of a TERM_CONFIG of terminal 9 as a switch input of RAM_0. -/
def ram9 : List Byte := [9, 1, 0x20, 0, 2]

theorem witness_TerminalsAreConfiguredAndWritten :
    (let s := withMessage line 8 kindTermConfig ram9;
      s.takes supervisorPort ⟨kindTermConfig, ram9⟩ = true ∧ ram9.length = 5
        ∧ termFieldsOf ram9 = some ⟨9, .switchIn, .ram 0, .activeHigh, .both⟩
        ∧ s.terminals[9].mode = .disabled ∧ functionFits .switchIn (.ram 0) = true
        ∧ (∀ n : TermId, n ≠ 9 → s.terminals[n].function ≠ .ram 0) ∧ s.settled)
    ∧ (∀ b ∈ [[0, 0, 0x7F, 0, 0], [1, 0, 0x7F, 0, 0], [5, 0, 0x7F, 0, 0]],
      (withMessage line 8 kindTermConfig b).takes supervisorPort ⟨kindTermConfig, b⟩ = true
        ∧ (termFieldsOf b).map TermFields.mode = some .disabled)
    ∧ (line.terminals[0].function = .clampBay 0 ∧ line.terminals[0].level = true)
    ∧ (line.terminals[1].mode = .probeIn ∧ line.terminals[1].probeOk = true)
    ∧ (line.terminals[5].mode = .switchIn ∧ line.terminals[5].level = false)
    ∧ (∀ f ∈ [TermFunction.lineStop, .framePresent, .ram 0, .plain],
      let s := { line with terminals := line.terminals.set 5 (switchAt f true) };
      s.terminals[5].mode = .switchIn ∧ s.terminals[5].function = f ∧ s.terminals[5].level = true
        ∧ s.functionSignal f = true ∧ ∀ n : TermId, n ≠ 5 → f.unique = true →
          s.terminals[n].function ≠ f)
    ∧ (withMessage line 8 kindTermWrite [39, 1, 0]).ready supervisorPort kindTermWrite [39, 1, 0]
    ∧ (withMessage line 8 kindTermAck [1, 39]).ready supervisorPort kindTermAck [1, 39]
    ∧ (withMessage line 8 kindTermAck [1, 40]).ready supervisorPort kindTermAck [1, 40] := by
  refine ⟨?_, ?_, ?_, ?_, ?_, ?_, ?_, ?_, ?_⟩ <;> decide

/-- Terminal 5 with a candidate that has stood for 20 ms. -/
def settled5 (f : TermFunction) (level : Bool) : State :=
  { setting (.fed rivet3) with terminals := line.terminals.set 5 { switchAt f level with
    pendingEnable := true, candidate := some ⟨!level, 499980⟩ } }

theorem witness_SwitchLevelsAreDebounced :
    (line.inReset = false ∧ line.settled ∧ line.pinHigh[5] = !true ∧ line.terminals[5].mode = .switchIn
      ∧ line.terminals[5].level = false ∧ 0 < line.params.debounceMs)
    ∧ line.terminals[6].mode ≠ .switchIn
    ∧ { line with params := { line.params with debounceMs := 0 } }.params.debounceMs = 0
    ∧ (∀ x ∈ [(TermFunction.plain, false), (.clampBay 1, true), (.clampBay 1, false), (.ram 0, false)],
      let s := settled5 x.1 x.2;
      s.inReset = false ∧ s.terminals[5].mode = .switchIn ∧ s.terminals[5].function = x.1
        ∧ s.terminals[5].candidate = some ⟨!x.2, 499980⟩
        ∧ s.params.debounceMs ≤ (s.clock - 499980).toNat
        ∧ status0 s = some (.work (grant0 (some (.fed rivet3)))))
    ∧ (let b : List Byte := [22, 20, 0, 0, 0];
      let s := withMessage (settled5 .plain false) 8 kindSetParam b;
      s.takes supervisorPort ⟨kindSetParam, b⟩ = true ∧ b.length = 5 ∧ u8At b 0 = 22
        ∧ ((20 : Nat) : Int) = max 0 (min 255 (i32At b 1))) := by
  refine ⟨?_, ?_, ?_, ?_, ?_⟩ <;> decide

theorem witness_CharactersGiveBackTheMessage :
    (List.replicate 60 (7 : Byte)).length ≤ 60
    ∧ (line.ports[2].assembly = none ∧ line.ports[2].deaf = false
      ∧ line.ports[2].receiveQueue.length < 4)
    ∧ 4 ≤ (List.replicate 4 (⟨0x11, []⟩ : Message)).length
    ∧ (false, (0xBF : Byte)) ∉ (⟨0x13, [0x2A, 0x00]⟩ : Message).characters.getLast?
    ∧ (TxFrame.reply kindDetach ⟨.ok, 0, .none⟩).payload.length ≤ 240 := by decide

/-- The port events of port 3, each at its boundary. -/
theorem witness_PortEventsDoAsTheyAreLaidDown :
    (line.inReset = false ∧ line.settled)
    ∧ ((lowPort 109).ports[3].inBreak = false
      ∧ (lowPort 109).ports[3].lowFor.all (fun n => decide (n < 110)) = true
      ∧ (lowPort 109).ports[3].deaf = false ∧ (lowPort 109).ports[3].assembly = none)
    ∧ ((line.setPort 3 { line.ports[3] with
        assembly := some ⟨0x13, none, [], 0x13⟩ }).ports[3].assembly = some ⟨0x13, none, [], 0x13⟩
      ∧ (60 : Byte).toNat ≤ 60 ∧ 60 < (61 : Byte).toNat)
    ∧ (let s := line.setPort 3 { line.ports[3] with
        receiveQueue := List.replicate 4 ⟨0x11, []⟩
        assembly := some ⟨0x13, some 2, [0x2A, 0x00], 0x3F⟩, gapFor := some 1153 };
      s.settled ∧ s.ports[3].assembly = some ⟨0x13, some 2, [0x2A, 0x00], 0x3F⟩
        ∧ (0x3F : Byte) + 0xC1 = 0 ∧ 4 ≤ s.ports[3].receiveQueue.length
        ∧ s.ports[3].gapFor = some 1153)
    ∧ ((lowPort 110).ports[3].lowFor = some 110 ∧ (lowPort 110).settled)
    ∧ (let f : TxFrame := .reply 0x11 ⟨.notAttached, 0, .none⟩;
      let s := line.setPort 3 { line.ports[3] with transmitQueue := [f], idleFor := 55 };
      let u := line.setPort 3 { line.ports[3] with transmitQueue := [f], sendingFor := some 330 };
      s.settled ∧ s.ports[3].sendingFor = none ∧ 55 ≤ s.ports[3].idleFor
        ∧ u.settled ∧ u.ports[3].transmitQueue = f :: [] ∧ f.characters.length * 55 ≤ 330) := by
  refine ⟨?_, ?_, ?_, ?_, ?_, ?_⟩ <;> decide

/-- FENCE_SET at the ends of the jig, and one into a head's entry on rail A. -/
theorem witness_FencesAreSetAndCleared :
    (∀ s ∈ [line, idle .drill],
      let b : List Byte := [3, 2, 0, 0, 0, 0, 0x80, 0x84, 0x1E, 0];
      (withMessage s 8 kindFenceSet b).ready supervisorPort kindFenceSet b ∧ b.length = 10
        ∧ u8At b 0 = (3 : FenceId).val ∧ fenceRailsOfCode (u8At b 1) = some .both
        ∧ i32At b 2 = 0 ∧ i32At b 6 = 2000000)
    ∧ conflict line.rails.listA (.fence 3) 0 2000000 = none
    ∧ conflict (idle .drill).rails.listA (.fence 3) 0 2000000 = some (.head 0)
    ∧ (withMessage line 8 kindFenceClear [3]).ready supervisorPort kindFenceClear [3]
    ∧ line.rails.fences[(3 : FenceId)] = none := by
  refine ⟨?_, ?_, ?_, ?_, ?_⟩ <;> decide

theorem witness_PlanIsLoadedRowByRow :
    (let b : List Byte := [77, 0, 0, 0, 0, 4, 128, 16, 24, 0x80, 0x84, 0x1E, 0];
      (withMessage State.reset 8 kindPlanBegin b).ready supervisorPort kindPlanBegin b ∧ b.length = 13
        ∧ State.reset.plan.state = .empty ∧ u16At b 4 = 1024 ∧ u8At b 6 = 128 ∧ u8At b 7 = 16
        ∧ u8At b 8 = 24 ∧ i32At b 9 = 2000000)
    ∧ (let b : List Byte := [3, 0, 0, 0, 0, 0x80, 0x84, 0x1E, 0, 39];
      (withMessage (framed .loading) 8 kindPlanSegment b).ready supervisorPort kindPlanSegment b
        ∧ b.length = 10 ∧ (framed .loading).plan.state = .loading ∧ u8At b 9 = (39 : TermId).val
        ∧ u8At b 0 < (framed .loading).plan.segCount ∧ i32At b 1 = 0 ∧ i32At b 5 = 2000000)
    ∧ (let b : List Byte := [0, 0, 0, 0, 0, 0x80, 0x84, 0x1E, 0];
      (withMessage (framed .loading) 8 kindPlanBay b).ready supervisorPort kindPlanBay b
        ∧ b.length = 9 ∧ u8At b 0 < (framed .loading).plan.bayCount)
    ∧ (let b : List Byte := [2, 0, 0, 3, 1, 0x80, 0x84, 0x1E, 0, 0xF0, 0x49, 0x02, 0, 6, 0xE0, 0x2E];
      (withMessage (framed .loading) 8 kindPlanHole b).ready supervisorPort kindPlanHole b
        ∧ b.length = 16 ∧ u16At b 0 < (framed .loading).plan.holeCount
        ∧ u8At b 2 < (framed .loading).plan.jointCount ∧ u8At b 3 = (3 : Tier).val
        ∧ u8At b 4 = Rail.B.code ∧ i32At b 5 = 2000000 ∧ i32At b 9 = 150000
        ∧ u8At b 13 = (5 : RivetClass).val + 1 ∧ u16At b 14 = 12000) := by
  refine ⟨?_, ?_, ?_, ?_⟩ <;> decide

theorem witness_SealChecksThePlan :
    frame.header = some ⟨77, 3, 1, 4, 1, 900000⟩
    ∧ ((withMessage (framed .loading) 8 kindPlanSeal []).ready supervisorPort kindPlanSeal []
      ∧ (framed .loading).plan.state = .loading ∧ (framed .loading).plan.sealFailure = none)
    ∧ [{ frame with segments := [none] }, { frame with bays := [none] },
        { frame with holes := [some (plannedAt 0), none] },
        { frame with segments := [some ⟨0, 500000, 1⟩, some ⟨500001, 2000000, 2⟩] },
        { frame with bays := [some ⟨0, 1000000⟩, some ⟨1000000, 1000000⟩] },
        { frame with segments := [some ⟨0, 1649999, 1⟩] },
        { frame with header := some ⟨77, 3, 1, 4, 1, 2000001⟩ },
        { frame with holes := [some { plannedAt 0 with tier := 1 }]
                     joints := [⟨[0], 0, 0, ⟨#[0, 1, 0, 0], rfl⟩⟩] }].map PlanStore.sealFailure =
      [some (1, 1, 0), some (1, 2, 0), some (1, 3, 1), some (2, 1, 0), some (3, 2, 1), some (4, 3, 0),
        some (5, 4, 0), some (6, 5, 0)] := by
  refine ⟨?_, ?_, ?_⟩ <;> decide

theorem witness_DatumAbortAndEndMoveTheFrame :
    (let b : List Byte := [0x80, 0x84, 0x1E, 0];
      let s := { framed .ready with terminals := line.terminals.set 7 (switchAt .framePresent false) };
      (withMessage s 8 kindDatum b).ready supervisorPort kindDatum b ∧ b.length = 4
        ∧ i32At b 0 = 2000000 ∧ s.terminals[7].function = .framePresent ∧ s.plan.state = .ready
        ∧ s.functionSignal .framePresent = false)
    ∧ (let s := { drilling with terminals := line.terminals.set 7 (switchAt .framePresent true) };
      s.functionSignal .framePresent = true ∧ s.plan.state = .working
        ∧ s.heads[0].any (fun hd => hd.status.hasGrant) = true)
    ∧ ((∀ n : TermId, drilling.terminals[n].function ≠ .framePresent) ∧ drilling.plan.state = .working
      ∧ drilling.heads[0].any (fun hd => hd.status.hasGrant) = true)
    ∧ (let b : List Byte := [0, 0, 0, 0];
      (withMessage line 8 kindDatum b).ready supervisorPort kindDatum b ∧ i32At b 0 = 0
        ∧ (∀ n : TermId, line.terminals[n].function ≠ .framePresent) ∧ line.plan.state = .working
        ∧ ∀ h : Slot, line.heads[h] = none)
    ∧ (∀ st ∈ [FrameState.loading, .ready],
      (withMessage (framed st) 8 kindPlanAbort []).ready supervisorPort kindPlanAbort [])
    ∧ (∀ st ∈ [FrameState.ready, .working, .complete],
      (withMessage (framed st) 8 kindFrameEnd []).ready supervisorPort kindFrameEnd []
        ∧ (framed st).plan.state ≠ .empty ∧ (framed st).plan.state ≠ .loading
        ∧ ∀ h : Slot, (framed st).heads[h] = none) := by
  refine ⟨?_, ?_, ?_, ?_, ?_, ?_⟩ <;> decide

theorem witness_HeldHolesAreReleasedOrExcused :
    (∀ w ∈ [Work.drilling, .setting],
      let s := heldFrom w;
      s.plan.state = .working ∧ u16At [0, 0, 0] 0 < s.plan.holeCount
        ∧ (s.plan.hole? 0).map Hole.state = some .held
        ∧ (s.plan.hole? 0).map Hole.heldFrom = some (some w)
        ∧ (withMessage s 8 kindHoleRelease [0, 0, 0]).ready supervisorPort kindHoleRelease [0, 0, 0]
        ∧ (withMessage s 8 kindHoleRelease [0, 0, 1]).takes supervisorPort
          ⟨kindHoleRelease, [0, 0, 1]⟩ = true
        ∧ s.log.records.length + s.log.inFlight + 1 ≤ 64
        ∧ ((s.plan.hole? 0).bind Hole.drillReport).isSome)
    ∧ (((heldFrom .setting).plan.hole? 0).bind Hole.setReport).isSome
    ∧ (withMessage (heldFrom .setting) 8 kindHoleExcuse [0, 0]).takes supervisorPort
      ⟨kindHoleExcuse, [0, 0]⟩ = true := by decide

theorem witness_QueriesReportAndChangeNothing :
    (withMessage line 7 kindHeadQuery []).ready (headPort 7) kindHeadQuery []
    ∧ (∀ b ∈ [[0, 0, 1], [0, 0, 2], [2, 0, 2]],
      (withMessage line 8 kindPlanRead b).ready supervisorPort kindPlanRead b ∧ b.length = 3
        ∧ line.plan.state ≠ .empty ∧ u16At b 0 < line.plan.holeCount
        ∧ (u8At b 2 = 1 ∨ u8At b 2 = 2))
    ∧ (withMessage line 8 kindDevRead []).ready supervisorPort kindDevRead []
    ∧ (withMessage line 8 kindTermRead [39]).ready supervisorPort kindTermRead [39]
    ∧ (∀ b ∈ [[0], [1], [2], [3], [4], [5], [6], [7], [8], [255]],
      (withMessage line 8 kindLineQuery b).ready supervisorPort kindLineQuery b ∧ b.length = 1)
    ∧ (withMessage line heaterPort kindHeaterQuery []).ready heaterPort kindHeaterQuery [] := by
  refine ⟨?_, ?_, ?_, ?_, ?_, ?_⟩ <;> decide

end Sys2Proof.Tests
end

section
/-! SUPPORT. The hole table of the Plan Store: what a change of one record, and the loading of one, do to
the loaded holes and to the counts over them (R10, R20, R22). -/

namespace Sys2Proof.Machine

/-! ### Rows of a table -/

/-- Replacing one row of a table moves the count of the rows that pass a test from the old row to the new
one. -/
theorem countP_filterMap_set {α : Type} (q : α → Bool) {l : List (Option α)} {i : Nat} {o : Option α}
    (o' : Option α) (h : l[i]? = some o) :
    ((l.set i o').filterMap id).countP q + o.toList.countP q
      = (l.filterMap id).countP q + o'.toList.countP q := by
  induction l generalizing i with
  | nil => simp at h
  | cons a l ih =>
    cases i with
    | zero =>
      obtain rfl : a = o := by simpa using h
      cases a <;> cases o' <;> simp [List.countP_cons]; omega
    | succ i =>
      have := ih (i := i) (by simpa using h)
      cases a <;> simp [List.countP_cons] at this ⊢ <;> omega

/-- A row loaded at a free index makes the loaded rows one more. -/
theorem length_filterMap_set {α : Type} {l : List (Option α)} {i : Nat} (a : α) (h : l[i]? = some none) :
    ((l.set i (some a)).filterMap id).length = (l.filterMap id).length + 1 := by
  simpa [List.countP_true] using countP_filterMap_set (fun _ => true) (some a) h

/-- An index of a table whose row is absent holds the absent row. -/
theorem getElem?_of_join_none {α : Type} {l : List (Option α)} {i : Nat} (hi : i < l.length)
    (h : (l[i]?).join = none) : l[i]? = some none := by
  rw [List.getElem?_eq_getElem hi] at h ⊢
  simpa using h

/-! ### The loaded holes -/

theorem PlanStore.hole?_eq_some {p : PlanStore} {i : Nat} {x : Hole} :
    p.hole? i = some x ↔ p.holes[i]? = some (some x) := by
  simp [PlanStore.hole?, Option.join_eq_some_iff]

theorem PlanStore.lt_of_hole? {p : PlanStore} {i : Nat} {x : Hole} (h : p.hole? i = some x) :
    i < p.holes.length := by
  have h := hole?_eq_some.1 h
  exact (List.getElem?_eq_some_iff.1 h).1

theorem PlanStore.mem_loaded {p : PlanStore} {x : Hole} :
    x ∈ p.loaded ↔ ∃ i, p.hole? i = some x := by
  simp only [loaded, hole?_eq_some, List.mem_filterMap, id_eq, ← List.mem_iff_getElem?]
  exact ⟨fun ⟨_, hm, e⟩ => e ▸ hm, fun hm => ⟨_, hm, rfl⟩⟩

theorem PlanStore.mem_loaded_of_hole? {p : PlanStore} {i : Nat} {x : Hole} (h : p.hole? i = some x) :
    x ∈ p.loaded := mem_loaded.2 ⟨i, h⟩

/-! ### One record changes -/

theorem PlanStore.changeHole_of_none {p : PlanStore} {i : Nat} (f : Hole → Hole)
    (h : p.hole? i = none) : p.changeHole i f = p := by
  simp [PlanStore.changeHole, h]

@[simp] theorem PlanStore.changeHole_state (p : PlanStore) (i : Nat) (f : Hole → Hole) :
    (p.changeHole i f).state = p.state := by rw [changeHole_eq]

@[simp] theorem PlanStore.changeHole_header (p : PlanStore) (i : Nat) (f : Hole → Hole) :
    (p.changeHole i f).header = p.header := by rw [changeHole_eq]

/-- A change that keeps the hole's state writes the hole table alone. -/
theorem PlanStore.changeHole_of_same_state {p : PlanStore} {i : Nat} {f : Hole → Hole} {x : Hole}
    (hx : p.hole? i = some x) (hs : (f x).state = x.state) :
    p.changeHole i f = { p with holes := p.holes.set i (some (f x)) } := by
  simp [PlanStore.changeHole, hx, hs]

/-- A change of the hole's state moves one count, and its joint follows. -/
theorem PlanStore.changeHole_of_new_state {p : PlanStore} {i : Nat} {f : Hole → Hole} {x : Hole}
    (hx : p.hole? i = some x) (hs : (f x).state ≠ x.state) :
    p.changeHole i f = { p with
      holes := p.holes.set i (some (f x))
      joints := p.joints.modify x.joint (fun j => j.follow x.tier x.state (f x).state)
      counters := { p.counters with
        stateCounts := moveCount p.counters.stateCounts x.state.code (f x).state.code
        holdEntries := if (f x).state = .held then saturatingSucc 65535 p.counters.holdEntries
          else p.counters.holdEntries } } := by
  simp [PlanStore.changeHole, hx, hs]

theorem PlanStore.changeHole_holes {p : PlanStore} {i : Nat} {f : Hole → Hole} {x : Hole}
    (hx : p.hole? i = some x) : (p.changeHole i f).holes = p.holes.set i (some (f x)) := by
  by_cases hs : (f x).state = x.state
  · rw [changeHole_of_same_state hx hs]
  · rw [changeHole_of_new_state hx hs]

/-- The record y stands for the same place and the same state as x. -/
def Hole.SameStand (x y : Hole) : Prop := y.joint = x.joint ∧ y.tier = x.tier ∧ y.state = x.state

theorem Hole.SameStand.trans {x y z : Hole} (h : x.SameStand y) (h' : y.SameStand z) :
    x.SameStand z := by
  obtain ⟨hj, ht, hs⟩ := h
  obtain ⟨hj', ht', hs'⟩ := h'
  exact ⟨hj'.trans hj, ht'.trans ht, hs'.trans hs⟩

/-- A change that keeps place and state, then another change, are one change. -/
theorem PlanStore.changeHole_changeHole (p : PlanStore) (i : Nat) {f : Hole → Hole} (g : Hole → Hole)
    (hf : ∀ x : Hole, x.SameStand (f x)) :
    (p.changeHole i f).changeHole i g = p.changeHole i (fun x => g (f x)) := by
  cases hx : p.hole? i with
  | none => simp [changeHole_of_none, hx]
  | some x =>
    obtain ⟨hjoint, htier, hstate⟩ := hf x
    have h1 := changeHole_of_same_state hx hstate
    have hx' : (p.changeHole i f).hole? i = some (f x) := by
      simp [hole?_changeHole_self, hx]
    by_cases hs : (g (f x)).state = (f x).state
    · rw [changeHole_of_same_state hx' hs,
        changeHole_of_same_state (f := fun x => g (f x)) hx (hs.trans hstate), h1]
      simp
    · rw [changeHole_of_new_state hx' hs,
        changeHole_of_new_state (f := fun x => g (f x)) hx (fun e => hs (e.trans hstate.symm)), h1]
      simp [hjoint, htier, hstate]

/-! ### The counts (R20, R22) -/

theorem HoleState.code_inj {a b : HoleState} : a.code = b.code ↔ a = b := by
  cases a <;> cases b <;> decide

/-- A count that moves from i to j falls at i, rises at j and stands elsewhere (R22). -/
theorem getElem_moveCount {n : Nat} (v : Vector Nat n) {i j : Fin n} (hij : i ≠ j) (k : Fin n) :
    (moveCount v i j)[k] = if k = j then v[j] + 1 else if k = i then v[i] - 1 else v[k] := by
  have hv : i.val ≠ j.val := fun e => hij (Fin.ext e)
  by_cases hj : k = j
  · subst hj
    simp [moveCount, hv]
  · have hj' : j.val ≠ k.val := fun e => hj (Fin.ext e.symm)
    by_cases hi : k = i
    · subst hi
      simp [moveCount, Vector.getElem_set, hj, hj']
    · have hi' : i.val ≠ k.val := fun e => hi (Fin.ext e.symm)
      simp [moveCount, Vector.getElem_set, hj, hj', hi, hi']

theorem PlanStore.countP_loaded_pos {p : PlanStore} {i : Nat} {x : Hole} {q : Hole → Bool}
    (hx : p.hole? i = some x) (hq : q x = true) : 0 < p.loaded.countP q :=
  List.countP_pos_iff.2 ⟨x, mem_loaded_of_hole? hx, hq⟩

/-- A change of one record moves each count of loaded holes from the old record to the new one. -/
theorem PlanStore.countP_loaded_changeHole {p : PlanStore} {i : Nat} {f : Hole → Hole} {x : Hole}
    (hx : p.hole? i = some x) (q : Hole → Bool) :
    (p.changeHole i f).loaded.countP q
      = p.loaded.countP q - (if q x then 1 else 0) + (if q (f x) then 1 else 0) := by
  have hmove := countP_filterMap_set q (some (f x)) (hole?_eq_some.1 hx)
  rw [← changeHole_holes hx] at hmove
  change (p.changeHole i f).loaded.countP q + [x].countP q
    = p.loaded.countP q + [f x].countP q at hmove
  have hold : (if q x then 1 else 0) ≤ p.loaded.countP q := by
    split_ifs with hq
    · exact countP_loaded_pos hx hq
    · exact Nat.zero_le _
  simp only [List.countP_singleton] at hmove
  omega

/-- A count of loaded holes stands when the old and the new record pass its test alike. -/
theorem PlanStore.countP_loaded_changeHole_same {p : PlanStore} {i : Nat} {f : Hole → Hole} {x : Hole}
    (hx : p.hole? i = some x) {q : Hole → Bool} (hq : q (f x) = q x) :
    (p.changeHole i f).loaded.countP q = p.loaded.countP q := by
  rw [countP_loaded_changeHole hx, hq]
  split_ifs with h
  · have := countP_loaded_pos hx h
    omega
  · rfl

/-- A hole of the changed table is the changed one or one of the old table. -/
theorem PlanStore.mem_loaded_changeHole {p : PlanStore} {i : Nat} {f : Hole → Hole} {x y : Hole}
    (hx : p.hole? i = some x) (hy : y ∈ (p.changeHole i f).loaded) : y = f x ∨ y ∈ p.loaded := by
  obtain ⟨j, hj⟩ := mem_loaded.1 hy
  by_cases e : j = i
  · subst e
    rw [hole?_changeHole_self, hx] at hj
    exact .inl (Option.some.inj hj).symm
  · rw [hole?_changeHole_other _ _ e] at hj
    exact .inr (mem_loaded_of_hole? hj)

/-- A joint's open count of a tier falls when a hole of the tier becomes final (R20). -/
theorem Joint.follow_tierOpen (j : Joint) (tier : Tier) (before after : HoleState) (t : Tier) :
    (j.follow tier before after).tierOpen[t] =
      if tier = t ∧ before.final = false ∧ after.final = true then j.tierOpen[t] - 1
      else j.tierOpen[t] := by
  have hset : (j.tierOpen.set tier (j.tierOpen[tier] - 1))[t]
      = if tier = t then j.tierOpen[t] - 1 else j.tierOpen[t] := by
    by_cases ht : tier = t
    · subst ht; simp
    · simp [ht, Fin.val_ne_of_ne ht]
  cases hb : before.final <;> cases ha : after.final
  case false.true => simpa [follow, hb, ha] using hset
  all_goals simp [follow, hb, ha]

/-- The counts of a joint that a change of one of its holes leads to (R20). -/
theorem PlanStore.jointFits_follow {p : PlanStore} {i : Nat} {f : Hole → Hole} {x : Hole}
    {r : Joint} (hx : p.hole? i = some x) (hjoint : (f x).joint = x.joint)
    (htier : (f x).tier = x.tier)
    (hfinal : x.state.final = true → (f x).state.final = true)
    (hr : p.jointFits x.joint r = true) :
    (p.changeHole i f).jointFits x.joint (r.follow x.tier x.state (f x).state) = true := by
  have hany : ∀ k, ((p.changeHole i f).hole? k).any (fun y => y.joint == x.joint)
      = (p.hole? k).any (fun y => y.joint == x.joint) := by
    intro k
    by_cases e : k = i
    · subst e; simp [hole?_changeHole_self, hx, hjoint]
    · rw [hole?_changeHole_other _ _ e]
  have hlen : (p.changeHole i f).holes.length = p.holes.length := by
    simp [changeHole_holes hx]
  have count := countP_loaded_changeHole (f := f) hx
  simp only [jointFits, Bool.and_eq_true, beq_iff_eq, List.all_eq_true] at hr ⊢
  obtain ⟨⟨⟨hmem, hdrill⟩, hset⟩, hopen⟩ := hr
  refine ⟨⟨⟨?_, ?_⟩, ?_⟩, fun t ht => ?_⟩
  · simpa only [hlen, hany, Joint.follow] using hmem
  · simp [count, Joint.follow, hdrill, hjoint]
  · simp [count, Joint.follow, hset, hjoint]
  · have ho := hopen t ht
    have hpos := countP_loaded_pos (q := fun y => y.joint == x.joint && y.tier == t && !y.state.final) hx
    rw [Joint.follow_tierOpen, count, ho]
    by_cases ht' : x.tier = t
    · cases hb : x.state.final <;> cases ha : (f x).state.final <;>
        simp_all
    · simp [hjoint, htier, ht']

/-- The counts of a joint stand when none of its holes changes its state. -/
theorem PlanStore.jointFits_changeHole_same {p : PlanStore} {i j : Nat} {f : Hole → Hole} {x : Hole}
    (hx : p.hole? i = some x) (hjoint : (f x).joint = x.joint) (htier : (f x).tier = x.tier)
    (h : x.joint ≠ j ∨ (f x).state = x.state) (r : Joint) :
    (p.changeHole i f).jointFits j r = p.jointFits j r := by
  have hany : ∀ k, ((p.changeHole i f).hole? k).any (fun y => y.joint == j)
      = (p.hole? k).any (fun y => y.joint == j) := by
    intro k
    by_cases e : k = i
    · subst e; simp [hole?_changeHole_self, hx, hjoint]
    · rw [hole?_changeHole_other _ _ e]
  have count : ∀ q : HoleState → Tier → Bool,
      (p.changeHole i f).loaded.countP (fun y => y.joint == j && q y.state y.tier)
        = p.loaded.countP (fun y => y.joint == j && q y.state y.tier) := by
    intro q
    refine countP_loaded_changeHole_same hx ?_
    rcases h with h | h
    · simp [hjoint, beq_false_of_ne h]
    · simp [hjoint, htier, h]
  have hopen := fun t => count (fun st u => u == t && !st.final)
  simp only [← Bool.and_assoc] at hopen
  simp only [jointFits, hany, changeHole_holes hx, List.length_set, count (fun st _ => st == .drilling),
    count (fun st _ => st == .setting), hopen]

theorem PlanStore.holeCount_changeHole (p : PlanStore) (i : Nat) (f : Hole → Hole) :
    (p.changeHole i f).holeCount = p.holeCount := by simp [holeCount]

/-- The table sizes and the counters of a loading stand through a change of one record. -/
theorem PlanStore.changeHole_sizes (p : PlanStore) (i : Nat) (f : Hole → Hole) :
    (p.changeHole i f).jointCount = p.jointCount ∧ (p.changeHole i f).segCount = p.segCount
      ∧ (p.changeHole i f).bayCount = p.bayCount ∧ (p.changeHole i f).segments = p.segments
      ∧ (p.changeHole i f).bays = p.bays ∧ (p.changeHole i f).joints.length = p.joints.length
      ∧ (p.changeHole i f).counters.holesLoaded = p.counters.holesLoaded
      ∧ (p.changeHole i f).counters.segsLoaded = p.counters.segsLoaded
      ∧ (p.changeHole i f).counters.baysLoaded = p.counters.baysLoaded := by
  cases hx : p.hole? i with
  | none => simp [changeHole_of_none, hx]
  | some x =>
    by_cases hs : (f x).state = x.state
    · simp [changeHole_of_same_state hx hs, jointCount, segCount, bayCount]
    · simp [changeHole_of_new_state hx hs, jointCount, segCount, bayCount]

/-- The state counts follow the change of one record (R22). -/
theorem PlanStore.stateCounts_changeHole {p : PlanStore} {i : Nat} {f : Hole → Hole} {x : Hole}
    (hx : p.hole? i = some x)
    (h : ∀ st : Fin 7, p.counters.stateCounts[st] = p.loaded.countP (fun y => y.state.code == st))
    (st : Fin 7) : (p.changeHole i f).counters.stateCounts[st]
      = (p.changeHole i f).loaded.countP (fun y => y.state.code == st) := by
  by_cases hs : (f x).state = x.state
  · rw [countP_loaded_changeHole_same hx (by rw [hs]), changeHole_of_same_state hx hs, h]
  · rw [countP_loaded_changeHole hx]
    have hc : x.state.code ≠ (f x).state.code := fun e => hs (HoleState.code_inj.1 e).symm
    rw [changeHole_of_new_state hx hs, getElem_moveCount _ hc, h, h, h]
    by_cases h1 : st = (f x).state.code
    · subst h1; simp [hc]
    · by_cases h2 : st = x.state.code
      · subst h2; simp [h1, Ne.symm h1]
      · simp [h1, h2, Ne.symm h1, Ne.symm h2]

/-- Each joint record still counts its holes after a change of one record (R20). -/
theorem PlanStore.jointsFit_changeHole {p : PlanStore} {i : Nat} {f : Hole → Hole} {x : Hole}
    (hx : p.hole? i = some x) (hjoint : (f x).joint = x.joint) (htier : (f x).tier = x.tier)
    (hfinal : x.state.final = true → (f x).state.final = true) {j : Nat}
    (h : (p.joints[j]?).any (p.jointFits j) = true) :
    ((p.changeHole i f).joints[j]?).any ((p.changeHole i f).jointFits j) = true := by
  obtain ⟨r, hr, hfits⟩ := (Option.any_eq_true _ _).1 h
  by_cases hs : (f x).state = x.state
  · rw [changeHole_of_same_state hx hs]
    simp only [hr, Option.any_some]
    rw [← changeHole_of_same_state hx hs, jointFits_changeHole_same hx hjoint htier (.inr hs)]
    exact hfits
  · rw [show (p.changeHole i f).joints[j]? = _ by rw [changeHole_of_new_state hx hs],
      List.getElem?_modify, hr]
    by_cases hj : x.joint = j
    · subst hj
      simpa using jointFits_follow hx hjoint htier hfinal hfits
    · simpa [hj] using (jointFits_changeHole_same hx hjoint htier (.inl hj) r).trans hfits

/-- A change of one record that keeps the hole's place, and a final state final, keeps the counts (R20,
R22). -/
theorem PlanStore.countsKept_changeHole {p : PlanStore} {i : Nat} {f : Hole → Hole} {x : Hole}
    (hx : p.hole? i = some x) (hjoint : (f x).joint = x.joint) (htier : (f x).tier = x.tier)
    (hfinal : x.state.final = true → (f x).state.final = true) (h : p.countsKept) :
    (p.changeHole i f).countsKept := by
  obtain ⟨hholes, hjoints, hsegs, hbays, hnames, hstates, hloaded, hsegRows, hbayRows, hfits⟩ := h
  obtain ⟨ejoint, eseg, ebay, esegs, ebays, elen, eholes, esl, ebl⟩ := p.changeHole_sizes i f
  have count := countP_loaded_changeHole (f := f) hx
  have hnames' : ∀ y ∈ (p.changeHole i f).loaded, y.joint < p.joints.length := by
    intro y hy
    rcases mem_loaded_changeHole hx hy with rfl | hy
    · exact hjoint ▸ hnames x (mem_loaded_of_hole? hx)
    · exact hnames y hy
  have hlen : (p.changeHole i f).loaded.length = p.loaded.length := by
    have := count (fun _ => true)
    have hpos := countP_loaded_pos (q := fun _ => true) hx rfl
    simp only [List.countP_true] at this hpos
    simp at this
    omega
  unfold countsKept
  rw [ejoint, eseg, ebay, esegs, ebays, elen, eholes, esl, ebl, hlen, holeCount_changeHole]
  exact ⟨by simpa [changeHole_holes hx] using hholes, hjoints, hsegs, hbays, hnames',
    stateCounts_changeHole hx hstates, hloaded, hsegRows, hbayRows,
    fun j hj => jointsFit_changeHole hx hjoint htier hfinal (hfits j hj)⟩

/-! ### Rows are loaded (R2 to R5, R20) -/

theorem PlanStore.countsKept_empty : PlanStore.empty.countsKept := by decide

theorem PlanStore.loaded_begun (hd : PlanHeader) : (PlanStore.begun hd).loaded = [] := by
  simp [loaded, begun]

/-- The record of a joint without holes fits a table in which nothing is loaded. -/
theorem PlanStore.jointFits_of_loaded_nil {p : PlanStore} (h : p.loaded = []) (j : Nat) :
    p.jointFits j ⟨[], 0, 0, Vector.replicate 4 0⟩ = true := by
  have hnone : ∀ i, p.hole? i = none := by
    intro i
    by_contra hne
    obtain ⟨x, hx⟩ := Option.ne_none_iff_exists'.1 hne
    simpa [h] using mem_loaded_of_hole? hx
  simp [jointFits, h, hnone]

theorem PlanStore.countsKept_begun (hd : PlanHeader) : (PlanStore.begun hd).countsKept := by
  have hl := loaded_begun hd
  have hsizes : (begun hd).holes.length = (begun hd).holeCount
      ∧ (begun hd).joints.length = (begun hd).jointCount
      ∧ (begun hd).segments.length = (begun hd).segCount
      ∧ (begun hd).bays.length = (begun hd).bayCount := by
    simp [begun, holeCount, jointCount, segCount, bayCount]
  obtain ⟨hholes, hjoints, hsegs, hbays⟩ := hsizes
  have hrows : ((begun hd).segments.filterMap id).length = 0
      ∧ ((begun hd).bays.filterMap id).length = 0 := by simp [begun]
  refine ⟨hholes, hjoints, hsegs, hbays, by simp [hl], ?_, by rw [hl]; rfl, hrows.1.symm,
    hrows.2.symm, ?_⟩
  · rw [hl]
    exact fun st => Vector.getElem_replicate st.isLt
  · intro j hj
    have hrow : (begun hd).joints[j]? = some ⟨[], 0, 0, Vector.replicate 4 0⟩ := by
      rw [hjoints] at hj
      simp only [begun]
      exact List.getElem?_replicate_of_lt hj
    rw [hrow]
    exact jointFits_of_loaded_nil hl j

/-- A number joins the ascending numbers that pass a test in its place (R20). -/
theorem insertMember_filter (q : Nat → Bool) {i : Nat} (hq : q i = false) {l : List Nat}
    (hl : l.Pairwise (· < ·)) (hi : i ∈ l) :
    insertMember i (l.filter q) = l.filter (fun j => q j || j == i) := by
  induction l with
  | nil => simp at hi
  | cons a l ih =>
    obtain ⟨ha, hl⟩ := List.pairwise_cons.1 hl
    by_cases e : a = i
    · subst e
      have hrest : l.filter (fun j => q j || j == a) = l.filter q :=
        List.filter_congr (fun j hj => by simp [(Nat.ne_of_gt (ha j hj))])
      have hlow : ∀ j ∈ l.filter q, a < j := fun j hj => ha j (List.mem_filter.1 hj).1
      simp only [List.filter_cons, hq, hrest]
      cases hf : l.filter q with
      | nil => simp [insertMember]
      | cons b m => simp [insertMember, hlow b (by simp [hf])]
    · have hi' : i ∈ l := (List.mem_cons.1 hi).resolve_left (Ne.symm e)
      have hai := ha i hi'
      cases hqa : q a
      · simp [hqa, e, ih hl hi']
      · simp [hqa, ih hl hi', insertMember, Nat.not_lt_of_gt hai]

/-- A loaded hole enters each count whose test it passes. -/
theorem PlanStore.countP_loaded_loadHole {p : PlanStore} {i : Nat} {x : Hole}
    (hi : p.holes[i]? = some none) (q : Hole → Bool) :
    (p.loadHole i x).loaded.countP q = p.loaded.countP q + (if q x then 1 else 0) := by
  have := countP_filterMap_set q (some x) hi
  simpa [loaded, loadHole, List.countP_singleton] using this

theorem PlanStore.hole?_loadHole_self {p : PlanStore} {i : Nat} {x : Hole} (hi : i < p.holes.length) :
    (p.loadHole i x).hole? i = some x := by simp [hole?, loadHole, hi]

theorem PlanStore.hole?_loadHole_other {p : PlanStore} {i j : Nat} {x : Hole} (h : j ≠ i) :
    (p.loadHole i x).hole? j = p.hole? j := by simp [hole?, loadHole, List.getElem?_set_ne h.symm]

/-- A row of the table after a loading is the loaded hole or a row of the old table. -/
theorem PlanStore.hole?_loadHole_cases {p : PlanStore} {i j : Nat} {x y : Hole}
    (hy : (p.loadHole i x).hole? j = some y) : y = x ∨ p.hole? j = some y := by
  by_cases e : j = i
  · subst e
    have hlt := lt_of_hole? hy
    rw [hole?_loadHole_self (by simpa [loadHole] using hlt)] at hy
    exact .inl (Option.some.inj hy).symm
  · exact .inr (hole?_loadHole_other e ▸ hy)

theorem PlanStore.mem_loaded_loadHole {p : PlanStore} {i : Nat} {x y : Hole}
    (hy : y ∈ (p.loadHole i x).loaded) : y = x ∨ y ∈ p.loaded := by
  obtain ⟨j, hj⟩ := mem_loaded.1 hy
  exact (hole?_loadHole_cases hj).imp_right mem_loaded_of_hole?

/-- A joint's record counts its holes after one of them is loaded (R5, R20). -/
theorem PlanStore.jointFits_loadHole {p : PlanStore} {i j : Nat} {x : Hole} {r : Joint}
    (hi : p.holes[i]? = some none) (hx : x.state = .planned) (hr : p.jointFits j r = true) :
    (p.loadHole i x).jointFits j (if x.joint = j then r.join i x.tier else r) = true := by
  have hlt : i < p.holes.length := (List.getElem?_eq_some_iff.1 hi).1
  have hfree : p.hole? i = none := by simp [hole?, hi]
  have count := countP_loaded_loadHole (x := x) hi
  have hlen : (p.loadHole i x).holes.length = p.holes.length := by simp [loadHole]
  have hany : ∀ k, ((p.loadHole i x).hole? k).any (fun y => y.joint == j)
      = ((p.hole? k).any (fun y => y.joint == j) || (k == i && x.joint == j)) := by
    intro k
    by_cases e : k = i
    · subst e; simp [hole?_loadHole_self hlt, hfree]
    · simp [hole?_loadHole_other e, e]
  simp only [jointFits, Bool.and_eq_true, beq_iff_eq, List.all_eq_true] at hr ⊢
  obtain ⟨⟨⟨hmem, hdrill⟩, hset⟩, hopen⟩ := hr
  simp only [hlen, hany, count]
  by_cases hj : x.joint = j
  · have hins := insertMember_filter (fun k => (p.hole? k).any (fun y => y.joint == j)) (i := i)
      (by simp [hfree]) List.pairwise_lt_range (List.mem_range.2 hlt)
    refine ⟨⟨⟨?_, ?_⟩, ?_⟩, fun t ht => ?_⟩
    · simpa [hj, Joint.join, hmem] using hins
    · simp [hj, hx, Joint.join, hdrill]
    · simp [hj, hx, Joint.join, hset]
    · have ho := hopen t ht
      by_cases ht' : x.tier = t
      · subst ht'
        simpa [hj, hx, Joint.join, HoleState.final] using ho
      · have ho' : r.tierOpen[t.val] = _ := ho
        simpa [hj, hx, Joint.join, ht', Fin.val_ne_of_ne ht'] using ho'
  · simp only [hj, if_false, beq_false_of_ne hj, Bool.and_false, Bool.or_false]
    refine ⟨⟨⟨hmem, ?_⟩, ?_⟩, fun t ht => ?_⟩
    · simpa [hj] using hdrill
    · simpa [hj] using hset
    · simpa [hj] using hopen t ht

/-- Loading a PLANNED hole at a free index keeps the counts (R5, R20, R22). -/
theorem PlanStore.countsKept_loadHole {p : PlanStore} {i : Nat} {x : Hole}
    (hi : p.holes[i]? = some none) (hx : x.state = .planned) (hjoint : x.joint < p.jointCount)
    (h : p.countsKept) : (p.loadHole i x).countsKept := by
  obtain ⟨hholes, hjoints, hsegs, hbays, hnames, hstates, hloaded, hsegRows, hbayRows, hfits⟩ := h
  have hlt : i < p.holes.length := (List.getElem?_eq_some_iff.1 hi).1
  have count := countP_loaded_loadHole (x := x) hi
  have hlen : (p.loadHole i x).joints.length = p.joints.length := by simp [loadHole]
  refine ⟨by simpa [loadHole, holeCount] using hholes, hlen.trans hjoints, hsegs, hbays, ?_, ?_, ?_,
    hsegRows, hbayRows, ?_⟩
  · intro y hy
    rw [hlen]
    rcases mem_loaded_loadHole hy with rfl | hy
    · exact hjoints ▸ hjoint
    · exact hnames y hy
  · intro st
    have hs := hstates st
    rw [count]
    by_cases e : st = HoleState.planned.code
    · subst e
      simpa [loadHole, hx] using hs
    · have e' : (HoleState.planned.code == st) = false := beq_false_of_ne (Ne.symm e)
      have : HoleState.planned.code.val ≠ st.val := fun c => e (Fin.ext c.symm)
      simpa [loadHole, hx, e', this] using hs
  · have := count (fun _ => true)
    simp only [List.countP_true, if_true] at this
    rw [this, ← hloaded]
    rfl
  · intro j hj
    rw [hlen] at hj
    obtain ⟨r, hr, hfit⟩ := (Option.any_eq_true _ _).1 (hfits j hj)
    have := jointFits_loadHole hi hx hfit
    have hrow : (p.loadHole i x).joints[j]? = some (if x.joint = j then r.join i x.tier else r) := by
      simp only [loadHole, List.getElem?_modify, hr]
      split <;> rfl
    rw [hrow]
    exact this

theorem PlanStore.countsKept_loadSegment {p : PlanStore} {k : Nat} (row : SegmentRow)
    (hk : p.segments[k]? = some none) (h : p.countsKept) : (p.loadSegment k row).countsKept := by
  obtain ⟨hholes, hjoints, hsegs, hbays, hnames, hstates, hloaded, hsegRows, hbayRows, hfits⟩ := h
  refine ⟨hholes, hjoints, ?_, hbays, hnames, hstates, hloaded, ?_, hbayRows, hfits⟩
  · exact (List.length_set ..).trans hsegs
  · exact (congrArg (· + 1) hsegRows).trans (length_filterMap_set row hk).symm

theorem PlanStore.countsKept_loadBay {p : PlanStore} {k : Nat} (row : BayRow)
    (hk : p.bays[k]? = some none) (h : p.countsKept) : (p.loadBay k row).countsKept := by
  obtain ⟨hholes, hjoints, hsegs, hbays, hnames, hstates, hloaded, hsegRows, hbayRows, hfits⟩ := h
  refine ⟨hholes, hjoints, hsegs, ?_, hnames, hstates, hloaded, hsegRows, ?_, hfits⟩
  · exact (List.length_set ..).trans hbays
  · exact (congrArg (· + 1) hbayRows).trans (length_filterMap_set row hk).symm

end Sys2Proof.Machine
end

section
/-! SUPPORT. The moves of the Plan Store and the HOLE grants. Every taking and every event is a run of
these moves, and each of them keeps the laws of R10, R11, R20 and R22. -/

namespace Sys2Proof.Machine

/-! ### The work a slot stands in -/

/-- The kind and the hole of the HOLE grant a head holds. -/
def Head.holeWork (hd : Head) : Option (HeadKind × Nat) :=
  hd.status.holeGrant.map (fun g => (hd.kind, g.hole))

/-- The kind and the hole of the HOLE grant of a slot. -/
def workAt (heads : Vector (Option Head) 8) (h : Slot) : Option (HeadKind × Nat) :=
  heads[h].bind Head.holeWork

theorem workAt_set (heads : Vector (Option Head) 8) (h : Slot) (v : Option Head) (h' : Slot) :
    workAt (heads.set h v) h' = if h' = h then v.bind Head.holeWork else workAt heads h' := by
  by_cases e : h' = h
  · subst e; simp [workAt]
  · have : h.val ≠ h'.val := fun c => e (Fin.ext c.symm)
    simp [workAt, e, this]

/-- The frame stands in a state in which HOLE grants may stand. -/
def FrameState.atWork (f : FrameState) : Prop := f = .working ∨ f = .complete

/-- The laws of R10 and R11 in terms of the slots' work: a slot's hole is in the work of its kind and names
the slot, and a slot that a hole names works on that hole. -/
theorem State.holesKept_iff {s : State} : s.holesKept ↔
    (∀ h kind i, workAt s.heads h = some (kind, i) → s.plan.state.atWork ∧ ∃ x,
      s.plan.hole? i = some x ∧ x.state = kind.working ∧ x.grantHead = some h)
    ∧ ∀ i x, s.plan.hole? i = some x → x.recordFits = true ∧
      ∀ h, x.grantHead = some h → ∃ kind, workAt s.heads h = some (kind, i) := by
  have hgrant : ∀ h, s.grantFits h = true ↔ ∀ kind i, workAt s.heads h = some (kind, i) →
      s.plan.state.atWork ∧ ∃ x,
        s.plan.hole? i = some x ∧ x.state = kind.working ∧ x.grantHead = some h := by
    intro h
    unfold State.grantFits
    cases e : s.heads[h] with
    | none => simp [workAt, show s.heads[h.val] = none from e]
    | some hd =>
      cases eg : hd.status.holeGrant with
      | none => simp [workAt, show s.heads[h.val] = some hd from e, Head.holeWork, eg]
      | some g =>
        cases ex : s.plan.hole? g.hole <;>
        simp [workAt, show s.heads[h.val] = some hd from e, Head.holeWork, eg, FrameState.atWork, ex]
  have hhole : ∀ i, s.holeFits i = true ↔ ∀ x, s.plan.hole? i = some x → x.recordFits = true ∧
      ∀ h, x.grantHead = some h → ∃ kind, workAt s.heads h = some (kind, i) := by
    intro i
    unfold State.holeFits
    cases ex : s.plan.hole? i with
    | none => simp
    | some x =>
      cases eg : x.grantHead with
      | none => simp [eg]
      | some h =>
        cases e : s.heads[h] with
        | none =>
          have e' : s.heads[h.val] = none := e
          simp [State.grantOf, workAt, e', eg]
        | some hd =>
          have e' : s.heads[h.val] = some hd := e
          simp [State.grantOf, workAt, e', eg, Head.holeWork]
  constructor
  · rintro ⟨h1, h2⟩
    refine ⟨fun h => (hgrant h).1 (h1 h), fun i x hx => ?_⟩
    exact (hhole i).1 (h2 i (PlanStore.lt_of_hole? hx)) x hx
  · rintro ⟨h1, h2⟩
    exact ⟨fun h => (hgrant h).2 (h1 h), fun i _ => (hhole i).2 (h2 i)⟩

/-! ### The record a hole is left with -/

/-- The record y is that of the hole x when no slot works on it any more: its place stands, no slot is
named, and its parts are those R10 lays down for its state. -/
structure Hole.RestsAs (x y : Hole) : Prop where
  joint : y.joint = x.joint
  tier : y.tier = x.tier
  unnamed : y.grantHead = none
  fits : y.recordFits = true

/-- The record y differs from x in its marks at most. -/
def Hole.SameButMarks (x y : Hole) : Prop := y = { x with marks := y.marks }

theorem Hole.SameButMarks.refl (x : Hole) : x.SameButMarks x := rfl

theorem Hole.SameButMarks.trans {x y z : Hole} (h : x.SameButMarks y) (h' : y.SameButMarks z) :
    x.SameButMarks z := by
  have hz : z = { y with marks := z.marks } := h'
  have hy : y = { x with marks := y.marks } := h
  unfold SameButMarks
  rw [hz, hy]

theorem Hole.SameButMarks.parts {x y : Hole} (h : x.SameButMarks y) :
    x.SameStand y ∧ y.grantHead = x.grantHead ∧ y.recordFits = x.recordFits
      ∧ y.tierTaken = x.tierTaken := by
  have hy : y = { x with marks := y.marks } := h
  refine ⟨⟨?_, ?_, ?_⟩, ?_, ?_, ?_⟩ <;> rw [hy] <;> rfl

theorem Hole.sameButMarks_mark (x : Hole) (c : DevClass) : x.SameButMarks (x.mark c) := by
  unfold mark
  split <;> rfl

/-- Checks 8 and 9 pass for a hole's joint: no hole of it is in the other work, and for a setting head every
lower tier is closed (R20). -/
def PlanStore.jointPasses (p : PlanStore) (kind : HeadKind) (x : Hole) : Prop :=
  let j := (p.joints[x.joint]?).getD ⟨[], 0, 0, Vector.replicate 4 0⟩
  j.mixPasses kind = true ∧ j.tierPasses kind x.tier = true

/-! ### The moves -/

/-- What one move does to the Plan Store and the slots' work. -/
inductive HoleMove (s t : State) : Prop
  /-- No hole and no HOLE grant changes. -/
  | stay (hp : t.plan = s.plan) (hw : ∀ h, workAt t.heads h = workAt s.heads h)
  /-- A hole's marks change (R127). -/
  | mark (i : Nat) (f : Hole → Hole) (hf : ∀ x : Hole, x.SameButMarks (f x))
      (hp : t.plan = s.plan.changeHole i f) (hw : ∀ h, workAt t.heads h = workAt s.heads h)
  /-- A hole goes into work under a grant, which names it as it names the grant's slot (R11). -/
  | start (h : Slot) (kind : HeadKind) (i : Nat) (x : Hole) (f : Hole → Hole)
      (hx : s.plan.hole? i = some x) (hs : s.plan.state = .working) (hst : x.state = kind.takes)
      (hj : s.plan.jointPasses kind x) (hh : workAt s.heads h = none)
      (hf : (x.goto kind.working (some h)).SameButMarks (f x))
      (hp : t.plan = s.plan.changeHole i f)
      (hw : ∀ h', workAt t.heads h' = if h' = h then some (kind, i) else workAt s.heads h')
  /-- A hole that would go into work is held instead (R16). -/
  | limit (kind : HeadKind) (i : Nat) (x : Hole) (f : Hole → Hole)
      (hx : s.plan.hole? i = some x) (hs : s.plan.state = .working) (hst : x.state = kind.takes)
      (hj : s.plan.jointPasses kind x) (hf : x.recordFits = true → x.RestsAs (f x))
      (ht : (f x).tierTaken = true → kind = .set)
      (hp : t.plan = s.plan.changeHole i f) (hw : ∀ h, workAt t.heads h = workAt s.heads h)
  /-- A HOLE grant ends, and its hole leaves the work (R13 to R17). -/
  | finish (h : Slot) (kind : HeadKind) (i : Nat) (f : Hole → Hole)
      (hh : workAt s.heads h = some (kind, i))
      (hf : ∀ x : Hole, x.state = kind.working → x.recordFits = true → x.RestsAs (f x))
      (ht : ∀ x : Hole, x.state = kind.working → (f x).tierTaken = true → kind = .set)
      (hp : t.plan = s.plan.changeHole i f)
      (hw : ∀ h', workAt t.heads h' = if h' = h then none else workAt s.heads h')
  /-- A hole on which no slot works is released or excused (R18, R19). -/
  | release (i : Nat) (x : Hole) (f : Hole → Hole) (hx : s.plan.hole? i = some x)
      (hs : s.plan.state = .working) (hst : x.state.excusable = true)
      (hf : x.recordFits = true → x.RestsAs (f x))
      (ht : (f x).tierTaken = true → x.tierTaken = true)
      (hp : t.plan = s.plan.changeHole i f) (hw : ∀ h, workAt t.heads h = workAt s.heads h)
  /-- The frame state, the datum and the release counters change (R7, R9, R21, R22). -/
  | restate (st : FrameState) (jd : Option Int) (redo accepted datum : Nat)
      (hp : t.plan = { s.plan with
        state := st, jd := jd
        counters := { s.plan.counters with
          redoCount := redo, acceptCount := accepted, datumCount := datum } })
      (hg : s.plan.state.atWork → st.atWork)
      (hl : st = .loading ∨ st = .ready → s.plan.state = .loading ∨ s.plan.state = .ready)
      (hw : ∀ h, workAt t.heads h = workAt s.heads h)
  /-- The tables are emptied, or opened with nothing loaded (R2, R8, R24, R163). -/
  | blank (hp : t.plan = .empty ∨ ∃ hd, t.plan = .begun hd)
      (hw : (∀ h, workAt t.heads h = none) ∨
        ¬s.plan.state.atWork ∧ ∀ h, workAt t.heads h = workAt s.heads h)
  /-- A segment row is loaded (R3). -/
  | segment (k : Nat) (row : SegmentRow) (hk : k < s.plan.segCount)
      (hn : (s.plan.segments[k]?).join = none) (hp : t.plan = s.plan.loadSegment k row)
      (hw : ∀ h, workAt t.heads h = workAt s.heads h)
  /-- A bay row is loaded (R4). -/
  | bay (k : Nat) (row : BayRow) (hk : k < s.plan.bayCount)
      (hn : (s.plan.bays[k]?).join = none) (hp : t.plan = s.plan.loadBay k row)
      (hw : ∀ h, workAt t.heads h = workAt s.heads h)
  /-- A hole is loaded PLANNED (R5). -/
  | load (i : Nat) (x : Hole) (hs : s.plan.state = .loading) (hi : i < s.plan.holeCount)
      (hn : s.plan.hole? i = none) (hx : x.state = .planned) (hf : x.recordFits = true)
      (hj : x.joint < s.plan.jointCount) (hp : t.plan = s.plan.loadHole i x)
      (hw : ∀ h, workAt t.heads h = workAt s.heads h)

/-! ### R10 and R11 -/

theorem HeadKind.working_not_excusable (a : HeadKind) : a.working.excusable = false := by
  cases a <;> decide

theorem HeadKind.takes_not_final (a : HeadKind) : a.takes.final = false := by cases a <;> decide

theorem HeadKind.working_not_final (a : HeadKind) : a.working.final = false := by
  cases a <;> decide

theorem HeadKind.takes_excusable (a : HeadKind) : a.takes.excusable = true := by cases a <;> decide

theorem HoleState.excusable_not_final {st : HoleState} (h : st.excusable = true) :
    st.final = false := by
  cases st <;> simp_all [excusable, final]

/-- A hole on which a grant may be made is put into work under it by the parts R10 asks for. -/
theorem Hole.recordFits_start {x y : Hole} {kind : HeadKind} {h : Slot} (hf : x.recordFits = true)
    (hst : x.state = kind.takes)
    (hy : (x.goto kind.working (some h)).SameButMarks y) : y.recordFits = true := by
  obtain ⟨-, -, hfits, -⟩ := hy.parts
  rw [hfits]
  cases kind <;> simp_all [recordFits, HeadKind.takes, HeadKind.working, goto]

/-- What is left to show of R10 and R11 when hole i changes and the slots' work changes about it alone. -/
theorem State.holesKept_of_changeHole {s t : State} {i : Nat} {f : Hole → Hole} (hs : s.holesKept)
    (hp : t.plan = s.plan.changeHole i f)
    (hnew : ∀ x, s.plan.hole? i = some x → (f x).recordFits = true ∧
      ∀ h, (f x).grantHead = some h → ∃ kind, workAt t.heads h = some (kind, i))
    (hon : ∀ h kind, workAt t.heads h = some (kind, i) → s.plan.state.atWork ∧ ∃ x,
      s.plan.hole? i = some x ∧ (f x).state = kind.working ∧ (f x).grantHead = some h)
    (hoff : ∀ h kind j, j ≠ i →
      (workAt t.heads h = some (kind, j) ↔ workAt s.heads h = some (kind, j))) :
    t.holesKept := by
  rw [holesKept_iff] at hs ⊢
  obtain ⟨hgrants, hholes⟩ := hs
  rw [hp]
  constructor
  · intro h kind j hw
    rw [PlanStore.changeHole_state]
    by_cases e : j = i
    · subst e
      obtain ⟨hstate, x, hx, hst, hh⟩ := hon h kind hw
      exact ⟨hstate, f x, by simp [PlanStore.hole?_changeHole_self, hx], hst, hh⟩
    · rw [PlanStore.hole?_changeHole_other _ _ e]
      exact hgrants h kind j ((hoff h kind j e).1 hw)
  · intro j y hy
    by_cases e : j = i
    · subst e
      rw [PlanStore.hole?_changeHole_self] at hy
      obtain ⟨x, hx, rfl⟩ := Option.map_eq_some_iff.1 hy
      exact hnew x hx
    · rw [PlanStore.hole?_changeHole_other _ _ e] at hy
      obtain ⟨hfit, hname⟩ := hholes j y hy
      refine ⟨hfit, fun h hh => ?_⟩
      obtain ⟨kind, hw⟩ := hname h hh
      exact ⟨kind, (hoff h kind j e).2 hw⟩

/-- R10 and R11 stand when no slot works on the changed hole any more and its record says so. -/
theorem State.holesKept_of_rest {s t : State} {i : Nat} {f : Hole → Hole} (hs : s.holesKept)
    (hp : t.plan = s.plan.changeHole i f)
    (hf : ∀ x, s.plan.hole? i = some x → x.RestsAs (f x))
    (hon : ∀ h kind, workAt t.heads h ≠ some (kind, i))
    (hoff : ∀ h kind j, j ≠ i →
      (workAt t.heads h = some (kind, j) ↔ workAt s.heads h = some (kind, j))) :
    t.holesKept := by
  refine holesKept_of_changeHole hs hp (fun x hx => ?_) (fun h kind hw => absurd hw (hon h kind)) hoff
  have hr := hf x hx
  exact ⟨hr.fits, fun h hh => absurd (hr.unnamed.symm.trans hh) (by simp)⟩

/-- No slot works on a hole that is not in work. -/
theorem State.holesKept_idle {s : State} (hs : s.holesKept) {i : Nat} {x : Hole}
    (hx : s.plan.hole? i = some x) (hst : x.state.excusable = true) (h : Slot) (kind : HeadKind) :
    workAt s.heads h ≠ some (kind, i) := by
  intro hw
  obtain ⟨-, y, hy, hyst, -⟩ := (holesKept_iff.1 hs).1 h kind i hw
  obtain rfl : x = y := Option.some.inj (hx.symm.trans hy)
  rw [hyst, HeadKind.working_not_excusable] at hst
  exact absurd hst (by decide)

/-- A slot that works on a hole is the only one that does. -/
theorem State.holesKept_unique {s : State} (hs : s.holesKept) {i : Nat} {h h' : Slot}
    {kind kind' : HeadKind} (hw : workAt s.heads h = some (kind, i))
    (hw' : workAt s.heads h' = some (kind', i)) : h' = h := by
  obtain ⟨-, x, hx, -, hh⟩ := (holesKept_iff.1 hs).1 h kind i hw
  obtain ⟨-, y, hy, -, hh'⟩ := (holesKept_iff.1 hs).1 h' kind' i hw'
  obtain rfl : x = y := Option.some.inj (hx.symm.trans hy)
  exact Option.some.inj (hh'.symm.trans hh)

/-- R10 and R11 stand when the loaded holes and the slots' work do, and the frame does not leave WORKING or
COMPLETE. -/
theorem State.holesKept_of_same {s t : State} (hs : s.holesKept)
    (hh : ∀ i, t.plan.hole? i = s.plan.hole? i) (hg : s.plan.state.atWork → t.plan.state.atWork)
    (hw : ∀ h, workAt t.heads h = workAt s.heads h) : t.holesKept := by
  rw [holesKept_iff] at hs ⊢
  simp only [hh, hw]
  exact ⟨fun h kind i e => (hs.1 h kind i e).imp_left hg, hs.2⟩

/-- Every move keeps the laws of R10 and R11. -/
theorem HoleMove.holesKept {s t : State} (hm : HoleMove s t) (hs : s.holesKept) : t.holesKept := by
  obtain ⟨hgrants, hholes⟩ := State.holesKept_iff.1 hs
  cases hm with
  | stay hp hw => exact State.holesKept_of_same hs (by simp [hp]) (by simp [hp]) hw
  | mark i f hf hp hw =>
    refine State.holesKept_of_changeHole hs hp (fun x hx => ?_) (fun h kind e => ?_)
      (fun h kind j _ => by rw [hw])
    · obtain ⟨-, hgh, hfits, -⟩ := (hf x).parts
      simp only [hfits, hgh, hw]
      exact hholes i x hx
    · obtain ⟨hstate, x, hx, hst, hname⟩ := hgrants h kind i (hw h ▸ e)
      obtain ⟨⟨-, -, hfst⟩, hgh, -⟩ := (hf x).parts
      exact ⟨hstate, x, hx, hfst.trans hst, hgh.trans hname⟩
  | start h kind i x f hx hstate hst hj hh hf hp hw =>
    have hidle := State.holesKept_idle hs hx (hst ▸ kind.takes_excusable)
    obtain ⟨⟨-, -, hfst⟩, hgh, -⟩ := hf.parts
    refine State.holesKept_of_changeHole hs hp (fun y hy => ?_) (fun h' kind' e => ?_)
      (fun h' kind' j hj => ?_)
    · obtain rfl : x = y := Option.some.inj (hx.symm.trans hy)
      refine ⟨Hole.recordFits_start (hholes i x hx).1 hst hf, fun h' hname => ?_⟩
      have hname' : some h = some h' := hgh.symm.trans hname
      exact ⟨kind, by rw [hw, if_pos (Option.some.inj hname').symm]⟩
    · rw [hw] at e
      split at e
      · rename_i eh
        obtain ⟨rfl, -⟩ := Prod.mk.inj (Option.some.inj e)
        exact ⟨.inl hstate, x, hx, hfst, eh ▸ hgh⟩
      · exact absurd e (hidle h' kind')
    · rw [hw]
      split
      · rename_i eh
        subst eh
        simp [hh, Ne.symm hj]
      · rfl
  | limit kind i x f hx hstate hst hj hf ht hp hw =>
    have hidle := State.holesKept_idle hs hx (hst ▸ kind.takes_excusable)
    refine State.holesKept_of_rest hs hp (fun y hy => ?_) (fun h k => by rw [hw]; exact hidle h k)
      (fun h k j _ => by rw [hw])
    obtain rfl : x = y := Option.some.inj (hx.symm.trans hy)
    exact hf (hholes i x hx).1
  | release i x f hx hstate hst hf ht hp hw =>
    have hidle := State.holesKept_idle hs hx hst
    refine State.holesKept_of_rest hs hp (fun y hy => ?_) (fun h k => by rw [hw]; exact hidle h k)
      (fun h k j _ => by rw [hw])
    obtain rfl : x = y := Option.some.inj (hx.symm.trans hy)
    exact hf (hholes i x hx).1
  | finish h kind i f hh hf ht hp hw =>
    obtain ⟨-, x, hx, hst, -⟩ := hgrants h kind i hh
    refine State.holesKept_of_rest hs hp (fun y hy => ?_) (fun h' k e => ?_) (fun h' k j hj => ?_)
    · obtain rfl : x = y := Option.some.inj (hx.symm.trans hy)
      exact hf x hst (hholes i x hx).1
    · rw [hw] at e
      split at e
      · exact absurd e (by simp)
      · rename_i ne
        exact ne (State.holesKept_unique hs hh e)
    · rw [hw]
      split
      · rename_i eh
        subst eh
        simp [hh, Ne.symm hj]
      · rfl
  | restate st jd redo accepted datum hp hg hl hw =>
    exact State.holesKept_of_same hs (by simp [hp, PlanStore.hole?]) (by simpa [hp] using hg) hw
  | blank hp hw =>
    have hnone : t.plan.loaded = [] := by
      rcases hp with e | ⟨hd, e⟩
      · rw [e]; rfl
      · rw [e]; exact PlanStore.loaded_begun hd
    have hidle : ∀ h, workAt t.heads h = none := by
      rcases hw with hw | ⟨hstate, hw⟩
      · exact hw
      · intro h
        rw [hw, Option.eq_none_iff_forall_ne_some]
        exact fun k e => hstate (hgrants h k.1 k.2 e).1
    refine State.holesKept_iff.2 ⟨fun h k i e => by simp [hidle] at e, fun i x hx => ?_⟩
    have := PlanStore.mem_loaded_of_hole? hx
    simp [hnone] at this
  | segment k row hk hn hp hw =>
    exact State.holesKept_of_same hs (by simp [hp, PlanStore.loadSegment, PlanStore.hole?])
      (by simp [hp, PlanStore.loadSegment]) hw
  | bay k row hk hn hp hw =>
    exact State.holesKept_of_same hs (by simp [hp, PlanStore.loadBay, PlanStore.hole?])
      (by simp [hp, PlanStore.loadBay]) hw
  | load i x hstate hi hn hx hf hj hp hw =>
    have hidle : ∀ h, workAt t.heads h = none := by
      intro h
      rw [hw, Option.eq_none_iff_forall_ne_some]
      intro k e
      have := (hgrants h k.1 k.2 e).1
      simp [hstate, FrameState.atWork] at this
    refine State.holesKept_iff.2 ⟨fun h k i e => by simp [hidle] at e, fun j y hy => ?_⟩
    rcases PlanStore.hole?_loadHole_cases (hp ▸ hy) with rfl | hy
    · refine ⟨hf, fun h hname => ?_⟩
      simp [Hole.recordFits, hx, hname] at hf
    · simp only [hw]
      exact hholes j y hy

/-! ### R20 and R22 -/

/-- Every move keeps the counts, where the laws of R10 and R11 hold. -/
theorem HoleMove.countsKept {s t : State} (hm : HoleMove s t) (hs : s.holesKept)
    (hc : s.plan.countsKept) : t.plan.countsKept := by
  obtain ⟨hgrants, hholes⟩ := State.holesKept_iff.1 hs
  cases hm with
  | stay hp hw => exact hp ▸ hc
  | mark i f hf hp hw =>
    rw [hp]
    cases hx : s.plan.hole? i with
    | none => rwa [PlanStore.changeHole_of_none f hx]
    | some x =>
      obtain ⟨⟨hjoint, htier, hfst⟩, -⟩ := (hf x).parts
      exact PlanStore.countsKept_changeHole hx hjoint htier (by rw [hfst]; exact id) hc
  | start h kind i x f hx hstate hst hj hh hf hp hw =>
    obtain ⟨⟨hjoint, htier, -⟩, -⟩ := hf.parts
    rw [hp]
    refine PlanStore.countsKept_changeHole hx hjoint htier (fun hfin => ?_) hc
    simp [hst, kind.takes_not_final] at hfin
  | limit kind i x f hx hstate hst hj hf ht hp hw =>
    have hr := hf (hholes i x hx).1
    rw [hp]
    refine PlanStore.countsKept_changeHole hx hr.joint hr.tier (fun hfin => ?_) hc
    simp [hst, kind.takes_not_final] at hfin
  | release i x f hx hstate hst hf ht hp hw =>
    have hr := hf (hholes i x hx).1
    rw [hp]
    refine PlanStore.countsKept_changeHole hx hr.joint hr.tier (fun hfin => ?_) hc
    simp [HoleState.excusable_not_final hst] at hfin
  | finish h kind i f hh hf ht hp hw =>
    obtain ⟨-, x, hx, hst, -⟩ := hgrants h kind i hh
    have hr := hf x hst (hholes i x hx).1
    rw [hp]
    refine PlanStore.countsKept_changeHole hx hr.joint hr.tier (fun hfin => ?_) hc
    simp [hst, kind.working_not_final] at hfin
  | restate st jd redo accepted datum hp hg hl hw =>
    rw [hp]
    exact hc
  | blank hp hw =>
    rcases hp with e | ⟨hd, e⟩ <;> rw [e]
    · exact PlanStore.countsKept_empty
    · exact PlanStore.countsKept_begun hd
  | segment k row hk hn hp hw =>
    have ⟨_, _, hsegs, _⟩ := hc
    exact hp ▸ PlanStore.countsKept_loadSegment row (getElem?_of_join_none (hsegs ▸ hk) hn) hc
  | bay k row hk hn hp hw =>
    have ⟨_, _, _, hbays, _⟩ := hc
    exact hp ▸ PlanStore.countsKept_loadBay row (getElem?_of_join_none (hbays ▸ hk) hn) hc
  | load i x hstate hi hn hx hf hj hp hw =>
    have ⟨hholes, _⟩ := hc
    exact hp ▸ PlanStore.countsKept_loadHole (getElem?_of_join_none (hholes ▸ hi) hn) hx hj hc

/-- No hole of a joint is in the other work when check 8 passes for it (R20). -/
theorem PlanStore.countsKept_mixPasses {p : PlanStore} (hc : p.countsKept) {kind : HeadKind}
    {x z : Hole} (hx : x ∈ p.loaded) (hj : p.jointPasses kind x) (hz : z ∈ p.loaded)
    (hzj : z.joint = x.joint) :
    (kind = .drill → z.state ≠ .setting) ∧ (kind = .set → z.state ≠ .drilling) := by
  obtain ⟨-, -, -, -, hnames, -, -, -, -, hfits⟩ := hc
  obtain ⟨r, hr, hfit⟩ := (Option.any_eq_true _ _).1 (hfits _ (hnames x hx))
  obtain ⟨hmix, -⟩ := hj
  simp only [jointFits, Bool.and_eq_true, beq_iff_eq] at hfit
  obtain ⟨⟨⟨-, hdrill⟩, hset⟩, -⟩ := hfit
  simp only [hr, Option.getD_some] at hmix
  constructor
  · rintro rfl hstate
    have h0 : r.settingCount = 0 := by simpa [Joint.mixPasses] using hmix
    have := List.countP_eq_zero.1 (hset ▸ h0) z hz
    simp [hzj, hstate] at this
  · rintro rfl hstate
    have h0 : r.drillingCount = 0 := by simpa [Joint.mixPasses] using hmix
    have := List.countP_eq_zero.1 (hdrill ▸ h0) z hz
    simp [hzj, hstate] at this

/-- Every hole of a lower tier of the joint is final when check 9 passes for a setting head (R20). -/
theorem PlanStore.countsKept_tierPasses {p : PlanStore} (hc : p.countsKept) {x z : Hole}
    (hx : x ∈ p.loaded) (hj : p.jointPasses .set x) (hz : z ∈ p.loaded) (hzj : z.joint = x.joint)
    (hzt : z.tier < x.tier) : z.state.final = true := by
  obtain ⟨-, -, -, -, hnames, -, -, -, -, hfits⟩ := hc
  obtain ⟨r, hr, hfit⟩ := (Option.any_eq_true _ _).1 (hfits _ (hnames x hx))
  obtain ⟨-, htier⟩ := hj
  simp only [jointFits, Bool.and_eq_true, List.all_eq_true, beq_iff_eq] at hfit
  obtain ⟨-, hopen⟩ := hfit
  have hmem : z.tier ∈ indices 4 := List.mem_finRange _
  have h0 : r.tierOpen[z.tier] = 0 := by
    simp only [hr, Option.getD_some, Joint.tierPasses, Bool.or_eq_true, List.all_eq_true] at htier
    simpa [hzt] using htier.resolve_left (by decide) z.tier hmem
  have := List.countP_eq_zero.1 (hopen z.tier hmem ▸ h0) z hz
  simpa [hzj] using this

/-- What is left to show of the order of joints when one hole changes: a tier newly taken waited for the
lower ones, and a work newly begun is not mixed with the other. -/
theorem PlanStore.orderKept_changeHole {p : PlanStore} {i : Nat} {f : Hole → Hole} {x : Hole}
    (hx : p.hole? i = some x) (hjoint : (f x).joint = x.joint) (htier : (f x).tier = x.tier)
    (hfinal : x.state.final = true → (f x).state.final = true)
    (hload : p.state = .loading ∨ p.state = .ready → (f x).state = x.state)
    (htaken : (f x).tierTaken = true → x.tierTaken = true ∨
      ∀ z ∈ p.loaded, z.joint = x.joint → z.tier < x.tier → z.state.final = true)
    (hdrill : (f x).state = .drilling → x.state = .drilling ∨
      ∀ z ∈ p.loaded, z.joint = x.joint → z.state ≠ .setting)
    (hset : (f x).state = .setting → x.state = .setting ∨
      ∀ z ∈ p.loaded, z.joint = x.joint → z.state ≠ .drilling)
    (h : p.orderKept) : (p.changeHole i f).orderKept := by
  have hxl := mem_loaded_of_hole? hx
  obtain ⟨htiers, hmix, hplanned⟩ := h
  refine ⟨?_, ?_, ?_⟩
  · intro y hy z hz hyz hyt hzy
    rcases mem_loaded_changeHole hx hy with rfl | hy <;>
      rcases mem_loaded_changeHole hx hz with rfl | hz
    · exact absurd hzy (lt_irrefl _)
    · rw [hjoint] at hyz
      rw [htier] at hzy
      rcases htaken hyt with hxt | hall
      · exact htiers x hxl z hz hyz hxt hzy
      · exact hall z hz hyz.symm hzy
    · exact hfinal (htiers y hy x hxl (hyz.trans hjoint) hyt (htier ▸ hzy))
    · exact htiers y hy z hz hyz hyt hzy
  · intro y hy z hz hyz hyd
    rcases mem_loaded_changeHole hx hy with rfl | hy <;>
      rcases mem_loaded_changeHole hx hz with rfl | hz
    · simp [hyd]
    · rw [hjoint] at hyz
      rcases hdrill hyd with hxd | hall
      · exact hmix x hxl z hz hyz hxd
      · exact hall z hz hyz.symm
    · intro hzs
      rcases hset hzs with hxs | hall
      · exact hmix y hy x hxl (hyz.trans hjoint) hyd hxs
      · exact hall y hy (hyz.trans hjoint) hyd
    · exact hmix y hy z hz hyz hyd
  · intro hstate y hy
    rw [changeHole_state] at hstate
    rcases mem_loaded_changeHole hx hy with rfl | hy
    · rw [hload hstate]; exact hplanned hstate x hxl
    · exact hplanned hstate y hy

/-- A hole that no slot works on is not in work. -/
theorem Hole.RestsAs.not_working {x y : Hole} (h : x.RestsAs y) :
    y.state ≠ .drilling ∧ y.state ≠ .setting := by
  have hfit := h.fits
  constructor <;> intro hst <;> simp [recordFits, hst, h.unnamed] at hfit

/-- Every move keeps the order of joints, where the laws of R10, R11 and the counts hold. -/
theorem HoleMove.orderKept {s t : State} (hm : HoleMove s t) (hs : s.holesKept)
    (hc : s.plan.countsKept) (ho : s.plan.orderKept) : t.plan.orderKept := by
  obtain ⟨hgrants, hholes⟩ := State.holesKept_iff.1 hs
  cases hm with
  | stay hp hw => exact hp ▸ ho
  | mark i f hf hp hw =>
    rw [hp]
    cases hx : s.plan.hole? i with
    | none => rwa [PlanStore.changeHole_of_none f hx]
    | some x =>
      obtain ⟨⟨hjoint, htier, hstate⟩, -, -, htaken⟩ := (hf x).parts
      exact PlanStore.orderKept_changeHole hx hjoint htier (by rw [hstate]; exact id)
        (fun _ => hstate) (fun h => .inl (htaken ▸ h)) (fun h => .inl (hstate ▸ h))
        (fun h => .inl (hstate ▸ h)) ho
  | start h kind i x f hx hstate hst hj hh hf hp hw =>
    have hxl := PlanStore.mem_loaded_of_hole? hx
    have hmix := fun z hz hzj => PlanStore.countsKept_mixPasses hc hxl hj (z := z) hz hzj
    obtain ⟨⟨hjoint, htier, hwork⟩, -⟩ := hf.parts
    have hwork : (f x).state = kind.working := hwork
    rw [hp]
    refine PlanStore.orderKept_changeHole hx hjoint htier (fun hfin => ?_)
      (fun hl => ?_) (fun htk => .inr ?_) (fun hd => .inr ?_) (fun hd => .inr ?_) ho
    · simp [hst, kind.takes_not_final] at hfin
    · simp [hstate] at hl
    · have hkind : kind = .set := by
        cases kind
        · simp [Hole.tierTaken, hwork, HeadKind.working] at htk
        · rfl
      subst hkind
      exact fun z hz hzj => PlanStore.countsKept_tierPasses hc hxl hj hz hzj
    · have hkind : kind = .drill := by
        cases kind
        · rfl
        · simp [hwork, HeadKind.working] at hd
      exact fun z hz hzj => (hmix z hz hzj).1 hkind
    · have hkind : kind = .set := by
        cases kind
        · simp [hwork, HeadKind.working] at hd
        · rfl
      exact fun z hz hzj => (hmix z hz hzj).2 hkind
  | limit kind i x f hx hstate hst hj hf ht hp hw =>
    have hxl := PlanStore.mem_loaded_of_hole? hx
    have hr := hf (hholes i x hx).1
    rw [hp]
    refine PlanStore.orderKept_changeHole hx hr.joint hr.tier (fun hfin => ?_) (fun hl => ?_)
      (fun htk => .inr ?_) (fun hd => absurd hd hr.not_working.1)
      (fun hd => absurd hd hr.not_working.2) ho
    · simp [hst, kind.takes_not_final] at hfin
    · simp [hstate] at hl
    · obtain rfl := ht htk
      exact fun z hz hzj => PlanStore.countsKept_tierPasses hc hxl hj hz hzj
  | release i x f hx hstate hst hf ht hp hw =>
    have hr := hf (hholes i x hx).1
    rw [hp]
    refine PlanStore.orderKept_changeHole hx hr.joint hr.tier (fun hfin => ?_) (fun hl => ?_)
      (fun htk => .inl (ht htk)) (fun hd => absurd hd hr.not_working.1)
      (fun hd => absurd hd hr.not_working.2) ho
    · simp [HoleState.excusable_not_final hst] at hfin
    · simp [hstate] at hl
  | finish h kind i f hh hf ht hp hw =>
    obtain ⟨hstate, x, hx, hst, -⟩ := hgrants h kind i hh
    have hr := hf x hst (hholes i x hx).1
    rw [hp]
    refine PlanStore.orderKept_changeHole hx hr.joint hr.tier (fun hfin => ?_) (fun hl => ?_)
      (fun htk => .inl ?_) (fun hd => absurd hd hr.not_working.1)
      (fun hd => absurd hd hr.not_working.2) ho
    · simp [hst, kind.working_not_final] at hfin
    · rcases hstate with e | e <;> simp [e] at hl
    · obtain rfl := ht x hst htk
      simp [Hole.tierTaken, hst, HeadKind.working]
  | restate st jd redo accepted datum hp hg hl hw =>
    obtain ⟨htiers, hmix, hplanned⟩ := ho
    rw [hp]
    exact ⟨htiers, hmix, fun hst => hplanned (hl hst)⟩
  | blank hp hw =>
    have hnone : t.plan.loaded = [] := by
      rcases hp with e | ⟨hd, e⟩ <;> rw [e]
      · rfl
      · exact PlanStore.loaded_begun hd
    refine ⟨?_, ?_, ?_⟩ <;> simp [hnone]
  | segment k row hk hn hp hw => exact hp ▸ ho
  | bay k row hk hn hp hw => exact hp ▸ ho
  | load i x hstate hi hn hx hf hj hp hw =>
    obtain ⟨-, -, hplanned⟩ := ho
    have hall : ∀ y ∈ t.plan.loaded, y.state = .planned := by
      intro y hy
      rw [hp] at hy
      rcases PlanStore.mem_loaded_loadHole hy with rfl | hy
      · exact hx
      · exact hplanned (.inl hstate) y hy
    refine ⟨fun y hy z hz _ htk => ?_, fun y hy z hz _ hd => ?_, fun _ => hall⟩
    · simp [Hole.tierTaken, hall y hy] at htk
    · simp [hall y hy] at hd

/-! ### Runs of moves -/

/-- A run of moves. -/
def HoleMoves : State → State → Prop := Relation.ReflTransGen HoleMove

/-- A run of moves keeps the laws of R10, R11, R20 and R22. -/
theorem HoleMoves.kept {s t : State} (hm : HoleMoves s t) (hs : s.holesKept) :
    t.holesKept ∧ (s.plan.countsKept → t.plan.countsKept)
      ∧ (s.plan.countsKept → s.plan.orderKept → t.plan.orderKept) := by
  induction hm with
  | refl => exact ⟨hs, id, fun _ => id⟩
  | tail _ hm ih =>
    obtain ⟨hh, hc, ho⟩ := ih
    exact ⟨hm.holesKept hh, fun h => hm.countsKept hh (hc h),
      fun h h' => hm.orderKept hh (hc h) (ho h h')⟩

end Sys2Proof.Machine
end

section
/-! SUPPORT. The shared operations as equations of states: what each writes, and that it writes nothing
else. -/

namespace Sys2Proof.Machine

/-! ### Pending notices (R126, R145, R173) -/

theorem State.clearPending_eq (s : State) (p : PortId) (k : NoticeKind) :
    s.clearPending p k = { s with ports := unpendedPorts s.ports p k } := by
  have h : (fun x => !(x == k)) = (fun x : NoticeKind => decide (x ≠ k)) := by
    funext x
    by_cases e : x = k <;> simp [e]
  simp only [clearPending, setPort, unpendedPorts, h]

/-- The ports after a raising of a class: DEVIATION is pending on P8 if the flag was clear (R126). -/
def State.flaggedPorts (s : State) (c : DevClass) : Vector Port 10 :=
  if s.dev.flags[c.index] then s.ports else pendedPorts s.ports supervisorPort .deviation

/-- The ports after a record was written: ATTENTION is pending on P8 if the count came to the threshold
(R145). -/
def State.recordedPorts (s : State) : Vector Port 10 :=
  if s.log.records.length < s.params.logThreshold
      ∧ s.params.logThreshold ≤ s.log.records.length + 1 then
    pendedPorts s.ports supervisorPort .attention
  else s.ports

theorem State.setFlag_eq (s : State) (c : DevClass) : s.setFlag c = { s with
    dev := { s.dev with flags := s.dev.flags.set c.index true }
    ports := s.flaggedPorts c } := by
  unfold setFlag flaggedPorts
  cases h : s.dev.flags[c.index]
  · simp only [makePending_eq, setDev, Bool.false_eq_true, if_false]
  · rfl

theorem State.fillFirst_eq (s : State) (c : DevClass) (hole : Option Nat) (head : Option Slot)
    (a b : Int) : s.fillFirst c hole head a b = { s with
      dev := { s.dev with
        first := s.dev.first.or (some ⟨c, s.plan.header.map PlanHeader.frameId, hole, head, s.clock,
          a, b⟩) } } := by
  unfold fillFirst
  cases h : s.dev.first with
  | none => rfl
  | some f =>
    simp only [Option.some_or]
    rw [← h]

/-- A raising for a hole: the flag, the mark and the first-deviation record (R126 to R128). -/
theorem State.raiseForHole_eq (s : State) (c : DevClass) (hole : Nat) (head : Slot) (a b : Int) :
    s.raiseForHole c hole head a b = { s with
      plan := s.plan.changeHole hole (fun x => x.mark c)
      dev := raisedDev s c (some hole) (some head) a b
      ports := s.flaggedPorts c } := by
  simp only [raiseForHole, setFlag_eq, changeHole, setPlan, fillFirst_eq, raisedDev,
    PlanStore.changeHole_header]

/-- A raising that is bound to no hole: the flag and the first-deviation record (R126, R128). -/
theorem State.raiseUnbound_eq (s : State) (c : DevClass) (a b : Int) :
    s.raiseUnbound c a b = { s with
      dev := raisedDev s c none none a b
      ports := s.flaggedPorts c } := by
  simp only [raiseUnbound, setFlag_eq, fillFirst_eq, raisedDev]

/-- A record joins the log's end, and ATTENTION may become pending (R138, R145). -/
theorem State.writeLog_record (s : State) (hole : Nat) (event : LogEvent) (accepted : Bool) :
    s.writeLog hole event accepted = { s with
      log := { s.log with
        records := s.log.records ++ [⟨s.log.sequence, hole, event, accepted, s.clock⟩]
        sequence := s.log.sequence + 1 }
      ports := s.recordedPorts } := by
  unfold writeLog recordedPorts
  simp only
  split
  · rw [makePending_eq]
    rfl
  · rfl

/-- The ports after a head went from one state to another: HEAD_STATE is pending on P8 if it entered or
left a state of trouble (R87). -/
def State.troubledPorts (s : State) (before after : HeadState) : Vector Port 10 :=
  (s.noteTrouble before after).ports

theorem State.noteTrouble_eq (s : State) (before after : HeadState) :
    s.noteTrouble before after = { s with ports := s.troubledPorts before after } := by
  unfold troubledPorts noteTrouble
  simp only
  split
  · rw [makePending_eq]
  · rfl

/-! ### The heads and their grants (R61, R78) -/

/-- A last hold is written to an attached head and changes nothing else. -/
theorem State.setLastHold_eq (s : State) (h : Slot) (hole : Nat) (cls : DevClass) :
    s.setLastHold h hole cls = { s with
      heads := s.heads.set h
        (s.heads[h].map (fun hd => { hd with lastHold := some ⟨hole, cls, s.clock⟩ })) } := by
  unfold setLastHold
  cases e : s.heads[h] with
  | none =>
    have : s.heads.set h none = s.heads := by rw [← e]; simp
    rw [Option.map_none, this]
  | some hd => rfl

theorem State.endMoveGrant_eq (s : State) (h : Slot) (status : HeadStatus) :
    s.endMoveGrant h status = { s with
      timers := s.timers.set h .stopped
      heads := s.heads.set h (s.heads[h].map (fun hd => { hd with status := status })) } := by
  simp only [endMoveGrant, stopTimer, setTimer, setStatus_eq]

/-- The end of a HOLE grant: tray, pending FEED_GIVEN, place in the log, timer and head (R78, R115, R140). -/
theorem State.endHoleGrant_eq (s : State) (h : Slot) (g : HoleGrant) (spent : Bool)
    (status : HeadStatus) : s.endHoleGrant h g spent status = { s with
      heat := s.heat.releaseHead h (g.rivet.isSome && !spent)
      ports := unpendedPorts s.ports (headPort h) .feedGiven
      log := { s.log with inFlight := s.log.inFlight - 1 }
      timers := s.timers.set h .stopped
      heads := s.heads.set h (s.heads[h].map (fun hd => { hd with status := status })) } := by
  simp only [endHoleGrant, setHeat, clearPending_eq, setLog, stopTimer, setTimer, setStatus_eq]

/-- Writing a head twice is writing it the second time. -/
theorem heads_set_set (heads : Vector (Option Head) 8) (h : Slot) (f g : Head → Head) :
    (heads.set h (heads[h].map f)).set h ((heads.set h (heads[h].map f))[h].map g)
      = heads.set h (heads[h].map (fun hd => g (f hd))) := by
  simp [Function.comp_def]

/-- A HOLE grant that ends with its hole held: the grant's end, the record of the hold and the last hold
(R78, R139). -/
theorem State.endWithHold_eq (s : State) (h : Slot) (hd : Head) (g : HoleGrant) (cls : DevClass)
    (status : HeadStatus) : s.endWithHold h hd g cls status =
      let u := (s.changeHole g.hole (fun x => x.hold hd.kind.work cls)).endHoleGrant h g false status
      { u with
        log := { u.log with
          records := s.log.records ++ [⟨s.log.sequence, g.hole, .held h g.x none cls, false, s.clock⟩]
          sequence := s.log.sequence + 1 }
        ports := u.recordedPorts
        heads := s.heads.set h (s.heads[h].map (fun hd =>
          { hd with status := status, lastHold := some ⟨g.hole, cls, s.clock⟩ })) } := by
  simp only [endWithHold, writeLog_record, setLastHold_eq]
  simp only [endHoleGrant_eq, heads_set_set]
  rfl

end Sys2Proof.Machine
end

section
/-! SUPPORT. What the shared operations leave of the Plan Store and of the slots' work. -/

namespace Sys2Proof.Machine

section
variable (s : State)

/-! ### The Plan Store and the heads after an operation -/

@[simp] theorem State.makePending_plan (p : PortId) (k : NoticeKind) :
    (s.makePending p k).plan = s.plan := by rw [makePending_eq]
@[simp] theorem State.makePending_heads (p : PortId) (k : NoticeKind) :
    (s.makePending p k).heads = s.heads := by rw [makePending_eq]
@[simp] theorem State.clearPending_plan (p : PortId) (k : NoticeKind) :
    (s.clearPending p k).plan = s.plan := rfl
@[simp] theorem State.clearPending_heads (p : PortId) (k : NoticeKind) :
    (s.clearPending p k).heads = s.heads := rfl
@[simp] theorem State.noteTrouble_plan (a b : HeadState) : (s.noteTrouble a b).plan = s.plan := by
  rw [noteTrouble_eq]
@[simp] theorem State.noteTrouble_heads (a b : HeadState) : (s.noteTrouble a b).heads = s.heads := by
  rw [noteTrouble_eq]
@[simp] theorem State.judgeFreeze_plan : s.judgeFreeze.plan = s.plan := rfl
@[simp] theorem State.judgeFreeze_heads : s.judgeFreeze.heads = s.heads := rfl
@[simp] theorem State.placeOn_plan (r : Rail) (e : Entry) : (s.placeOn r e).plan = s.plan := rfl
@[simp] theorem State.placeOn_heads (r : Rail) (e : Entry) : (s.placeOn r e).heads = s.heads := rfl
@[simp] theorem State.removeEntry_plan (r : Rail) (h : Slot) : (s.removeEntry r h).plan = s.plan := rfl
@[simp] theorem State.removeEntry_heads (r : Rail) (h : Slot) :
    (s.removeEntry r h).heads = s.heads := rfl
@[simp] theorem State.startTimer_plan (h : Slot) (st : TimerStage) (n : Nat) :
    (s.startTimer h st n).plan = s.plan := rfl
@[simp] theorem State.startTimer_heads (h : Slot) (st : TimerStage) (n : Nat) :
    (s.startTimer h st n).heads = s.heads := rfl
@[simp] theorem State.stopTimer_plan (h : Slot) : (s.stopTimer h).plan = s.plan := rfl
@[simp] theorem State.stopTimer_heads (h : Slot) : (s.stopTimer h).heads = s.heads := rfl
@[simp] theorem State.changeHole_plan (i : Nat) (f : Hole → Hole) :
    (s.changeHole i f).plan = s.plan.changeHole i f := rfl
@[simp] theorem State.changeHole_heads (i : Nat) (f : Hole → Hole) :
    (s.changeHole i f).heads = s.heads := rfl
@[simp] theorem State.testComplete_plan : s.testComplete.plan = s.plan.testComplete := rfl
@[simp] theorem State.testComplete_heads : s.testComplete.heads = s.heads := rfl
@[simp] theorem State.writeLog_plan (i : Nat) (e : LogEvent) (a : Bool) :
    (s.writeLog i e a).plan = s.plan := by rw [writeLog_record]
@[simp] theorem State.writeLog_heads (i : Nat) (e : LogEvent) (a : Bool) :
    (s.writeLog i e a).heads = s.heads := by rw [writeLog_record]
@[simp] theorem State.raiseForHole_plan (c : DevClass) (i : Nat) (h : Slot) (a b : Int) :
    (s.raiseForHole c i h a b).plan = s.plan.changeHole i (fun x => x.mark c) := by
  rw [raiseForHole_eq]
@[simp] theorem State.raiseForHole_heads (c : DevClass) (i : Nat) (h : Slot) (a b : Int) :
    (s.raiseForHole c i h a b).heads = s.heads := by rw [raiseForHole_eq]
@[simp] theorem State.raiseUnbound_plan (c : DevClass) (a b : Int) :
    (s.raiseUnbound c a b).plan = s.plan := by rw [raiseUnbound_eq]
@[simp] theorem State.raiseUnbound_heads (c : DevClass) (a b : Int) :
    (s.raiseUnbound c a b).heads = s.heads := by rw [raiseUnbound_eq]
@[simp] theorem State.setStatus_plan (h : Slot) (st : HeadStatus) :
    (s.setStatus h st).plan = s.plan := by rw [setStatus_eq]
@[simp] theorem State.setLastHold_plan (h : Slot) (i : Nat) (c : DevClass) :
    (s.setLastHold h i c).plan = s.plan := by rw [setLastHold_eq]
@[simp] theorem State.endMoveGrant_plan (h : Slot) (st : HeadStatus) :
    (s.endMoveGrant h st).plan = s.plan := by rw [endMoveGrant_eq]
@[simp] theorem State.endHoleGrant_plan (h : Slot) (g : HoleGrant) (spent : Bool) (st : HeadStatus) :
    (s.endHoleGrant h g spent st).plan = s.plan := by rw [endHoleGrant_eq]
@[simp] theorem State.sendNotices_plan : s.sendNotices.plan = s.plan := by rw [sendNotices_eq]
@[simp] theorem State.sendNotices_heads : s.sendNotices.heads = s.heads := by rw [sendNotices_eq]

/-! ### The slots' work after an operation -/

theorem workAt_of_head {heads : Vector (Option Head) 8} {h : Slot} {hd : Head}
    (hh : heads[h] = some hd) : workAt heads h = hd.holeWork := by
  rw [workAt, hh]
  rfl

/-- A head is written with the work it had: the slots' work stands. -/
theorem workAt_set_same {heads : Vector (Option Head) 8} {h : Slot} {v : Option Head}
    (hv : v.bind Head.holeWork = workAt heads h) (h' : Slot) :
    workAt (heads.set h v) h' = workAt heads h' := by
  rw [workAt_set]
  split
  · rename_i e; rw [e, hv]
  · rfl

/-- A status without a HOLE grant leaves the slot without work. -/
theorem workAt_setStatus (h : Slot) {st : HeadStatus} (hst : st.holeGrant = none) (h' : Slot) :
    workAt (s.setStatus h st).heads h' = if h' = h then none else workAt s.heads h' := by
  rw [State.setStatus_eq, workAt_set]
  cases s.heads[h] <;> simp [Head.holeWork, hst]

theorem workAt_setLastHold (h : Slot) (i : Nat) (c : DevClass) (h' : Slot) :
    workAt (s.setLastHold h i c).heads h' = workAt s.heads h' := by
  rw [State.setLastHold_eq]
  refine workAt_set_same ?_ h'
  rw [workAt]
  cases s.heads[h] <;> rfl

theorem workAt_endMoveGrant (h : Slot) {st : HeadStatus} (hst : st.holeGrant = none) (h' : Slot) :
    workAt (s.endMoveGrant h st).heads h' = if h' = h then none else workAt s.heads h' :=
  workAt_setStatus (s.stopTimer h) h hst h'

theorem workAt_endHoleGrant (h : Slot) (g : HoleGrant) (spent : Bool) {st : HeadStatus}
    (hst : st.holeGrant = none) (h' : Slot) : workAt (s.endHoleGrant h g spent st).heads h'
      = if h' = h then none else workAt s.heads h' :=
  workAt_setStatus _ h hst h'

theorem State.endWithHold_plan (h : Slot) (hd : Head) (g : HoleGrant) (c : DevClass)
    (st : HeadStatus) : (s.endWithHold h hd g c st).plan
      = s.plan.changeHole g.hole (fun x => x.hold hd.kind.work c) := by simp [endWithHold]

theorem workAt_endWithHold (h : Slot) (hd : Head) (g : HoleGrant) (c : DevClass) {st : HeadStatus}
    (hst : st.holeGrant = none) (h' : Slot) : workAt (s.endWithHold h hd g c st).heads h'
      = if h' = h then none else workAt s.heads h' := by
  rw [State.endWithHold, workAt_setLastHold, State.writeLog_heads, workAt_endHoleGrant _ _ _ _ hst,
    State.changeHole_heads]

end

/-! ### Moves of the operations -/

variable {s t u : State}

theorem HoleMoves.stay (hp : t.plan = s.plan) (hw : ∀ h, workAt t.heads h = workAt s.heads h) :
    HoleMoves s t := .single (.stay hp hw)

theorem HoleMoves.same (hp : t.plan = s.plan) (hh : t.heads = s.heads) : HoleMoves s t :=
  .stay hp (fun _ => by rw [hh])

theorem HoleMoves.refl (s : State) : HoleMoves s s := Relation.ReflTransGen.refl

theorem HoleMoves.raiseForHole (s : State) (c : DevClass) (i : Nat) (h : Slot) (a b : Int) :
    HoleMoves s (s.raiseForHole c i h a b) :=
  .single (.mark i _ (fun x => x.sameButMarks_mark c) (s.raiseForHole_plan c i h a b) (fun _ => by simp))

/-- A hole held from the work of a kind is left as R10 lays down. -/
theorem Hole.restsAs_hold {x : Hole} {kind : HeadKind} {c : DevClass} (hst : x.state = kind.working)
    (hfit : x.recordFits = true) (hc : c.holeBound = true) : x.RestsAs (x.hold kind.work c) := by
  refine ⟨rfl, rfl, rfl, ?_⟩
  cases kind <;> simp_all [recordFits, HeadKind.working, hold, HeadKind.work]

theorem Hole.tierTaken_hold {x : Hole} {kind : HeadKind} {c : DevClass}
    (h : (x.hold kind.work c).tierTaken = true) : kind = .set := by
  cases kind
  · simp [tierTaken, hold, HeadKind.work] at h
  · rfl

/-- A HOLE grant that ends with its hole held is one move. -/
theorem HoleMove.endWithHold {h : Slot} {hd : Head} {g : HoleGrant} {c : DevClass} {st : HeadStatus}
    (hh : workAt s.heads h = some (hd.kind, g.hole)) (hc : c.holeBound = true)
    (hst : st.holeGrant = none) : HoleMove s (s.endWithHold h hd g c st) :=
  .finish h hd.kind g.hole (fun x => x.hold hd.kind.work c) hh
    (fun _ hx hfit => Hole.restsAs_hold hx hfit hc) (fun _ _ => Hole.tierTaken_hold)
    (s.endWithHold_plan h hd g c st) (workAt_endWithHold s h hd g c hst)

/-- A raising for a head's hole, then the grant's end with the hole held (R15). -/
theorem HoleMoves.raiseAndHold {h : Slot} {hd : Head} {g : HoleGrant} {c : DevClass}
    {st : HeadStatus} (hh : workAt s.heads h = some (hd.kind, g.hole)) (hc : c.holeBound = true)
    (hst : st.holeGrant = none) (a b : Int) :
    HoleMoves s ((s.raiseForHole c g.hole h a b).endWithHold h hd g c st) :=
  Relation.ReflTransGen.tail (HoleMoves.raiseForHole s c g.hole h a b) (.endWithHold (by simpa using hh) hc hst)

end Sys2Proof.Machine
end

section
/-! SUPPORT. Every taking and every event is a run of moves: one lemma for each rule and each event that
touches the Plan Store or a head. -/

namespace Sys2Proof.Machine

variable {s t : State}

theorem HoleMoves.trans {s t u : State} (h : HoleMoves s t) (h' : HoleMoves t u) : HoleMoves s u :=
  Relation.ReflTransGen.trans h h'

/-- A fold of operations, each a run of moves, is a run of moves. -/
theorem HoleMoves.foldl {α : Type} {f : State → α → State} (hf : ∀ u a, HoleMoves u (f u a))
    (l : List α) (s : State) : HoleMoves s (l.foldl f s) := by
  induction l generalizing s with
  | nil => exact .refl s
  | cons a l ih => exact (hf s a).trans (ih (f s a))

/-! ### Slots with and without work -/

theorem workAt_idle {h : Slot} {hd : Head} (hh : s.heads[h] = some hd)
    (hst : hd.status.holeGrant = none) : workAt s.heads h = none := by
  rw [workAt_of_head hh, Head.holeWork, hst]
  rfl

theorem workAt_grant {h : Slot} {hd : Head} {g : HoleGrant} (hh : s.heads[h] = some hd)
    (hst : hd.status.holeGrant = some g) : workAt s.heads h = some (hd.kind, g.hole) := by
  rw [workAt_of_head hh, Head.holeWork, hst]
  rfl

/-! ### Thermal Unit -/

theorem State.raiseSubst_moves (s : State) (ks : List Nat) : HoleMoves s (s.raiseSubst ks) :=
  .foldl (fun u _ => .same (u.raiseUnbound_plan ..) (u.raiseUnbound_heads ..)) ks s

theorem State.changeSegments_moves (s : State) (f : Segment → Segment) :
    HoleMoves s (s.changeSegments f) :=
  .trans (t := s.setThermal (settleSegments (s.thermal.map f))) (.same rfl rfl) (raiseSubst_moves ..)

theorem State.expireHold_moves (s : State) (k : Nat) : HoleMoves s (s.expireHold k) := by
  have hset : ∀ l, HoleMoves s (s.setThermal l) := fun _ => .same rfl rfl
  exact (hset (settleSegments (s.thermal.modify k _))).trans (raiseSubst_moves ..)

theorem State.expireDueHolds_moves (s : State) : HoleMoves s s.expireDueHolds := by
  refine .foldl (fun u k => ?_) _ s
  split
  · exact u.expireHold_moves k
  · exact .refl u

/-! ### Clamp drops, edges and terminals (R80, R117, R150 to R152) -/

theorem State.judgeDrop_moves (s : State) (bay : Nat) (h : Slot) :
    HoleMoves s (s.judgeDrop bay h) := by
  unfold judgeDrop
  split
  · exact .refl s
  · rename_i hd hh
    split
    · rename_i g hg
      split
      · simp only
        split
        · exact .raiseForHole ..
        · have hw : workAt s.heads h = some (hd.kind, g.hole) :=
            workAt_grant hh (by rw [hg]; rfl)
          exact (HoleMoves.raiseAndHold (c := .clampLost) (st := .idle) hw (by decide) rfl g.bay 0).trans
            (.same (by simp) (by simp))
      · exact .refl s
    · exact .refl s

theorem State.clampDrop_moves (s : State) (bay : Nat) : HoleMoves s (s.clampDrop bay) :=
  .foldl (fun u h => u.judgeDrop_moves bay h) _ s

/-- A new set phase leaves the grant's hole as it is. -/
theorem State.setPhase_moves (s : State) (h : Slot) (phase : SetPhase) :
    HoleMoves s (s.setPhase h phase) := by
  unfold setPhase
  split
  · rename_i hd hh
    split
    · rename_i g hg
      refine .stay rfl (workAt_set_same ?_)
      rw [workAt_of_head hh, Head.holeWork, hg]
      rfl
    · exact .refl s
  · exact .refl s

theorem State.ramCapture_moves (s : State) (h : Slot) : HoleMoves s (s.ramCapture h) := by
  unfold ramCapture
  split
  · split
    · split
      · exact s.setPhase_moves h _
      · exact .refl s
    · exact .refl s
  · exact .refl s

theorem State.latchEdge_moves (s : State) (n : TermId) : HoleMoves s (s.latchEdge n) := by
  unfold latchEdge
  simp only
  split
  · split
    · exact .same rfl rfl
    · exact .same (by simp) (by simp)
  · exact .refl s

theorem State.handOnEdge_moves (s : State) (r : Terminal) (active : Bool) :
    HoleMoves s (s.handOnEdge r active) := by
  unfold handOnEdge
  split
  · split
    · exact .refl s
    · exact s.clampDrop_moves _
  · split
    · exact s.ramCapture_moves _
    · exact .refl s
  · exact .refl s

theorem State.acceptEdge_moves (s : State) (n : TermId) (active : Bool) :
    HoleMoves s (s.acceptEdge n active) := by
  have hedge : HoleMoves s ((s.setTerminal n
      { s.terminals[n] with level := active, candidate := none }).handOnEdge s.terminals[n] active) :=
    .trans (t := s.setTerminal n _) (.same rfl rfl) (handOnEdge_moves ..)
  unfold acceptEdge
  simp only
  split
  · exact hedge.trans (latchEdge_moves ..)
  · exact hedge

theorem State.acceptCandidate_moves (s : State) (n : TermId) :
    HoleMoves s (s.acceptCandidate n) := by
  unfold acceptCandidate
  split
  · exact s.acceptEdge_moves n _
  · exact .refl s

theorem State.acceptDue_moves (s : State) : HoleMoves s s.acceptDue := by
  refine .foldl (fun u n => ?_) _ s
  split
  · exact u.acceptCandidate_moves n
  · exact .refl u

theorem State.changePin_moves (s : State) (n : TermId) (high : Bool) :
    HoleMoves s (s.changePin n high) := by
  have hpin : HoleMoves s (s.setPin n high) := .same rfl rfl
  unfold changePin
  simp only
  split
  · refine hpin.trans ?_
    unfold judgeRaw
    simp only
    split
    · exact .same rfl rfl
    · split
      · exact .trans (t := (s.setPin n high).setTerminal n _) (.same rfl rfl) (acceptEdge_moves ..)
      · exact .same rfl rfl
  · exact hpin

theorem State.takeSample_moves (s : State) (n : TermId) (code : ProbeCode) :
    HoleMoves s (s.takeSample n code) := by
  have hterm : ∀ v, HoleMoves s (s.setTerminal n v) := fun _ => .same rfl rfl
  unfold takeSample
  simp only
  split
  · split
    · exact (hterm _).trans (changeSegments_moves ..)
    · exact hterm _
  · split
    · exact (hterm _).trans (changeSegments_moves ..)
    · exact hterm _

theorem State.configure_moves (s : State) (f : TermFields) : HoleMoves s (s.configure f) := by
  have hterm : ∀ v, HoleMoves s (s.setTerminal f.terminal v) := fun _ => .same rfl rfl
  unfold configure
  simp only
  refine (hterm (s.terminals[f.terminal].configured f s.pinHigh[f.terminal] s.clock)).trans ?_
  unfold leaveMode
  split
  · split
    · split
      · exact clampDrop_moves ..
      · exact .refl _
    · exact .refl _
  · split
    · exact changeSegments_moves ..
    · exact .refl _
  · exact .refl _

/-! ### Heads without a HOLE grant (R64, R68, R83 to R85) -/

/-- A slot that has no work is written a head that has none. -/
theorem HoleMoves.setHead_idle {h : Slot} {v : Option Head} (hs : workAt s.heads h = none)
    (hv : v.bind Head.holeWork = none) (hp : t.plan = s.plan) (ht : t.heads = s.heads.set h v) :
    HoleMoves s t :=
  .stay hp (fun h' => by rw [ht]; exact workAt_set_same (hv.trans hs.symm) h')

theorem HeadStatus.holeGrant_of_inTrouble {st : HeadStatus} (h : st.inTrouble = true) :
    st.holeGrant = none := by
  cases st <;> simp_all [inTrouble, holeGrant]

theorem ruleAttach_moves (h : Slot) (b : List Byte) (s : State) :
    HoleMoves s (ruleAttach h b s).1 := by
  unfold ruleAttach
  split
  · exact .refl s
  · rename_i hh
    split
    · split
      · unfold State.attachHead
        simp only
        split
        · exact .refl s
        · exact .setHead_idle (by rw [workAt, hh]; rfl) rfl rfl rfl
      · exact .refl s
    · exact .refl s

theorem State.detachHead_moves {h : Slot} {r : Rail} (hs : workAt s.heads h = none) :
    HoleMoves s (s.detachHead h r) := .setHead_idle hs rfl rfl rfl

theorem ruleDetach_moves (h : Slot) (s : State) : HoleMoves s (ruleDetach h s).1 := by
  unfold ruleDetach
  split
  · exact .refl s
  · rename_i hd hh
    split
    · rename_i hst
      exact State.detachHead_moves (workAt_idle hh (by rw [hst]; rfl))
    · exact .refl s

theorem State.putDown_moves {h : Slot} {hd : Head} (x : Int) (hs : workAt s.heads h = none) :
    HoleMoves s (s.putDown h hd x) :=
  .setHead_idle (v := some { hd with position := x, status := .idle }) hs rfl
    (by simp [putDown, standAt]) (by simp [putDown, standAt])

theorem ruleHaltAt_moves (h : Slot) (b : List Byte) (s : State) :
    HoleMoves s (ruleHaltAt h b s).1 := by
  unfold ruleHaltAt
  split
  · exact .refl s
  · rename_i hd hh
    split
    · rename_i hst
      split
      · refine State.putDown_moves _ (workAt_idle hh ?_)
        rcases hst with hst | hst <;> rw [hst] <;> rfl
      · exact .refl s
    · exact .refl s

theorem ruleHeadRecover_moves (b : List Byte) (s : State) : HoleMoves s (ruleHeadRecover b s).1 := by
  unfold ruleHeadRecover
  split
  · rename_i h _
    split
    · unfold State.recoverHead
      split
      · exact .refl s
      · rename_i hd hh
        split
        · exact .refl s
        · rename_i hst
          simp only
          split
          · exact .refl s
          · have htrouble : hd.status.inTrouble = true := by simpa using hst
            exact State.putDown_moves _
              (workAt_idle hh (HeadStatus.holeGrant_of_inTrouble htrouble))
    · exact .refl s
  · exact .refl s

theorem ruleHeadEvict_moves (b : List Byte) (s : State) : HoleMoves s (ruleHeadEvict b s).1 := by
  unfold ruleHeadEvict
  split
  · exact .refl s
  · rename_i h _
    split
    · exact .refl s
    · rename_i hd hh
      split
      · exact .refl s
      · rename_i hst
        have htrouble : hd.status.inTrouble = true := by simpa using hst
        have hw := workAt_idle hh (HeadStatus.holeGrant_of_inTrouble htrouble)
        exact (State.detachHead_moves (r := hd.rail) hw).trans (.same (by simp) (by simp))

/-! ### Grants (R65 to R71) -/

theorem State.requestRefused_none {hd : Head} (h : s.requestRefused hd = none) :
    s.plan.state = .working ∧ s.lineStop = false ∧ s.frozen hd.rail = false
      ∧ hd.status = .idle := by
  unfold requestRefused at h
  split_ifs at h with h1 h2 h3 h4 h5
  simp_all

theorem ruleMove_moves (h : Slot) (b : List Byte) (s : State) : HoleMoves s (ruleMove h b s).1 := by
  unfold ruleMove
  split
  · exact .refl s
  · rename_i hd hh
    split
    · exact .refl s
    · rename_i hreq
      obtain ⟨-, -, -, hidle⟩ := State.requestRefused_none hreq
      unfold State.moveTo
      split
      · exact .refl s
      · split
        · exact .refl s
        · exact .setHead_idle (workAt_idle hh (by rw [hidle]; rfl)) rfl rfl rfl

/-- What checks 6 to 13 say of the candidate they pass. -/
theorem State.checkHole_ok {hd : Head} {i : Nat} {c : Eligible} (h : s.checkHole hd i = .ok c) :
    c.index = i ∧ s.plan.hole? i = some c.hole ∧ c.hole.state = hd.kind.takes
      ∧ s.plan.jointPasses hd.kind c.hole := by
  unfold checkHole at h
  split at h
  · cases h
  · rename_i x hx
    simp only at h
    split_ifs at h with hst hrail hmix htier
    split at h
    · cases h
    · unfold checkTarget at h
      split_ifs at h
      split at h
      · cases h
      · split_ifs at h
        obtain rfl := Except.ok.inj h
        exact ⟨rfl, hx, not_not.1 hst, by simpa using hmix, by simpa using htier⟩

theorem chooseCandidate_mem {p : Int} {l : List Eligible} {c : Eligible}
    (h : chooseCandidate p l = some c) : c ∈ l := by
  induction l generalizing c with
  | nil => simp [chooseCandidate] at h
  | cons a l ih =>
    unfold chooseCandidate at h
    split at h
    · obtain rfl := Option.some.inj h
      simp
    · rename_i best hbest
      obtain rfl := Option.some.inj h
      split
      · exact List.mem_cons_of_mem _ (ih hbest)
      · simp

theorem State.mem_candidates {h : Slot} {hd : Head} {c : Eligible} (hc : c ∈ s.candidates h hd) :
    s.checkHole hd c.index = .ok c := by
  unfold candidates at hc
  obtain ⟨i, -, hi⟩ := List.mem_filterMap.1 hc
  split at hi
  · cases hi
  · rename_i d hd'
    split at hi
    · cases hi
    · obtain rfl := Option.some.inj hi
      rwa [(checkHole_ok hd').1]

/-- The commit of a grant, on a state that differs from s by the marks of the hole at most, is one move
(R71). -/
theorem State.commitHole_move {u : State} {h : Slot} {hd : Head} {c : Eligible} {f : Hole → Hole}
    (hh : s.heads[h] = some hd) (hidle : hd.status = .idle) (hstate : s.plan.state = .working)
    (hc : s.checkHole hd c.index = .ok c) (hu : u.heads = s.heads)
    (hf : (c.hole.goto hd.kind.working (some h)).SameButMarks (f c.hole))
    (hp : u.plan.changeHole c.index (fun x => x.goto hd.kind.working (some h))
      = s.plan.changeHole c.index f) : HoleMove s (u.commitHole h hd c).1 := by
  obtain ⟨-, hx, hst, hj⟩ := checkHole_ok hc
  refine .start h hd.kind c.index c.hole f hx hstate hst hj (workAt_idle hh (by rw [hidle]; rfl)) hf
    hp (fun h' => ?_)
  have hheads : (u.commitHole h hd c).1.heads
      = s.heads.set h (some { hd with status := .travelHole (State.grantRecord _ hd c) }) :=
    congrArg (fun v => Vector.set v h _) hu
  rw [hheads, workAt_set]
  rfl

/-- A hold at check 16 is one move (R16). -/
theorem State.holdAtLimit_move {u : State} {h : Slot} {hd : Head} {c : Eligible} {f : Hole → Hole}
    (hstate : s.plan.state = .working) (hc : s.checkHole hd c.index = .ok c) (hu : u.heads = s.heads)
    (hf : (c.hole.hold hd.kind.work .thermalLimit).SameButMarks (f c.hole))
    (hp : u.plan.changeHole c.index (fun x => x.hold hd.kind.work .thermalLimit)
      = s.plan.changeHole c.index f) : HoleMove s (u.holdAtLimit h hd c).1 := by
  obtain ⟨-, hx, hst, hj⟩ := checkHole_ok hc
  refine .limit hd.kind c.index c.hole f hx hstate hst hj (fun hfit => ?_) (fun ht => ?_)
    (by simpa [holdAtLimit] using hp) (fun h' => ?_)
  · obtain ⟨⟨hjoint, htier, -⟩, hgh, hfits, -⟩ := hf.parts
    refine ⟨hjoint, htier, hgh, hfits.trans ?_⟩
    cases hk : hd.kind <;>
      simp_all [Hole.recordFits, HeadKind.takes, Hole.hold, HeadKind.work, DevClass.holeBound,
        DevClass.number, DevClass.index]
  · obtain ⟨-, -, -, htaken⟩ := hf.parts
    exact Hole.tierTaken_hold (htaken.symm.trans ht)
  · rw [holdAtLimit, workAt_setLastHold]
    simp [hu]

/-- Check 16 commits the hole, marked or not, or holds it: one move in each case (R69). -/
theorem State.grantHole_moves {h : Slot} {hd : Head} {c : Eligible} (hh : s.heads[h] = some hd)
    (hidle : hd.status = .idle) (hstate : s.plan.state = .working)
    (hc : s.checkHole hd c.index = .ok c) : HoleMoves s (s.grantHole h hd c).1 := by
  have hmark : ∀ x : Hole, x.SameStand (x.mark .thermalLimit) :=
    fun x => (x.sameButMarks_mark _).parts.1
  unfold grantHole
  split
  · simp only
    split
    · refine Relation.ReflTransGen.single (holdAtLimit_move hstate hc (by simp)
        (f := fun x => (x.mark .thermalLimit).hold hd.kind.work .thermalLimit) ?_ ?_)
      · exact congrArg (fun y : Hole => y.hold hd.kind.work .thermalLimit) (c.hole.sameButMarks_mark .thermalLimit)
      · rw [raiseForHole_plan]
        exact PlanStore.changeHole_changeHole _ _ _ hmark
    · refine Relation.ReflTransGen.single (commitHole_move hh hidle hstate hc (by simp)
        (f := fun x => (x.mark .thermalLimit).goto hd.kind.working (some h)) ?_ ?_)
      · exact congrArg (fun y : Hole => y.goto hd.kind.working (some h)) (c.hole.sameButMarks_mark .thermalLimit)
      · rw [raiseForHole_plan]
        exact PlanStore.changeHole_changeHole _ _ _ hmark
  · exact Relation.ReflTransGen.single (commitHole_move hh hidle hstate hc rfl
      (f := fun x => x.goto hd.kind.working (some h)) (.refl _) rfl)

theorem ruleTake_moves (h : Slot) (b : List Byte) (s : State) : HoleMoves s (ruleTake h b s).1 := by
  unfold ruleTake
  split
  · exact .refl s
  · rename_i hd hh
    split
    · exact .refl s
    · rename_i hreq
      obtain ⟨hstate, -, -, hidle⟩ := State.requestRefused_none hreq
      unfold State.takeHole
      split
      · exact .refl s
      · split
        · exact .refl s
        · rename_i c hc
          split
          · exact .refl s
          · split
            · exact .refl s
            · obtain ⟨hi, -⟩ := State.checkHole_ok hc
              exact State.grantHole_moves hh hidle hstate (by rw [hi]; exact hc)

theorem ruleNext_moves (h : Slot) (s : State) : HoleMoves s (ruleNext h s).1 := by
  unfold ruleNext
  split
  · exact .refl s
  · rename_i hd hh
    split
    · exact .refl s
    · rename_i hreq
      obtain ⟨hstate, -, -, hidle⟩ := State.requestRefused_none hreq
      unfold State.nextHole
      split
      · exact .refl s
      · split
        · exact .refl s
        · rename_i c hc
          exact State.grantHole_moves hh hidle hstate (State.mem_candidates (chooseCandidate_mem hc))

/-! ### Arrival, ABANDON and the heads in trouble (R73, R77, R82, R86) -/

theorem State.judgeArrival_moves {h : Slot} {hd : Head} {g : HoleGrant}
    (hw : workAt s.heads h = some (hd.kind, g.hole)) : HoleMoves s (s.judgeArrival h hd g).1 := by
  unfold judgeArrival
  split
  · exact .refl s
  · simp only
    split
    · exact .raiseForHole ..
    · exact .raiseAndHold hw (by decide) rfl _ _

theorem ruleArrived_moves (h : Slot) (s : State) : HoleMoves s (ruleArrived h s).1 := by
  unfold ruleArrived
  split
  · exact .refl s
  · rename_i hd hh
    split
    · rename_i g hst
      exact .setHead_idle (v := some { hd with position := g.x, status := .idle })
        (workAt_idle hh (by rw [hst]; rfl)) rfl rfl rfl
    · rename_i g hst
      have hw : workAt s.heads h = some (hd.kind, g.hole) := workAt_grant hh (by rw [hst]; rfl)
      have hset : ∀ h', workAt (s.heads.set h
          (some { hd with position := g.x, status := .work g })) h' = workAt s.heads h' :=
        workAt_set_same hw.symm
      have hstand : HoleMoves s ((s.standAt h hd g.x (.work g)).startTimer h .work
          (workLimit s.params hd.kind)) := .stay rfl hset
      exact hstand.trans (State.judgeArrival_moves ((hset h).trans hw))
    · exact .refl s

/-- A hole that goes back to where its work began is left as R10 lays down (R17). -/
theorem Hole.restsAs_returned {x : Hole} {kind : HeadKind} (hst : x.state = kind.working)
    (hfit : x.recordFits = true) : x.RestsAs (x.goto kind.returned none) := by
  refine ⟨rfl, rfl, rfl, ?_⟩
  cases kind <;> simp_all [recordFits, HeadKind.working, HeadKind.returned, goto]

theorem State.abandonHole_move {h : Slot} {hd : Head} {g : HoleGrant} {st : HeadStatus}
    (hw : workAt s.heads h = some (hd.kind, g.hole)) (hst : st.holeGrant = none) :
    HoleMove s (s.abandonHole h hd g st) := by
  refine .finish h hd.kind g.hole (fun x => x.goto hd.kind.returned none) hw
    (fun x => Hole.restsAs_returned) (fun x _ ht => ?_) (by simp [abandonHole])
    (fun h' => workAt_endHoleGrant (s.changeHole g.hole _) h g false hst h')
  cases hk : hd.kind <;> simp [Hole.tierTaken, Hole.goto, HeadKind.returned, hk] at ht

theorem ruleAbandon_moves (h : Slot) (s : State) : HoleMoves s (ruleAbandon h s).1 := by
  unfold ruleAbandon
  split
  · exact .refl s
  · rename_i hd hh
    split
    · rename_i g hst
      have hend : HoleMove s (s.abandonHole h hd g .halted) :=
        State.abandonHole_move (workAt_grant hh (by rw [hst]; rfl)) rfl
      exact HoleMoves.trans (.single hend) (.same (by simp) (by simp))
    · rename_i g hst
      refine .stay (by simp) (fun h' => ?_)
      rw [State.noteTrouble_heads, workAt_endMoveGrant _ _ rfl]
      split
      · rename_i e
        rw [e, workAt_idle hh (by rw [hst]; rfl)]
      · rfl
    · rename_i g hst
      exact .single (State.abandonHole_move (workAt_grant hh (by rw [hst]; rfl)) rfl)
    · exact .refl s

end Sys2Proof.Machine
end

section
/-! SUPPORT. Every step is a run of moves. -/

namespace Sys2Proof.Machine

variable {s t : State}

/-! ### Done reports (R75, R76) -/

/-- A hole with the drill report of a DRILL_DONE (R13). -/
def Hole.withDrillReport (r : DrillReport) (x : Hole) : Hole := { x with drillReport := some r }

/-- A hole with the set report of a SET_DONE (R14). -/
def Hole.withSetReport (r : SetReport) (x : Hole) : Hole := { x with setReport := some r }

theorem Hole.sameStand_withDrillReport (r : DrillReport) (x : Hole) :
    x.SameStand (x.withDrillReport r) := ⟨rfl, rfl, rfl⟩

theorem Hole.sameStand_withSetReport (r : SetReport) (x : Hole) :
    x.SameStand (x.withSetReport r) := ⟨rfl, rfl, rfl⟩

/-- The state u is s with a report written to hole i, and perhaps marks. -/
def State.Reported (s u : State) (i : Nat) (report : Hole → Hole) : Prop :=
  u.heads = s.heads ∧ ∃ f : Hole → Hole, (∀ x, (report x).SameButMarks (f x))
    ∧ u.plan = s.plan.changeHole i f

theorem State.Reported.write (s : State) (i : Nat) (report : Hole → Hole) :
    s.Reported (s.changeHole i report) i report := ⟨rfl, report, fun _ => .refl _, rfl⟩

theorem State.Reported.raise {u : State} {i : Nat} {report : Hole → Hole}
    (hr : ∀ x : Hole, x.SameStand (report x)) (hu : s.Reported u i report) (c : DevClass) (h : Slot)
    (a b : Int) : s.Reported (u.raiseForHole c i h a b) i report := by
  obtain ⟨hheads, f, hf, hp⟩ := hu
  have hstand : ∀ x : Hole, x.SameStand (f x) := fun x => (hr x).trans (hf x).parts.1
  refine ⟨by simpa using hheads, fun x => (f x).mark c,
    fun x => (hf x).trans ((f x).sameButMarks_mark c), ?_⟩
  rw [raiseForHole_plan, hp, PlanStore.changeHole_changeHole _ _ _ hstand]

/-- The completion test leaves the frame state, or takes WORKING to COMPLETE (R21). -/
theorem PlanStore.testComplete_state (p : PlanStore) : p.testComplete.state = p.state
    ∨ p.state = .working ∧ p.testComplete.state = .complete := by
  unfold testComplete
  split
  · rename_i h
    exact .inr ⟨h.1, rfl⟩
  · exact .inl rfl

theorem HoleMove.testComplete (s : State) : HoleMove s s.testComplete := by
  refine .restate s.plan.testComplete.state s.plan.jd s.plan.counters.redoCount
    s.plan.counters.acceptCount s.plan.counters.datumCount s.plan.testComplete_eq (fun hw => ?_)
    (fun hl => ?_) (fun _ => rfl)
  · rcases s.plan.testComplete_state with e | ⟨-, e⟩ <;> rw [e]
    · exact hw
    · exact .inr rfl
  · rcases s.plan.testComplete_state with e | ⟨-, e⟩ <;> rw [e] at hl
    · exact hl
    · simp at hl

/-- A done report is a move that ends the grant, and perhaps the completion of the frame (R13, R14, R21). -/
theorem State.endWithReport_moves {u : State} {h : Slot} {hd : Head} {g : HoleGrant}
    {report : Hole → Hole} {held : Option DevClass} {done : HoleState} (spent : Bool) (event : LogEvent)
    (hw : workAt s.heads h = some (hd.kind, g.hole)) (hr : ∀ x : Hole, x.SameStand (report x))
    (hu : s.Reported u g.hole report) (hc : ∀ c, held = some c → c.holeBound = true)
    (hheld : ∀ (x : Hole) (c : DevClass), c.holeBound = true → x.state = hd.kind.working →
      x.recordFits = true → ((report x).hold hd.kind.work c).recordFits = true)
    (hdone : ∀ x : Hole, x.state = hd.kind.working → x.recordFits = true →
      ((report x).goto done none).recordFits = true)
    (htaken : ∀ x : Hole, (x.goto done none).tierTaken = true → hd.kind = .set) :
    HoleMoves s (u.endWithReport h hd g spent held done event) := by
  obtain ⟨hheads, f, hf, hp⟩ := hu
  have hstand : ∀ x : Hole, x.SameStand (f x) := fun x => (hr x).trans (hf x).parts.1
  unfold endWithReport
  split
  · rename_i c
    refine .single (.finish h hd.kind g.hole (fun x => (f x).hold hd.kind.work c) hw
      (fun x hx hfit => ?_) (fun x _ => Hole.tierTaken_hold) ?_ (fun h' => ?_))
    · have hmarks : ((report x).hold hd.kind.work c).SameButMarks ((f x).hold hd.kind.work c) :=
        congrArg (fun y : Hole => y.hold hd.kind.work c) (hf x)
      obtain ⟨-, -, hfits, -⟩ := hmarks.parts
      exact ⟨(hstand x).1, (hstand x).2.1, rfl, hfits.trans (hheld x c (hc c rfl) hx hfit)⟩
    · simp only [setLastHold_plan, writeLog_plan, endHoleGrant_plan, changeHole_plan, hp]
      exact PlanStore.changeHole_changeHole _ _ _ hstand
    · rw [workAt_setLastHold, writeLog_heads, workAt_endHoleGrant _ _ _ _ rfl, changeHole_heads, hheads]
  · simp only
    have hend : HoleMove s (((u.changeHole g.hole (fun x => x.goto done none)).endHoleGrant h g spent
        .idle).writeLog g.hole event false) := by
      refine .finish h hd.kind g.hole (fun x => (f x).goto done none) hw
        (fun x hx hfit => ?_) (fun x _ => htaken _) ?_ (fun h' => ?_)
      · have hmarks : ((report x).goto done none).SameButMarks ((f x).goto done none) :=
          congrArg (fun y : Hole => y.goto done none) (hf x)
        obtain ⟨-, -, hfits, -⟩ := hmarks.parts
        exact ⟨(hstand x).1, (hstand x).2.1, rfl, hfits.trans (hdone x hx hfit)⟩
      · simp only [writeLog_plan, endHoleGrant_plan, changeHole_plan, hp]
        exact PlanStore.changeHole_changeHole _ _ _ hstand
      · rw [writeLog_heads, workAt_endHoleGrant _ _ _ _ rfl, changeHole_heads, hheads]
    split
    · exact .tail (.single hend) (.testComplete _)
    · exact .single hend

theorem State.holdingClass_mem {raised : List DevClass} {c : DevClass}
    (h : s.holdingClass raised = some c) : c ∈ raised := List.mem_of_find?_eq_some h

/-- A raising under a condition leaves the report as written. -/
theorem State.Reported.raiseIf {u : State} {i : Nat} {report : Hole → Hole}
    (hr : ∀ x : Hole, x.SameStand (report x)) (hu : s.Reported u i report) {p : Prop} [Decidable p]
    (c : DevClass) (h : Slot) (a b : Int) :
    s.Reported (if p then u.raiseForHole c i h a b else u) i report := by
  split
  · exact hu.raise hr c h a b
  · exact hu

theorem State.drillReport_moves {h : Slot} {hd : Head} {g : HoleGrant} (hole : Hole)
    (diameter stack : Nat) (hw : workAt s.heads h = some (hd.kind, g.hole)) (hkind : hd.kind = .drill) :
    HoleMoves s (s.drillReport h hd g hole diameter stack).1 := by
  unfold drillReport
  simp only
  generalize reportFlag diameter (nominalDiameter hole.cls) s.params.diaTol = fd
  generalize reportFlag stack hole.stackNom s.params.stackTol = fs
  have hr := Hole.sameStand_withDrillReport ⟨h, diameter, stack, g.x, fd, fs, s.clock⟩
  have hwritten := State.Reported.write s g.hole (Hole.withDrillReport
    ⟨h, diameter, stack, g.x, fd, fs, s.clock⟩)
  refine endWithReport_moves false _ hw hr
    ((hwritten.raiseIf hr .diaOut h _ _).raiseIf hr .stackOut h _ _)
    (fun c hc => ?_) (fun x c hc hx hfit => ?_) (fun x hx hfit => ?_) (fun x ht => ?_)
  · have hmem := holdingClass_mem hc
    have : c = .diaOut ∨ c = .stackOut := by
      rcases List.mem_append.1 hmem with hm | hm <;> split at hm <;> simp_all
    rcases this with rfl | rfl <;> decide
  · simp_all [Hole.withDrillReport, Hole.recordFits, HeadKind.working, Hole.hold, HeadKind.work]
  · simp_all [Hole.withDrillReport, Hole.recordFits, HeadKind.working, Hole.goto]
  · simp [Hole.tierTaken, Hole.goto] at ht

theorem ruleDrillDone_moves (h : Slot) (b : List Byte) (s : State) :
    HoleMoves s (ruleDrillDone h b s).1 := by
  unfold ruleDrillDone
  split
  · exact .refl s
  · rename_i hd hh
    split
    · rename_i g hst
      split_ifs with hkind
      · exact .refl s
      · exact .refl s
      · split
        · exact .refl s
        · exact s.drillReport_moves _ _ _ (workAt_grant hh (by rw [hst]; rfl)) (not_not.1 hkind)
    · exact .refl s

theorem State.setReport_moves {h : Slot} {hd : Head} {g : HoleGrant} (r : Rivet) (ram : Option Nat)
    (hw : workAt s.heads h = some (hd.kind, g.hole)) (hkind : hd.kind = .set) :
    HoleMoves s (s.setReport h hd g r ram).1 := by
  have hr := Hole.sameStand_withSetReport ⟨h, r.serial, r.cls, ram, g.x, s.clock⟩
  have hwritten := State.Reported.write s g.hole (Hole.withSetReport
    ⟨h, r.serial, r.cls, ram, g.x, s.clock⟩)
  have hend : ∀ (u : State) (raised : Option DevClass),
      s.Reported u g.hole (Hole.withSetReport ⟨h, r.serial, r.cls, ram, g.x, s.clock⟩) →
      (∀ c ∈ raised.toList, c.holeBound = true) → HoleMoves s (u.endWithReport h hd g true
        (u.holdingClass raised.toList) .set (.set h g.x r.serial ram)) := by
    intro u raised hu hc
    refine endWithReport_moves true _ hw hr hu (fun c h => hc c (holdingClass_mem h))
      (fun x c hc hx hfit => ?_) (fun x hx hfit => ?_) (fun x _ => hkind)
    · simp_all [Hole.withSetReport, Hole.recordFits, HeadKind.working, Hole.hold, HeadKind.work]
    · simp_all [Hole.withSetReport, Hole.recordFits, HeadKind.working, Hole.goto]
  unfold setReport
  cases ram with
  | none => exact hend _ (some .noRam) (hwritten.raise hr .noRam h _ _) (by decide)
  | some a =>
    by_cases hcold : s.budgetMs r.cls < a
    · simp only [if_pos hcold]
      exact hend _ (some .coldSet) (hwritten.raise hr .coldSet h _ _) (by decide)
    · simp only [if_neg hcold]
      exact hend _ none hwritten (by simp)

theorem ruleSetDone_moves (h : Slot) (s : State) : HoleMoves s (ruleSetDone h s).1 := by
  unfold ruleSetDone
  split
  · exact .refl s
  · rename_i hd hh
    split
    · rename_i g hst
      have hw : workAt s.heads h = some (hd.kind, g.hole) := workAt_grant hh (by rw [hst]; rfl)
      split_ifs with hkind
      · exact .refl s
      · have hkind := not_not.1 hkind
        split
        · exact s.setReport_moves _ _ hw hkind
        · exact s.setReport_moves _ _ hw hkind
        · exact .refl s
    · exact .refl s

/-! ### The break and the timer expiry (R82, R86) -/

theorem State.linkBreak_moves (s : State) (h : Slot) : HoleMoves s (s.linkBreak h) := by
  have hfault : ∀ (u : State) (a b : HeadState), HoleMoves u (u.judgeFreeze.noteTrouble a b) :=
    fun _ _ _ => .same (by simp) (by simp)
  unfold linkBreak
  split
  · exact .refl s
  · rename_i hd hh
    have hgone : hd.status.holeGrant = none →
        ∀ h', (if h' = h then none else workAt s.heads h') = workAt s.heads h' := by
      intro hst h'
      split
      · rename_i e
        rw [e, workAt_idle hh hst]
      · rfl
    simp only
    split
    · exact .refl s
    · exact .refl s
    · rename_i g hst
      exact (HoleMoves.raiseAndHold (workAt_grant hh (by rw [hst]; rfl)) (by decide) rfl _ _).trans
        (hfault _ _ _)
    · rename_i g hst
      exact (HoleMoves.raiseAndHold (workAt_grant hh (by rw [hst]; rfl)) (by decide) rfl _ _).trans
        (hfault _ _ _)
    · rename_i g hst
      refine HoleMoves.trans (.stay (t := s.endMoveGrant h .faulted) (by simp) (fun h' => ?_)) (hfault _ _ _)
      rw [workAt_endMoveGrant _ _ rfl, hgone (by rw [hst]; rfl)]
    · rename_i hst
      refine HoleMoves.trans (.stay (t := s.setStatus h .faulted) (by simp) (fun h' => ?_)) (hfault _ _ _)
      rw [workAt_setStatus _ _ rfl, hgone (by rw [hst]; rfl)]
    · rename_i hst
      refine HoleMoves.trans (.stay (t := s.setStatus h .faulted) (by simp) (fun h' => ?_)) (hfault _ _ _)
      rw [workAt_setStatus _ _ rfl, hgone (by rw [hst]; rfl)]

theorem State.takeBreak_moves (s : State) (p : PortId) : HoleMoves s (s.takeBreak p) := by
  have hport : HoleMoves s (s.setPort p s.ports[p].afterBreak) := .same rfl rfl
  unfold takeBreak
  simp only
  split
  · exact hport.trans (linkBreak_moves _ _)
  · exact hport

theorem State.expireTimer_moves (s : State) (h : Slot) : HoleMoves s (s.expireTimer h) := by
  have hstale : ∀ (u : State) (a b : HeadState), HoleMoves u (u.judgeFreeze.noteTrouble a b) :=
    fun _ _ _ => .same (by simp) (by simp)
  unfold expireTimer
  split
  · exact .refl s
  · rename_i hd hh
    simp only
    split
    · rename_i g hst
      have hhold := HoleMoves.raiseAndHold (c := .workTimeout) (st := .stale) (workAt_grant hh hst)
        (by decide) rfl s.timers[h].details.1 s.timers[h].details.2
      exact (hhold.trans (.same (by simp) (by simp))).trans (hstale _ _ _)
    · rename_i hst
      refine HoleMoves.trans (.stay (t := s.endMoveGrant h .stale) (by simp) (fun h' => ?_)) (hstale _ _ _)
      rw [workAt_endMoveGrant _ _ rfl]
      split
      · rename_i e
        rw [e, workAt_idle hh hst]
      · rfl

end Sys2Proof.Machine
end

section
/-! SUPPORT. Every step is a run of moves: the rules of the Plan Store and the Heat Queue, then the table of
commands. -/

namespace Sys2Proof.Machine

variable {s t : State}

/-! ### Heat Queue (R106, R108, R112) -/

theorem State.expireClass_moves (s : State) (c : RivetClass) : HoleMoves s (s.expireClass c) :=
  .foldl (f := fun acc v => acc.setHeat (acc.heat.expire v)) (fun _ _ => .same rfl rfl) _ s

theorem ruleFeed_moves (h : Slot) (s : State) : HoleMoves s (ruleFeed h s).1 := by
  have hheat : ∀ q, HoleMoves s (s.setHeat q) := fun _ => .same rfl rfl
  unfold ruleFeed
  split
  · exact .refl s
  · split
    · split_ifs
      · exact .refl s
      · exact .refl s
      · split
        · exact .refl s
        · unfold State.feedHead
          split
          · exact (hheat _).trans (State.setPhase_moves ..)
          · exact (hheat _).trans (State.setPhase_moves ..)
    · exact .refl s

theorem ruleRivetOut_moves (b : List Byte) (s : State) : HoleMoves s (ruleRivetOut b s).1 := by
  have hheat : ∀ q, HoleMoves s (s.setHeat q) := fun _ => .same rfl rfl
  unfold ruleRivetOut
  simp only
  split
  · exact .refl s
  · split
    · exact .refl s
    · split_ifs
      · exact .refl s
      · exact .same (by simp [State.rejectTemp]) (by simp [State.rejectTemp])
      · unfold State.placeRivet
        simp only
        split
        · unfold State.handOver
          simp only
          have hend : ∀ (u : State) (p : PortId) (h : Slot) (n : Nat), HoleMoves u
              ((u.startTimer h .work n).makePending p .feedGiven) :=
            fun _ _ _ _ => .same (by simp) (by simp)
          exact ((hheat _).trans (State.setPhase_moves ..)).trans (hend _ _ _ _)
        · split_ifs
          · exact hheat _
          · exact hheat _
          · exact hheat _

/-! ### The Plan Store (Chapter 1) -/

theorem rulePlanBegin_moves (b : List Byte) (s : State) : HoleMoves s (rulePlanBegin b s).1 := by
  unfold rulePlanBegin
  split_ifs with hstate
  · exact .refl s
  · exact .refl s
  · refine .single (.blank (.inr ⟨_, rfl⟩) (.inr ⟨?_, fun _ => rfl⟩))
    simp [FrameState.atWork, not_not.1 hstate]

theorem rulePlanSegment_moves (b : List Byte) (s : State) : HoleMoves s (rulePlanSegment b s).1 := by
  unfold rulePlanSegment
  simp only
  split
  · exact .refl s
  · split
    · exact .refl s
    · split_ifs with hrange hdup
      · exact .refl s
      · exact .refl s
      · simp at hrange
        exact .single (.segment _ _ hrange.1.1 (by simpa using hdup) rfl (fun _ => rfl))

theorem rulePlanBay_moves (b : List Byte) (s : State) : HoleMoves s (rulePlanBay b s).1 := by
  unfold rulePlanBay
  simp only
  split_ifs with hstate hrange hdup
  · exact .refl s
  · exact .refl s
  · exact .refl s
  · simp at hrange
    exact .single (.bay _ _ hrange.1.1 (by simpa using hdup) rfl (fun _ => rfl))

/-- A hole whose fields PLAN_HOLE accepts is PLANNED, with a number and a joint in range (R5). -/
theorem holeFields_some {p : PlanStore} {b : List Byte} {x : Hole} (h : holeFields p b = some x) :
    u16At b 0 < p.holeCount ∧ x.joint < p.jointCount ∧ x.state = .planned
      ∧ x.recordFits = true := by
  unfold holeFields at h
  split at h
  · split at h
    · rename_i hr
      obtain rfl := Option.some.inj h
      simp at hr
      obtain ⟨⟨⟨⟨⟨hcount, hjoint⟩, -⟩, -⟩, -⟩, -⟩ := hr
      exact ⟨hcount, hjoint, rfl, rfl⟩
    · cases h
  · cases h

theorem rulePlanHole_moves (b : List Byte) (s : State) : HoleMoves s (rulePlanHole b s).1 := by
  unfold rulePlanHole
  split
  · exact .refl s
  · rename_i hstate
    split
    · exact .refl s
    · rename_i x hx
      obtain ⟨hi, hj, hst, hfit⟩ := holeFields_some hx
      split
      · exact .refl s
      · rename_i hdup
        exact .single (.load _ x (not_not.1 hstate) hi (by simpa using hdup) hst hfit hj rfl
          (fun _ => rfl))

theorem rulePlanSeal_moves (s : State) : HoleMoves s (rulePlanSeal s).1 := by
  unfold rulePlanSeal
  split
  · exact .refl s
  · rename_i hstate
    have hstate := not_not.1 hstate
    split
    · exact .refl s
    · have hready : HoleMove s (s.setPlan { s.plan with state := .ready }) :=
        .restate .ready s.plan.jd s.plan.counters.redoCount s.plan.counters.acceptCount
          s.plan.counters.datumCount rfl (by simp [FrameState.atWork, hstate]) (fun _ => .inl hstate)
          (fun _ => rfl)
      have hset : ∀ (u : State) (l : List Segment), HoleMoves u (u.setThermal l) := fun _ _ => .same rfl rfl
      unfold State.takeSegments
      exact (HoleMoves.trans (.single hready) (hset _ _)).trans (State.raiseSubst_moves ..)

theorem rulePlanAbort_moves (s : State) : HoleMoves s (rulePlanAbort s).1 := by
  unfold rulePlanAbort
  split
  · rename_i hstate
    refine .single (.blank (.inl rfl) (.inr ⟨?_, fun _ => rfl⟩))
    rcases hstate with e | e <;> simp [FrameState.atWork, e]
  · exact .refl s

theorem ruleDatum_moves (b : List Byte) (s : State) : HoleMoves s (ruleDatum b s).1 := by
  unfold ruleDatum
  split_ifs
  · exact .refl s
  · exact .refl s
  · exact .refl s
  · exact .refl s
  · exact .single (.restate .working (some (i32At b 0)) s.plan.counters.redoCount
      s.plan.counters.acceptCount (saturatingSucc 255 s.plan.counters.datumCount) rfl
      (fun _ => .inl rfl) (by simp) (fun _ => rfl))

/-- A release counter rises: no hole changes (R22). -/
theorem HoleMove.countRelease (s : State) (accept : Bool) :
    HoleMove s (s.setPlan (s.plan.countRelease accept)) := by
  cases accept
  · exact .restate s.plan.state s.plan.jd (saturatingSucc 65535 s.plan.counters.redoCount)
      s.plan.counters.acceptCount s.plan.counters.datumCount rfl id id (fun _ => rfl)
  · exact .restate s.plan.state s.plan.jd s.plan.counters.redoCount
      (saturatingSucc 65535 s.plan.counters.acceptCount) s.plan.counters.datumCount rfl id id
      (fun _ => rfl)

/-- A held hole that is redone is left as R10 lays down (R18). -/
theorem Hole.restsAs_redo {x : Hole} (hst : x.state = .held) (hfit : x.recordFits = true) :
    x.RestsAs x.redo := by
  cases hf : x.heldFrom with
  | none => simp [recordFits, hst, hf] at hfit
  | some w =>
    cases w <;> simp only [redo, hf] <;> refine ⟨rfl, rfl, rfl, ?_⟩ <;>
      simp_all [recordFits, goto]

theorem ruleHoleReleaseRedo_moves (b : List Byte) (s : State) :
    HoleMoves s (ruleHoleReleaseRedo b s).1 := by
  unfold ruleHoleReleaseRedo
  split_ifs with hstate
  · exact .refl s
  · exact .refl s
  · split
    · exact .refl s
    · rename_i x hx
      split
      · exact .refl s
      · rename_i hst
        have hst := not_not.1 hst
        have hredo : HoleMove s (s.changeHole (u16At b 0) Hole.redo) :=
          .release _ x Hole.redo hx (not_not.1 hstate) (by rw [hst]; rfl) (Hole.restsAs_redo hst)
            (fun ht => by unfold Hole.redo at ht; split at ht <;> simp [Hole.tierTaken, Hole.goto] at ht)
            rfl (fun _ => rfl)
        exact HoleMoves.trans (.single hredo) (.single (.countRelease _ false))

/-- A held hole that is accepted by its report is left as R10 lays down (R18). -/
theorem Hole.restsAs_accept {x : Hole} {event : LogEvent} (hst : x.state = .held)
    (hev : x.acceptEvent = some event) (hfit : x.recordFits = true) :
    x.RestsAs (x.goto x.acceptState none) := by
  refine ⟨rfl, rfl, rfl, ?_⟩
  cases hf : x.heldFrom with
  | none => simp [recordFits, hst, hf] at hfit
  | some w =>
    cases w <;> simp_all [recordFits, goto, acceptState, acceptEvent] <;>
      exact Option.isSome_iff_exists.2 (hev.imp fun _ => And.left)

/-- A hole that is accepted into SET had its tier taken before (R20). -/
theorem Hole.tierTaken_accept {x : Hole} (hst : x.state = .held)
    (h : (x.goto x.acceptState none).tierTaken = true) : x.tierTaken = true := by
  cases hf : x.heldFrom with
  | none => simp [tierTaken, goto, acceptState, hf] at h
  | some w => cases w <;> simp_all [tierTaken, goto, acceptState]

theorem ruleHoleReleaseAccept_moves (b : List Byte) (s : State) :
    HoleMoves s (ruleHoleReleaseAccept b s).1 := by
  unfold ruleHoleReleaseAccept
  split
  · exact .refl s
  rename_i hstate
  split
  · exact .refl s
  · split
    · exact .refl s
    · rename_i x hx
      split
      · exact .refl s
      · rename_i hst
        have hst := not_not.1 hst
        split
        · exact .refl s
        · rename_i event hev
          split
          · exact .refl s
          · have hgoto : HoleMove s (s.changeHole (u16At b 0) (fun y => y.goto x.acceptState none)) := by
              refine .release _ x _ hx (not_not.1 hstate) (by rw [hst]; rfl)
                (Hole.restsAs_accept hst hev) (fun ht => ?_) rfl (fun _ => rfl)
              exact Hole.tierTaken_accept hst ht
            have hlog : ∀ u : State, HoleMoves u (u.writeLog (u16At b 0) event true) :=
              fun u => .same (by simp) (by simp)
            unfold State.acceptHole
            simp only
            have hrun := (HoleMoves.trans (.single hgoto) (.single (.countRelease _ true))).trans
              (hlog _)
            split
            · exact hrun.trans (.single (.testComplete _))
            · exact hrun

theorem ruleHoleExcuse_moves (b : List Byte) (s : State) : HoleMoves s (ruleHoleExcuse b s).1 := by
  unfold ruleHoleExcuse
  split
  · exact .refl s
  rename_i hstate
  split
  · exact .refl s
  · split
    · exact .refl s
    · rename_i x hx
      split_ifs with hst
      · exact .refl s
      · exact .refl s
      · have hgoto : HoleMove s (s.changeHole (u16At b 0) (fun y => y.goto .excused none)) :=
          .release _ x _ hx (not_not.1 hstate) (by simpa using hst) (fun _ => ⟨rfl, rfl, rfl, rfl⟩)
            (fun ht => by simp [Hole.tierTaken, Hole.goto] at ht) rfl (fun _ => rfl)
        have hlog : ∀ u : State, HoleMoves u (u.writeLog (u16At b 0) .excused false) :=
          fun u => .same (by simp) (by simp)
        exact (HoleMoves.trans (.single hgoto) (hlog _)).trans (.single (.testComplete _))

theorem State.workAt_of_anyGrant (h : s.anyGrant = false) (h' : Slot) : workAt s.heads h' = none := by
  unfold anyGrant at h
  cases hh : s.heads[h'] with
  | none => rw [workAt, hh]; rfl
  | some hd =>
    have hmem : s.heads[h'] ∈ s.heads.toList := by simp
    have := List.any_eq_false.1 h _ hmem
    rw [hh] at this
    refine workAt_idle hh ?_
    cases hst : hd.status <;> simp_all [HeadStatus.hasGrant, HeadStatus.holeGrant]

theorem ruleFrameEnd_moves (s : State) : HoleMoves s (ruleFrameEnd s).1 := by
  unfold ruleFrameEnd
  split_ifs with hstate hgrant hlog
  · exact .refl s
  · exact .refl s
  · exact .refl s
  · simp at hgrant
    exact .single (.blank (.inl rfl) (.inl (State.workAt_of_anyGrant hgrant.1)))

/-! ### Parameters -/

theorem State.writeParam_moves (s : State) (b : List Byte) {effect : Nat → State}
    (he : ∀ v, HoleMoves s (effect v)) : HoleMoves s (s.writeParam b effect).1 := by
  unfold writeParam
  split
  · exact .refl s
  · exact he _

/-! ### Takings and events -/

theorem judgeMessage_moves {p : PortId} {m : Message} {rule : State → Taken}
    (hr : ∀ u, HoleMoves u (rule u).1) (s : State) : HoleMoves s (judgeMessage p m rule s).1 := by
  unfold judgeMessage
  split_ifs
  · exact .refl s
  · exact .refl s
  · exact hr s

theorem State.sendNotices_moves (s : State) : HoleMoves s s.sendNotices :=
  .same s.sendNotices_plan s.sendNotices_heads

theorem takeMessage_moves {p : PortId} {kind : Byte} {b : List Byte} {rule : State → Taken}
    (hr : ∀ u, HoleMoves u (rule u).1) (h : takeMessage p kind b rule s = .next t) :
    HoleMoves s t := by
  rcases takeMessage_cases h with ht | ⟨-, ht⟩ <;> rw [ht]
  · exact .refl _
  · have hport : HoleMoves s (s.setPort p s.ports[p].dequeue) := .same rfl rfl
    have hreply : ∀ (u : State) (r : Reply), HoleMoves u (u.appendReply p kind r) :=
      fun _ _ => .same rfl rfl
    exact ((hport.trans (judgeMessage_moves hr _)).trans (hreply _ _)).trans
      (State.sendNotices_moves _)

theorem takeEvent_moves {due : Bool} {effect : State → State} (he : ∀ u, HoleMoves u (effect u))
    (h : takeEvent due effect s = .next t) : HoleMoves s t := by
  rcases takeEvent_cases h with ht | ⟨-, -, ht⟩ <;> rw [ht]
  · exact .refl _
  · exact (he s).trans (State.sendNotices_moves _)

end Sys2Proof.Machine
end

section
/-! SUPPORT. Every step is a run of moves: the table of commands, and the two statements of R10, R11, R20 and
R22. -/

namespace Sys2Proof.Machine

variable {s t : State}

/-! ### Rules that leave the Plan Store and the heads alone -/

theorem ruleProgress_moves (h : Slot) (s : State) : HoleMoves s (ruleProgress h s).1 := by
  unfold ruleProgress
  split
  · exact .refl s
  · split
    · exact .same rfl rfl
    · exact .refl s

theorem rulePlanRead_moves (b : List Byte) (s : State) : HoleMoves s (rulePlanRead b s).1 := by
  unfold rulePlanRead
  split_ifs <;> exact .refl s

theorem ruleFenceSet_moves (b : List Byte) (s : State) : HoleMoves s (ruleFenceSet b s).1 := by
  unfold ruleFenceSet
  simp only
  split
  · split
    · split
      · exact .refl s
      · exact .same rfl rfl
    · exact .refl s
  · exact .refl s

theorem ruleFenceClear_moves (b : List Byte) (s : State) : HoleMoves s (ruleFenceClear b s).1 := by
  unfold ruleFenceClear
  split
  · exact .refl s
  · split
    · exact .refl s
    · exact .same rfl rfl

theorem ruleDevMode_moves (b : List Byte) (s : State) : HoleMoves s (ruleDevMode b s).1 := by
  unfold ruleDevMode
  split
  · split
    · exact .refl s
    · exact .same rfl rfl
  · exact .refl s

theorem ruleDevClear_moves (b : List Byte) (s : State) : HoleMoves s (ruleDevClear b s).1 := by
  unfold ruleDevClear
  split
  · exact .refl s
  · exact .same rfl rfl

theorem ruleLogRead_moves (b : List Byte) (s : State) : HoleMoves s (ruleLogRead b s).1 := by
  unfold ruleLogRead
  simp only
  split
  · exact .refl s
  · exact .same rfl rfl

theorem ruleGetParam_moves (b : List Byte) (s : State) : HoleMoves s (ruleGetParam b s).1 := by
  unfold ruleGetParam
  split <;> exact .refl s

theorem ruleTermConfig_moves (b : List Byte) (s : State) : HoleMoves s (ruleTermConfig b s).1 := by
  unfold ruleTermConfig
  split
  · exact .refl s
  · split_ifs
    · exact .refl s
    · exact .refl s
    · exact .refl s
    · exact s.configure_moves _

theorem ruleTermWrite_moves (b : List Byte) (s : State) : HoleMoves s (ruleTermWrite b s).1 := by
  unfold ruleTermWrite
  split
  · exact .same rfl rfl
  · exact .refl s

theorem State.acknowledge_moves (s : State) (set : List TermId) : HoleMoves s (s.acknowledge set) :=
  .foldl (f := fun acc n => acc.setTerminal n { acc.terminals[n] with pending := false })
    (fun _ _ => .same rfl rfl) set s

theorem ruleTermAck_moves (b : List Byte) (s : State) : HoleMoves s (ruleTermAck b s).1 := by
  unfold ruleTermAck
  split
  · exact .refl s
  · exact s.acknowledge_moves _

theorem ruleTermRead_moves (b : List Byte) (s : State) : HoleMoves s (ruleTermRead b s).1 := by
  unfold ruleTermRead
  split <;> exact .refl s

theorem ruleLineQuery_moves (b : List Byte) (s : State) : HoleMoves s (ruleLineQuery b s).1 := by
  unfold ruleLineQuery
  split <;> exact .refl s

theorem State.setHeat_moves (s : State) (q : HeatQueue) : HoleMoves s (s.setHeat q) := .same rfl rfl

theorem ruleHeaterClear_moves (s : State) : HoleMoves s (ruleHeaterClear s).1 := s.setHeat_moves _

/-! ### Writes of a parameter -/

theorem State.setParams_moves (s : State) (q : Params) : HoleMoves s (s.setParams q) := .same rfl rfl

theorem ruleSetParam_moves (b : List Byte) (s : State) : HoleMoves s (ruleSetParam b s).1 :=
  s.writeParam_moves b (fun _ => s.setParams_moves _)

theorem ruleSetHeatMin_moves (b : List Byte) (s : State) : HoleMoves s (ruleSetHeatMin b s).1 :=
  s.writeParam_moves b (fun _ => s.setParams_moves _)

theorem ruleSetHeatMax_moves (b : List Byte) (s : State) : HoleMoves s (ruleSetHeatMax b s).1 :=
  s.writeParam_moves b (fun _ => s.setParams_moves _)

theorem ruleSetLogThreshold_moves (b : List Byte) (s : State) :
    HoleMoves s (ruleSetLogThreshold b s).1 := s.setParams_moves _

theorem ruleSetProbeHold_moves (b : List Byte) (s : State) : HoleMoves s (ruleSetProbeHold b s).1 :=
  s.writeParam_moves b (fun _ => (s.setParams_moves _).trans (State.expireDueHolds_moves _))

theorem ruleSetStaleAction_moves (b : List Byte) (s : State) :
    HoleMoves s (ruleSetStaleAction b s).1 :=
  s.writeParam_moves b (fun _ => HoleMoves.same rfl rfl)

theorem ruleSetBudget_moves (b : List Byte) (s : State) : HoleMoves s (ruleSetBudget b s).1 :=
  s.writeParam_moves b (fun _ => (s.setParams_moves _).trans (State.expireClass_moves _ _))

theorem ruleSetDebounceMs_moves (b : List Byte) (s : State) : HoleMoves s (ruleSetDebounceMs b s).1 :=
  s.writeParam_moves b (fun _ => (s.setParams_moves _).trans (State.acceptDue_moves _))

/-! ### The ports -/

theorem State.setPort_moves (s : State) (p : PortId) (q : Port) : HoleMoves s (s.setPort p q) :=
  .same rfl rfl

theorem State.lineLevel_moves (s : State) (p : PortId) (low : Bool) : HoleMoves s (s.lineLevel p low) :=
  s.setPort_moves p _

theorem State.setPin_moves (s : State) (n : TermId) (high : Bool) : HoleMoves s (s.setPin n high) :=
  .same rfl rfl

theorem State.receiveCharacter_moves (s : State) (p : PortId) (mark : Bool) (data : Byte)
    (stopHigh : Bool) : HoleMoves s (s.receiveCharacter p mark data stopHigh) := by
  unfold receiveCharacter
  simp only
  split
  · exact .same (by simp) (by simp)
  · exact s.setPort_moves p _

/-! ### The commands and the step -/

theorem execPowerOn_move (h : execPowerOn s = .next t) : HoleMove s t := by
  obtain rfl := Host.Outcome.next.inj h
  exact .blank (.inl rfl) (.inl (fun h' => by simp [workAt, State.reset]))

/-- An event of a line or a pin follows the level while RESET_N is low, and is taken otherwise. -/
theorem levelOrEvent_moves {due : Bool} {effect : State → State} {u : State}
    (hu : HoleMoves s u) (he : ∀ v, HoleMoves v (effect v))
    (h : (if s.inReset then .next u else takeEvent due effect s) = Host.Outcome.next t) :
    HoleMoves s t := by
  split at h
  · exact Host.Outcome.next.inj h ▸ hu
  · exact takeEvent_moves he h

/-- A message that is a row's own is taken, and one of another row is ignored (log entry 7). -/
theorem ownRow_moves {own : Bool} {taken : Host.Outcome State Fault Refusal}
    (ht : taken = .next t → HoleMoves s t)
    (h : (if own then taken else .next s) = Host.Outcome.next t) : HoleMoves s t := by
  split at h
  · exact ht h
  · exact Host.Outcome.next.inj h ▸ .refl s

theorem otherRow_moves {own : Bool} {taken : Host.Outcome State Fault Refusal}
    (ht : taken = .next t → HoleMoves s t)
    (h : (if own then .next s else taken) = Host.Outcome.next t) : HoleMoves s t := by
  split at h
  · exact Host.Outcome.next.inj h ▸ .refl s
  · exact ht h

/-- Every command is a run of moves. -/
theorem exec_moves (c : Instr) (h : exec c s = .next t) : HoleMoves s t := by
  cases c with
  | powerOn => exact .single (execPowerOn_move h)
  | resetNAssert => exact Host.Outcome.next.inj h ▸ .same rfl rfl
  | attach slot b => exact takeMessage_moves (ruleAttach_moves slot b) h
  | detach slot b => exact takeMessage_moves (ruleDetach_moves slot) h
  | next slot b => exact takeMessage_moves (ruleNext_moves slot) h
  | take slot b => exact takeMessage_moves (ruleTake_moves slot b) h
  | move slot b => exact takeMessage_moves (ruleMove_moves slot b) h
  | arrived slot b => exact takeMessage_moves (ruleArrived_moves slot) h
  | progress slot b => exact takeMessage_moves (ruleProgress_moves slot) h
  | abandon slot b => exact takeMessage_moves (ruleAbandon_moves slot) h
  | drillDone slot b => exact takeMessage_moves (ruleDrillDone_moves slot b) h
  | feed slot b => exact takeMessage_moves (ruleFeed_moves slot) h
  | setDone slot b => exact takeMessage_moves (ruleSetDone_moves slot) h
  | haltAt slot b => exact takeMessage_moves (ruleHaltAt_moves slot b) h
  | headQuery slot b => exact takeMessage_moves (fun u => .refl u) h
  | planBegin b => exact takeMessage_moves (rulePlanBegin_moves b) h
  | planSegment b => exact takeMessage_moves (rulePlanSegment_moves b) h
  | planBay b => exact takeMessage_moves (rulePlanBay_moves b) h
  | planHole b => exact takeMessage_moves (rulePlanHole_moves b) h
  | planSeal b => exact takeMessage_moves rulePlanSeal_moves h
  | planAbort b => exact takeMessage_moves rulePlanAbort_moves h
  | planRead b => exact takeMessage_moves (rulePlanRead_moves b) h
  | datum b => exact takeMessage_moves (ruleDatum_moves b) h
  | fenceSet b => exact takeMessage_moves (ruleFenceSet_moves b) h
  | fenceClear b => exact takeMessage_moves (ruleFenceClear_moves b) h
  | holeReleaseRedo b => exact otherRow_moves (takeMessage_moves (ruleHoleReleaseRedo_moves b)) h
  | holeReleaseAccept b => exact ownRow_moves (takeMessage_moves (ruleHoleReleaseAccept_moves b)) h
  | holeExcuse b => exact takeMessage_moves (ruleHoleExcuse_moves b) h
  | headRecover b => exact takeMessage_moves (ruleHeadRecover_moves b) h
  | headEvict b => exact takeMessage_moves (ruleHeadEvict_moves b) h
  | devMode b => exact takeMessage_moves (ruleDevMode_moves b) h
  | devClear b => exact takeMessage_moves (ruleDevClear_moves b) h
  | devRead b => exact takeMessage_moves (fun u => .refl u) h
  | logRead b => exact takeMessage_moves (ruleLogRead_moves b) h
  | setParam b => exact otherRow_moves (takeMessage_moves (ruleSetParam_moves b)) h
  | setParamProbeHold b => exact ownRow_moves (takeMessage_moves (ruleSetProbeHold_moves b)) h
  | setParamStaleAction b => exact ownRow_moves (takeMessage_moves (ruleSetStaleAction_moves b)) h
  | setParamHeatMin b => exact ownRow_moves (takeMessage_moves (ruleSetHeatMin_moves b)) h
  | setParamHeatMax b => exact ownRow_moves (takeMessage_moves (ruleSetHeatMax_moves b)) h
  | setParamBudget b => exact ownRow_moves (takeMessage_moves (ruleSetBudget_moves b)) h
  | setParamLogThreshold b => exact ownRow_moves (takeMessage_moves (ruleSetLogThreshold_moves b)) h
  | setParamDebounceMs b => exact ownRow_moves (takeMessage_moves (ruleSetDebounceMs_moves b)) h
  | getParam b => exact takeMessage_moves (ruleGetParam_moves b) h
  | termConfig b => exact takeMessage_moves (ruleTermConfig_moves b) h
  | termWrite b => exact takeMessage_moves (ruleTermWrite_moves b) h
  | termRead b => exact takeMessage_moves (ruleTermRead_moves b) h
  | termAck b => exact takeMessage_moves (ruleTermAck_moves b) h
  | heaterClear b => exact takeMessage_moves ruleHeaterClear_moves h
  | frameEnd b => exact takeMessage_moves ruleFrameEnd_moves h
  | lineQuery b => exact takeMessage_moves (ruleLineQuery_moves b) h
  | rivetOut b => exact takeMessage_moves (ruleRivetOut_moves b) h
  | heaterQuery b => exact takeMessage_moves (fun u => .refl u) h
  | motionTimerExpiry slot => exact takeEvent_moves (fun u => u.expireTimer_moves slot) h
  | holdExpiry k => exact takeEvent_moves (fun u => u.expireHold_moves k) h
  | rivetExpiry serial => exact takeEvent_moves (fun u => u.setHeat_moves _) h
  | rawChange n high =>
    exact levelOrEvent_moves (s.setPin_moves n high) (fun u => u.changePin_moves n high) h
  | acceptance n => exact takeEvent_moves (fun u => u.acceptCandidate_moves n) h
  | probeSample n code => exact takeEvent_moves (fun u => u.takeSample_moves n code) h
  | characterArrival p mark data stopHigh =>
    exact levelOrEvent_moves (s.lineLevel_moves p false)
      (fun u => u.receiveCharacter_moves p mark data stopHigh) h
  | gapExpiry p => exact takeEvent_moves (fun u => u.setPort_moves p _) h
  | inBreak p => exact takeEvent_moves (fun u => u.setPort_moves p _) h
  | breakReturn p => exact levelOrEvent_moves (s.lineLevel_moves p false) (fun u => u.takeBreak_moves p) h
  | frameSent p => exact takeEvent_moves (fun u => u.setPort_moves p _) h
  | unknownKindMessage p kind b =>
    exact otherRow_moves (takeMessage_moves fun u => .refl u) h
  | frameTransmitStart p => exact takeEvent_moves (fun u => u.setPort_moves p _) h
  | receiveLineFall p =>
    exact levelOrEvent_moves (s.lineLevel_moves p true) (fun u => u.setPort_moves p _) h

theorem State.tick_moves (s : State) : HoleMoves s s.tick := by
  unfold tick
  split
  · exact .refl s
  · simp only
    split <;> exact .same rfl rfl

/-- Every step is a run of moves. -/
theorem step_moves (h : step s = .next t) : HoleMoves s t := by
  unfold step at h
  split at h
  · exact Host.Outcome.next.inj h ▸ s.tick_moves
  · have hqueue : ∀ rest, HoleMoves s { s with pending := rest } := fun _ => .same rfl rfl
    exact (hqueue _).trans (exec_moves _ h)

/-- Settles O18: every step is a run of moves, and each move keeps the holes, the grants and the counts. -/
theorem stepKeepsHolesGrantsAndCounts : Obligations.StepKeepsHolesGrantsAndCounts := by
  intro s t hs h
  obtain ⟨hholes, hcounts, -⟩ := (step_moves h).kept hs
  exact ⟨hholes, hcounts⟩

/-- Settles O19: every step is a run of moves, and each move keeps the order of joints. -/
theorem stepKeepsTheOrderOfJoints : Obligations.StepKeepsTheOrderOfJoints := by
  intro s t hs hc ho h
  obtain ⟨-, -, horder⟩ := (step_moves h).kept hs
  exact horder hc ho

end Sys2Proof.Machine
end

section
/-! SUPPORT. The taking of a supervisor's and a head station's message, and the fields its payload gives. -/

namespace Sys2Proof.Machine

variable {s s' : State} {kind : Byte} {b : List Byte}

/-! ### A message is taken and answered (R171, R172) -/

/-- The state a rule is applied to: the message has left its queue (R171). -/
def State.dequeued (s : State) (p : PortId) : State := s.setPort p s.ports[p].dequeue

@[simp] theorem State.dequeued_plan (s : State) (p : PortId) : (s.dequeued p).plan = s.plan := rfl
@[simp] theorem State.dequeued_log (s : State) (p : PortId) : (s.dequeued p).log = s.log := rfl
@[simp] theorem State.dequeued_heads (s : State) (p : PortId) : (s.dequeued p).heads = s.heads := rfl
@[simp] theorem State.dequeued_clock (s : State) (p : PortId) : (s.dequeued p).clock = s.clock := rfl
@[simp] theorem State.dequeued_heat (s : State) (p : PortId) : (s.dequeued p).heat = s.heat := rfl
@[simp] theorem State.dequeued_timers (s : State) (p : PortId) : (s.dequeued p).timers = s.timers := rfl

theorem kindKnown_supervisor {n : Nat} (hm : (kind, n) ∈ supervisorCatalogue) :
    kindKnown supervisorPort kind = true := by
  simp only [kindKnown, Bool.or_eq_true, List.any_eq_true]
  exact .inl ⟨_, hm, by simp⟩

/-- A supervisor's message whose rule changes no port is answered, and no notice is sent. -/
theorem supervisor_answered {rule : State → Taken} {n : Nat} {r : Reply}
    (hready : s.ready supervisorPort kind b) (hm : (kind, n) ∈ supervisorCatalogue)
    (hl : b.length = n) (hr : rule (s.dequeued supervisorPort) = (s', r))
    (hp : s'.ports = (s.dequeued supervisorPort).ports) :
    takeMessage supervisorPort kind b rule s =
      .next { s' with ports := repliedPorts s.ports supervisorPort kind r } :=
  takeMessage_answered hready.2 hready.1 (kindKnown_supervisor hm) (lengthFits_supervisor hm hl) hr hp

/-- A supervisor's message that its rule refuses changes nothing beyond its reply. -/
theorem supervisor_refused {rule : State → Taken} {n : Nat} {r : Reply}
    (hready : s.ready supervisorPort kind b) (hm : (kind, n) ∈ supervisorCatalogue)
    (hl : b.length = n) (hr : rule (s.dequeued supervisorPort) = (s.dequeued supervisorPort, r)) :
    takeMessage supervisorPort kind b rule s =
      .next { s with ports := repliedPorts s.ports supervisorPort kind r } :=
  supervisor_answered (s' := s.dequeued supervisorPort) hready hm hl hr rfl

/-- A head station's message whose rule changes no port is answered, and no notice is sent. -/
theorem head_answered {rule : State → Taken} {h : Slot} {n : Nat} {r : Reply}
    (hready : s.ready (headPort h) kind b) (hm : (kind, n) ∈ headCatalogue)
    (hl : b.length = n) (hr : rule (s.dequeued (headPort h)) = (s', r))
    (hp : s'.ports = (s.dequeued (headPort h)).ports) :
    takeMessage (headPort h) kind b rule s =
      .next { s' with ports := repliedPorts s.ports (headPort h) kind r } :=
  takeMessage_answered hready.2 hready.1 (kindKnown_head h (List.mem_map_of_mem hm))
    (lengthFits_head h hm hl) hr hp

/-! ### Fields of a payload (R179) -/

theorem indexAt_of_eq {n i : Nat} {k : Fin n} (h : u8At b i = k.val) : indexAt n b i = some k := by
  simp [indexAt, h]

theorem inJig_iff {x : Int} : inJig x = true ↔ 0 ≤ x ∧ x ≤ 2000000 := by simp [inJig]

theorem inRange_iff {lo hi n : Nat} : inRange lo hi n = true ↔ lo ≤ n ∧ n ≤ hi := by simp [inRange]

theorem railOfCode_code (r : Rail) : railOfCode r.code = some r := by cases r <;> rfl

theorem rivetClassOfCode_number (c : RivetClass) : rivetClassOfCode (c.val + 1) = some c := by
  have : 1 ≤ c.val + 1 ∧ c.val + 1 ≤ 6 := by omega
  simp [rivetClassOfCode, this]

theorem headroomForOne_iff : s.headroomForOne = true
    ↔ s.log.records.length + s.log.inFlight + 1 ≤ 64 := by simp [State.headroomForOne]

/-- A refusal of any kind but RIVET_OUT is its code alone (R176). -/
theorem refuse_eq (hk : kind ≠ kindRivetOut) (code : ResultCode) (s : State) :
    refuse kind code s = (s, ⟨code, 0, .none⟩) := by simp [refuse, refusal, hk, plainReply]

/-! ### Loading (R2 to R5) -/

theorem rulePlanBegin_empty (hstate : s.plan.state = .empty) (hr : (headerOf b).inRanges = true) :
    rulePlanBegin b s = (s.setPlan (PlanStore.begun (headerOf b)), ⟨.ok, 0, .none⟩) := by
  simp [rulePlanBegin, hstate, hr, plainReply]

theorem rulePlanSegment_loading {n : TermId} (hstate : s.plan.state = .loading)
    (hn : u8At b 9 = n.val) (hk : u8At b 0 < s.plan.segCount) (hlo : inJig (i32At b 1) = true)
    (hhi : inJig (i32At b 5) = true) : rulePlanSegment b s =
      match (s.plan.segments[u8At b 0]?).join with
      | some _ => (s, ⟨.duplicate, 0, .none⟩)
      | none => (s.setPlan (s.plan.loadSegment (u8At b 0) ⟨i32At b 1, i32At b 5, n⟩),
          ⟨.ok, 0, .none⟩) := by
  cases hrow : (s.plan.segments[u8At b 0]?).join <;>
    simp [rulePlanSegment, hstate, indexAt_of_eq hn, hk, hlo, hhi, hrow, plainReply,
      refuse_eq (kind := kindPlanSegment) (by decide)]

theorem rulePlanBay_loading (hstate : s.plan.state = .loading) (hk : u8At b 0 < s.plan.bayCount)
    (hlo : inJig (i32At b 1) = true) (hhi : inJig (i32At b 5) = true) : rulePlanBay b s =
      match (s.plan.bays[u8At b 0]?).join with
      | some _ => (s, ⟨.duplicate, 0, .none⟩)
      | none => (s.setPlan (s.plan.loadBay (u8At b 0) ⟨i32At b 1, i32At b 5⟩),
          ⟨.ok, 0, .none⟩) := by
  cases hrow : (s.plan.bays[u8At b 0]?).join <;>
    simp [rulePlanBay, hstate, hk, hlo, hhi, hrow, plainReply,
      refuse_eq (kind := kindPlanBay) (by decide)]

theorem rulePlanHole_loading {x : Hole} (hstate : s.plan.state = .loading)
    (hx : holeFields s.plan b = some x) : rulePlanHole b s =
      match s.plan.hole? (u16At b 0) with
      | some _ => (s, ⟨.duplicate, 0, .none⟩)
      | none => (s.setPlan (s.plan.loadHole (u16At b 0) x), ⟨.ok, 0, .none⟩) := by
  cases hrow : s.plan.hole? (u16At b 0) <;>
    simp [rulePlanHole, hstate, hx, hrow, plainReply, refuse_eq (kind := kindPlanHole) (by decide)]

/-- Settles O56: each of the four messages by what its rule does under its conditions. -/
theorem planIsLoadedRowByRow : Obligations.PlanIsLoadedRowByRow := by
  refine ⟨?_, ?_, ?_, ?_⟩
  · intro b s hready hl hstate h1 h2 h3 h4 h5 h6 h7 h8 h9 h10
    have hranges : (headerOf b).inRanges = true := by
      simp only [PlanHeader.inRanges, headerOf, Bool.and_eq_true, inRange_iff, inJig_iff]
      exact ⟨⟨⟨⟨⟨h1, h2⟩, h3, h4⟩, h5, h6⟩, h7, h8⟩, h9, h10⟩
    exact supervisor_answered (n := 13) hready (by decide) hl (rulePlanBegin_empty hstate hranges) rfl
  · intro b s n hready hl hstate hn hk h1 h2 h3 h4
    have hrule := rulePlanSegment_loading (s := s.dequeued supervisorPort) hstate hn hk
      (inJig_iff.2 ⟨h1, h2⟩) (inJig_iff.2 ⟨h3, h4⟩)
    rw [State.dequeued_plan] at hrule
    cases hrow : (s.plan.segments[u8At b 0]?).join <;> rw [hrow] at hrule
    · exact supervisor_answered (n := 10) hready (by decide) hl hrule rfl
    · exact supervisor_refused (n := 10) hready (by decide) hl hrule
  · intro b s hready hl hstate hk h1 h2 h3 h4
    have hrule := rulePlanBay_loading (s := s.dequeued supervisorPort) hstate hk
      (inJig_iff.2 ⟨h1, h2⟩) (inJig_iff.2 ⟨h3, h4⟩)
    rw [State.dequeued_plan] at hrule
    cases hrow : (s.plan.bays[u8At b 0]?).join <;> rw [hrow] at hrule
    · exact supervisor_answered (n := 9) hready (by decide) hl hrule rfl
    · exact supervisor_refused (n := 9) hready (by decide) hl hrule
  · intro b s tier rail c hready hl hstate hi hj htier hrail h1 h2 h3 h4 hc h5 h6
    have hfields : holeFields s.plan b = some (Hole.planned (u8At b 2) tier rail (i32At b 5)
        (i32At b 9) c (u16At b 14)) := by
      simp [holeFields, indexAt_of_eq htier, hrail, railOfCode_code, hc, rivetClassOfCode_number, hi, hj,
        inJig_iff.2 ⟨h1, h2⟩, h3, h4, inRange_iff.2 ⟨h5, h6⟩]
    have hrule := rulePlanHole_loading (s := s.dequeued supervisorPort) hstate hfields
    rw [State.dequeued_plan] at hrule
    cases hrow : s.plan.hole? (u16At b 0) <;> rw [hrow] at hrule
    · exact supervisor_answered (n := 16) hready (by decide) hl hrule rfl
    · exact supervisor_refused (n := 16) hready (by decide) hl hrule

/-! ### The datum, the abort and the end of a frame (R8, R9, R24) -/

theorem State.stands_iff {f : TermFunction} :
    s.stands f = true ↔ ∃ n : TermId, s.terminals[n].function = f := by
  simp only [State.stands, List.any_eq_true, beq_iff_eq]
  constructor
  · rintro ⟨r, hr, hf⟩
    obtain ⟨i, hi, rfl⟩ := Vector.getElem_of_mem (Vector.mem_toList_iff.1 hr)
    exact ⟨⟨i, hi⟩, hf⟩
  · rintro ⟨n, hn⟩
    exact ⟨_, by simp, hn⟩

/-- A test of the attached heads holds for one iff it does for one of the slots. -/
theorem any_heads_iff {q : Option Head → Bool} :
    s.heads.toList.any q = true ↔ ∃ h : Slot, q s.heads[h] = true := by
  simp only [List.any_eq_true]
  constructor
  · rintro ⟨o, ho, hq⟩
    obtain ⟨i, hi, rfl⟩ := Vector.getElem_of_mem (Vector.mem_toList_iff.1 ho)
    exact ⟨⟨i, hi⟩, hq⟩
  · rintro ⟨h, hq⟩
    exact ⟨_, by simp, hq⟩

theorem State.anyGrant_iff : s.anyGrant = true ↔
    ∃ (h : Slot) (hd : Head), s.heads[h] = some hd ∧ hd.status.hasGrant = true := by
  rw [State.anyGrant, any_heads_iff]
  refine exists_congr fun h => ?_
  cases s.heads[h] <;> simp

theorem State.anyTrouble_iff : s.anyTrouble = true ↔
    ∃ (h : Slot) (hd : Head), s.heads[h] = some hd ∧ hd.status.inTrouble = true := by
  rw [State.anyTrouble, any_heads_iff]
  refine exists_congr fun h => ?_
  cases s.heads[h] <;> simp

/-- FRAME_PRESENT does not stand in the way of a DATUM: it is on no terminal, or active (R9). -/
def State.framePasses (s : State) : Prop :=
  ∀ n : TermId, s.terminals[n].function = .framePresent → s.functionSignal .framePresent = true

theorem State.framePasses_iff :
    s.framePasses ↔ (s.stands .framePresent && !s.functionSignal .framePresent) = false := by
  rw [State.framePasses, Bool.and_eq_false_iff, Bool.not_eq_false', ← Bool.not_eq_true, State.stands_iff]
  by_cases h : s.functionSignal .framePresent = true <;> simp [h]

theorem ruleDatum_noFrame (hstate : s.plan.state = .ready ∨ s.plan.state = .working)
    (hjig : inJig (i32At b 0) = true) (hf : ¬s.framePasses) :
    ruleDatum b s = (s, ⟨.noFrame, 0, .none⟩) := by
  rw [State.framePasses_iff, Bool.not_eq_false] at hf
  rcases hstate with e | e <;>
    simp [ruleDatum, e, hjig, hf, refuse_eq (kind := kindDatum) (by decide)]

theorem ruleDatum_grant (hstate : s.plan.state = .working) (hjig : inJig (i32At b 0) = true)
    (hf : s.framePasses) (hg : s.anyGrant = true) : ruleDatum b s = (s, ⟨.badState, 0, .none⟩) := by
  rw [State.framePasses_iff] at hf
  simp [ruleDatum, hstate, hjig, hf, hg, refuse_eq (kind := kindDatum) (by decide)]

theorem ruleDatum_taken (hstate : s.plan.state = .ready ∨ s.plan.state = .working ∧ s.anyGrant = false)
    (hjig : inJig (i32At b 0) = true) (hf : s.framePasses) :
    ruleDatum b s = (s.setPlan (s.plan.takeDatum (i32At b 0)), ⟨.ok, 0, .none⟩) := by
  rw [State.framePasses_iff] at hf
  rcases hstate with e | ⟨e, hg⟩
  · simp [ruleDatum, e, hjig, hf, plainReply]
  · simp [ruleDatum, e, hjig, hf, hg, plainReply]

theorem rulePlanAbort_done (hstate : s.plan.state = .loading ∨ s.plan.state = .ready) :
    rulePlanAbort s = (s.dropFrame, ⟨.ok, 0, .none⟩) := by
  rw [rulePlanAbort, if_pos hstate]
  rfl

theorem ruleFrameEnd_idle (h1 : s.plan.state ≠ .empty) (h2 : s.plan.state ≠ .loading)
    (hg : s.anyGrant = false) (ht : s.anyTrouble = false) : ruleFrameEnd s =
      if s.log.records = [] then (s.dropFrame, ⟨.ok, 0, .none⟩) else (s, ⟨.logPending, 0, .none⟩) := by
  by_cases hlog : s.log.records = [] <;>
    simp [ruleFrameEnd, h1, h2, hg, ht, hlog, plainReply,
      refuse_eq (kind := kindFrameEnd) (by decide)]

/-- Settles O58: DATUM by the checks of its rule in their order, PLAN_ABORT and FRAME_END by theirs. -/
theorem datumAbortAndEndMoveTheFrame : Obligations.DatumAbortAndEndMoveTheFrame := by
  refine ⟨?_, ?_, ?_, ?_⟩
  · intro b s hready hl h1 h2 hstate
    have hjig := inJig_iff.2 ⟨h1, h2⟩
    constructor
    · rintro ⟨n, hn⟩ hoff
      have hf : ¬s.framePasses := fun hp => by simp [hp n hn] at hoff
      exact supervisor_refused (n := 4) hready (by decide) hl
        (ruleDatum_noFrame (s := s.dequeued supervisorPort) hstate hjig hf)
    · intro hf hworking hgrant
      exact supervisor_refused (n := 4) hready (by decide) hl
        (ruleDatum_grant (s := s.dequeued supervisorPort) hworking hjig hf
          (State.anyGrant_iff.2 hgrant))
  · intro b s hready hl h1 h2 hf hstate
    have hstate' : s.plan.state = .ready ∨ s.plan.state = .working ∧ s.anyGrant = false := by
      refine hstate.imp_right (And.imp_right fun hno => ?_)
      rw [← Bool.not_eq_true, State.anyGrant_iff]
      rintro ⟨h, hd, hh, hg⟩
      simp [hno h hd hh] at hg
    exact supervisor_answered (n := 4) hready (by decide) hl
      (ruleDatum_taken (s := s.dequeued supervisorPort) hstate' (inJig_iff.2 ⟨h1, h2⟩) hf) rfl
  · intro s hready hstate
    exact supervisor_answered (n := 0) hready (by decide) rfl
      (rulePlanAbort_done (s := s.dequeued supervisorPort) hstate) rfl
  · intro s hready h1 h2 hidle
    have hg : s.anyGrant = false := by
      rw [← Bool.not_eq_true, State.anyGrant_iff]
      rintro ⟨h, hd, hh, hg⟩
      simp [hidle h hd hh, HeadStatus.hasGrant] at hg
    have ht : s.anyTrouble = false := by
      rw [← Bool.not_eq_true, State.anyTrouble_iff]
      rintro ⟨h, hd, hh, ht⟩
      simp [hidle h hd hh, HeadStatus.inTrouble] at ht
    have hrule := ruleFrameEnd_idle (s := s.dequeued supervisorPort) h1 h2 hg ht
    rw [State.dequeued_log] at hrule
    split at hrule
    · rename_i hlog
      rw [if_pos hlog]
      exact supervisor_answered (n := 0) hready (by decide) rfl hrule rfl
    · rename_i hlog
      rw [if_neg hlog]
      exact supervisor_refused (n := 0) hready (by decide) rfl hrule

end Sys2Proof.Machine
end

section
/-! SUPPORT. The power-on values. -/

namespace Sys2Proof.Machine

theorem reset_terminals (n : TermId) : State.reset.terminals[n] = Terminal.powerOn :=
  Vector.getElem_replicate n.isLt

theorem reset_ports (p : PortId) : State.reset.ports[p] = Port.powerOn := Vector.getElem_replicate p.isLt

theorem reset_heads (h : Slot) : State.reset.heads[h] = none := Vector.getElem_replicate h.isLt

theorem reset_timers (h : Slot) : State.reset.timers[h] = .stopped := Vector.getElem_replicate h.isLt

theorem reset_pinHigh (n : TermId) : State.reset.pinHigh[n] = false := Vector.getElem_replicate n.isLt

/-- Settles O4: each clause by the definition of the reset state, a row's by the value that fills it. -/
theorem resetHoldsThePowerOnValues : Obligations.ResetHoldsThePowerOnValues := by
  refine ⟨rfl, rfl, rfl, rfl, rfl, rfl, rfl, rfl, rfl, rfl, ?_, rfl, rfl, rfl, rfl, ?_, ?_, rfl, rfl,
    rfl, ?_, ?_, rfl, rfl, rfl, ?_, ?_⟩
  · exact fun i => Vector.getElem_replicate i.isLt
  · exact fun f => Vector.getElem_replicate f.isLt
  · exact fun h => ⟨reset_heads h, reset_timers h⟩
  · intro c
    cases c <;> rfl
  · exact fun i => Vector.getElem_replicate i.isLt
  · intro n
    rw [reset_terminals]
    exact ⟨reset_pinHigh n, rfl⟩
  · exact reset_ports

end Sys2Proof.Machine
end

section
/-! SUPPORT. A message whose rule makes notices pending, or takes some away, is answered: what the taking
leaves is the rule's state but for the ports. -/

namespace Sys2Proof.Machine

variable {s s' : State} {p : PortId} {kind : Byte} {b : List Byte}

/-! ### Ports that differ in their pending sets (R173) -/

/-- Two port tables that differ at most in their pending sets. -/
def OnlyPending (v w : Vector Port 10) : Prop := ∀ q : PortId, w[q] = { v[q] with notices := w[q].notices }

theorem OnlyPending.refl (v : Vector Port 10) : OnlyPending v v := fun _ => rfl

theorem OnlyPending.trans {u v w : Vector Port 10} (h : OnlyPending u v) (h' : OnlyPending v w) :
    OnlyPending u w := fun q => by rw [h' q, h q]

theorem onlyPending_set (v : Vector Port 10) (q : PortId) (l : List NoticeKind) :
    OnlyPending v (v.set q { v[q] with notices := l }) := by
  intro q'
  by_cases e : q = q'
  · subst e
    simp
  · have : q.val ≠ q'.val := fun h => e (Fin.ext h)
    simp [this]

theorem onlyPending_pended (v : Vector Port 10) (q : PortId) (k : NoticeKind) :
    OnlyPending v (pendedPorts v q k) := onlyPending_set v q _

theorem onlyPending_unpended (v : Vector Port 10) (q : PortId) (k : NoticeKind) :
    OnlyPending v (unpendedPorts v q k) := onlyPending_set v q _

theorem onlyPending_flagged (s : State) (c : DevClass) : OnlyPending s.ports (s.flaggedPorts c) := by
  unfold State.flaggedPorts
  split
  · exact OnlyPending.refl _
  · exact onlyPending_pended _ _ _

theorem onlyPending_recorded (s : State) : OnlyPending s.ports s.recordedPorts := by
  unfold State.recordedPorts
  split
  · exact onlyPending_pended _ _ _
  · exact OnlyPending.refl _

theorem onlyPending_raiseForHole (s : State) (c : DevClass) (i : Nat) (h : Slot) (a b : Int) :
    OnlyPending s.ports (s.raiseForHole c i h a b).ports := by
  rw [State.raiseForHole_eq]
  exact onlyPending_flagged s c

/-! ### The taking (R171 to R173) -/

theorem State.announced_appendReply {q : PortId} {k : NoticeKind} {r : Reply} (h : s.announced q k) :
    (s.appendReply p kind r).announced q k := by
  unfold State.announced State.appendReply State.setPort at *
  by_cases e : p = q
  · subst e
    simpa using h.imp_right fun ⟨n, hn, hk⟩ => ⟨n, by simpa using hn, hk⟩
  · have : p.val ≠ q.val := fun h => e (Fin.ext h)
    simpa [this] using h

/-- A message whose rule changes of the ports the pending sets at most is answered. The taking leaves the
rule's state but for the ports; what was announced stays so, and the answering port, which now has a reply
to send, keeps its pending set. -/
theorem message_answered {rule : State → Taken} {r : Reply} (ht : s.takes p ⟨kind, b⟩ = true)
    (hk : kindKnown p kind = true) (hl : lengthFits p kind b = true)
    (hr : rule (s.dequeued p) = (s', r)) (hp : OnlyPending (s.dequeued p).ports s'.ports) :
    ∃ ports : Vector Port 10, takeMessage p kind b rule s = .next { s' with ports := ports }
      ∧ AnsweredAt s { s' with ports := ports } p kind r
      ∧ ports[p].notices = s'.ports[p].notices
      ∧ ∀ (q : PortId) (k : NoticeKind), s'.announced q k → State.announced { s' with ports := ports } q k := by
  have hfr : (s'.appendReply p kind r).sendNotices
      = { s' with ports := (s'.appendReply p kind r).sendNotices.ports } :=
    State.sendNotices_eq (s'.appendReply p kind r)
  have hans : AnsweredAt s (s'.appendReply p kind r).sendNotices p kind r := answeredAt_of_rule hp
  have hkeep : (s'.appendReply p kind r).sendNotices.ports[p].notices = s'.ports[p].notices := by
    rw [State.sendNotices_keep] <;> simp [State.appendReply, State.setPort]
  have hann : ∀ (q : PortId) (k : NoticeKind), s'.announced q k →
      (s'.appendReply p kind r).sendNotices.announced q k := fun q k h =>
    State.announced_sendNotices (State.announced_appendReply h)
  have hnext := takeMessage_ruled ht hk hl hr
  generalize (s'.appendReply p kind r).sendNotices = t at hfr hans hkeep hann hnext
  exact ⟨t.ports, hnext.trans (congrArg Host.Outcome.next hfr), hans, hkeep, hann⟩

/-- A head station's message whose rule changes of the ports the pending sets at most is answered. -/
theorem head_message_answered {rule : State → Taken} {h : Slot} {n : Nat} {r : Reply}
    (ht : s.takes (headPort h) ⟨kind, b⟩ = true) (hm : (kind, n) ∈ headCatalogue) (hl : b.length = n)
    (hr : rule (s.dequeued (headPort h)) = (s', r))
    (hp : OnlyPending (s.dequeued (headPort h)).ports s'.ports) :
    ∃ ports : Vector Port 10, takeMessage (headPort h) kind b rule s = .next { s' with ports := ports }
      ∧ AnsweredAt s { s' with ports := ports } (headPort h) kind r
      ∧ ports[headPort h].notices = s'.ports[headPort h].notices
      ∧ ∀ (q : PortId) (k : NoticeKind), s'.announced q k → State.announced { s' with ports := ports } q k :=
  message_answered ht (kindKnown_head h (List.mem_map_of_mem hm)) (lengthFits_head h hm hl) hr hp

/-- A supervisor's message whose rule changes of the ports the pending sets at most is answered. -/
theorem supervisor_message_answered {rule : State → Taken} {n : Nat} {r : Reply}
    (ht : s.takes supervisorPort ⟨kind, b⟩ = true) (hm : (kind, n) ∈ supervisorCatalogue)
    (hl : b.length = n) (hr : rule (s.dequeued supervisorPort) = (s', r))
    (hp : OnlyPending (s.dequeued supervisorPort).ports s'.ports) :
    ∃ ports : Vector Port 10, takeMessage supervisorPort kind b rule s = .next { s' with ports := ports }
      ∧ AnsweredAt s { s' with ports := ports } supervisorPort kind r :=
  (message_answered ht (kindKnown_supervisor hm) (lengthFits_supervisor hm hl) hr hp).imp
    fun _ ⟨hnext, hans, _⟩ => ⟨hnext, hans⟩

/-! ### One hole's record, the tray and the class modes -/

theorem PlanStore.onlyHoleChanged (q : PlanStore) (i : Nat) (f : Hole → Hole) :
    OnlyHoleChanged q (q.changeHole i f) i := by
  refine ⟨fun j hj => q.hole?_changeHole_other f hj, ?_⟩
  conv_lhs => rw [q.changeHole_eq i f]
  simp

theorem PlanStore.hole?_changeHole_of {q : PlanStore} {i : Nat} {f : Hole → Hole} {x : Hole}
    (hx : q.hole? i = some x) : (q.changeHole i f).hole? i = some (f x) := by
  simp [hole?_changeHole_self, hx]

/-- A class joins the marks unless it stands there, and nothing else changes (R127). -/
theorem Hole.mark_eq (x : Hole) (c : DevClass) :
    x.mark c = { x with marks := if c ∈ x.marks then x.marks else x.marks ++ [c] } := by
  by_cases h : c ∈ x.marks <;> simp [mark, h]

theorem Hole.sameStand_mark (c : DevClass) (x : Hole) : x.SameStand (x.mark c) := by
  rw [mark_eq]
  exact ⟨rfl, rfl, rfl⟩

/-- A mark changes no state, so the joints and the counters stand. -/
theorem PlanStore.changeHole_mark (q : PlanStore) (i : Nat) (c : DevClass) :
    q.changeHole i (fun x => x.mark c)
      = { q with holes := (q.changeHole i (fun x => x.mark c)).holes } := by
  cases hx : q.hole? i with
  | none => rw [changeHole_of_none _ hx]
  | some x =>
    obtain ⟨-, -, hstate⟩ := Hole.sameStand_mark c x
    rw [changeHole_of_same_state (f := fun x => x.mark c) hx hstate]

theorem HeatQueue.releaseHead_eq (q : HeatQueue) (h : Slot) (scrap : Bool) :
    q.releaseHead h scrap = { q with
      waiting := q.waiting.filter (fun w => w ≠ h)
      scrapped := if scrap then min 4294967295 (q.scrapped + 1) else q.scrapped } := by
  have hw : q.waiting.filter (fun w => !(w == h)) = q.waiting.filter (fun w => w ≠ h) := by
    congr 1
    funext w
    by_cases e : w = h <;> simp [e]
  cases scrap <;> simp only [releaseHead, scrapOne, saturatingSucc, hw] <;> rfl

theorem headroomForOne_of (h : s.log.records.length + s.log.inFlight + 1 ≤ 64) :
    s.headroomForOne = true := headroomForOne_iff.2 h

end Sys2Proof.Machine
end

section
/-! SUPPORT. Holds: at the thermal limit of a request (R69), and at an arrival over an open clamp (R73). -/

namespace Sys2Proof.Machine

variable {s : State} {h : Slot} {hd : Head}

/-- Writing an attached head through its record is writing the new record. -/
theorem heads_set_map {heads : Vector (Option Head) 8} (hh : heads[h] = some hd) (f : Head → Head) :
    heads.set h (heads[h].map f) = heads.set h (some (f hd)) := by
  rw [hh, Option.map_some]

/-- A hole that is marked with a class and held under it. -/
theorem Hole.hold_mark (x : Hole) (kind : HeadKind) (c : DevClass) :
    (x.mark c).hold kind.work c = { x with
      state := .held, grantHead := none
      heldFrom := some (match kind with | .drill => .drilling | .set => .setting)
      heldClass := some c
      marks := if c ∈ x.marks then x.marks else x.marks ++ [c] } := by
  rw [mark_eq]
  cases kind <;> rfl

/-! ### The hold at the thermal limit (R69) -/

theorem State.holdAtLimit_eq (s : State) (h : Slot) (hd : Head) (c : Eligible) :
    s.holdAtLimit h hd c = ({ s with
      plan := s.plan.changeHole c.index (fun x => x.hold hd.kind.work .thermalLimit)
      heads := s.heads.set h (s.heads[h].map (fun hd =>
        { hd with lastHold := some ⟨c.index, .thermalLimit, s.clock⟩ }))
      log := { s.log with
        records := s.log.records ++ [⟨s.log.sequence, c.index,
          .held h c.target.x (some c.target.d) .thermalLimit, false, s.clock⟩]
        sequence := s.log.sequence + 1 }
      ports := s.recordedPorts }, ⟨.held, 0, .heldHole c.index⟩) := by
  simp only [holdAtLimit, writeLog_record, setLastHold_eq]
  rfl

/-- A request held at check 16: the raising, the hold, its record and the head's last hold. -/
theorem State.grantHole_held {c : Eligible} (hh : s.heads[h] = some hd) (hb : c.target.beyond = true)
    (hm : s.modeOf .thermalLimit = .holding) :
    ∃ ports : Vector Port 10, OnlyPending s.ports ports ∧ s.grantHole h hd c = ({ s with
      plan := s.plan.changeHole c.index (fun x => (x.mark .thermalLimit).hold hd.kind.work .thermalLimit)
      heads := s.heads.set h (some { hd with lastHold := some ⟨c.index, .thermalLimit, s.clock⟩ })
      log := { s.log with
        records := s.log.records ++ [⟨s.log.sequence, c.index,
          .held h c.target.x (some c.target.d) .thermalLimit, false, s.clock⟩]
        sequence := s.log.sequence + 1 }
      dev := raisedDev s .thermalLimit (some c.index) (some h) c.target.dRaw s.params.corrLimit
      ports := ports }, ⟨.held, 0, .heldHole c.index⟩) := by
  have hm' : (s.raiseForHole .thermalLimit c.index h c.target.dRaw s.params.corrLimit).modeOf .thermalLimit
      = .holding := by rw [raiseForHole_eq]; exact hm
  refine ⟨_, (onlyPending_raiseForHole s .thermalLimit c.index h c.target.dRaw s.params.corrLimit).trans
    (onlyPending_recorded _), ?_⟩
  rw [grantHole, if_pos hb]
  simp only [hm']
  rw [holdAtLimit_eq, raiseForHole_eq]
  simp only [PlanStore.changeHole_changeHole _ _ _ (Hole.sameStand_mark _), heads_set_map hh]

theorem State.requestRefused_idle (hidle : hd.status = .idle) (hw : s.plan.state = .working)
    (hstop : s.lineStop = false) (hf : s.frozen hd.rail = false) : s.requestRefused hd = none := by
  simp [requestRefused, hidle, hw, hstop, hf]

theorem ruleTake_eligible {b : List Byte} {c : Eligible} (hh : s.heads[h] = some hd)
    (hreq : s.requestRefused hd = none) (hi : u16At b 0 < s.plan.holeCount)
    (hc : s.checkHole hd (u16At b 0) = .ok c) (hroom : s.headroomForOne = true)
    (hclear : s.hullConflict h hd c.target.x = none) : ruleTake h b s = s.grantHole h hd c := by
  simp only [ruleTake, hh, hreq, State.takeHole, Nat.not_le.2 hi, if_false, hc, hroom, hclear]
  simp

theorem ruleNext_eligible {c : Eligible} (hh : s.heads[h] = some hd)
    (hreq : s.requestRefused hd = none) (hroom : s.headroomForOne = true)
    (hc : chooseCandidate hd.position (s.candidates h hd) = some c) :
    ruleNext h s = s.grantHole h hd c := by
  simp [ruleNext, hh, hreq, State.nextHole, hroom, hc]

/-- Settles O29: a TAKE and a NEXT that come to check 16 make one hold, by `State.grantHole_held`. -/
theorem thermalLimitHoldsTheHole : Obligations.ThermalLimitHoldsTheHole := by
  intro h s hd hole c hh hidle hw hstop hf hx hbeyond hroom hmode held
  have hreq : (s.dequeued (headPort h)).requestRefused hd = none :=
    State.requestRefused_idle hidle hw hstop hf
  have hroom' : (s.dequeued (headPort h)).headroomForOne = true := headroomForOne_of hroom
  obtain ⟨ports, hpending, hgrant⟩ :=
    State.grantHole_held (s := s.dequeued (headPort h)) hh hbeyond hmode
  have hplan := PlanStore.hole?_changeHole_of (f := fun x =>
    (x.mark .thermalLimit).hold hd.kind.work .thermalLimit) hx
  rw [Hole.hold_mark] at hplan
  constructor
  · intro b ht hl hi hcount hc hclear
    have hrule : ruleTake h b (s.dequeued (headPort h)) = _ :=
      (ruleTake_eligible (s := s.dequeued (headPort h)) hh hreq (hi ▸ hcount) (hi ▸ hc) hroom' hclear).trans hgrant
    obtain ⟨w, hnext, hans, -⟩ := head_message_answered ht (n := 2) (by decide) hl hrule hpending
    exact ⟨_, hnext, hplan, PlanStore.onlyHoleChanged _ _ _, PlanStore.changeHole_state .., rfl, rfl,
      rfl, hans, rfl⟩
  · intro ht hc
    have hrule : ruleNext h (s.dequeued (headPort h)) = _ :=
      (ruleNext_eligible (s := s.dequeued (headPort h)) hh hreq hroom' hc).trans hgrant
    obtain ⟨w, hnext, hans, -⟩ := head_message_answered ht (n := 0) (by decide) rfl hrule hpending
    exact ⟨_, hnext, hplan, PlanStore.onlyHoleChanged _ _ _, PlanStore.changeHole_state .., rfl, rfl,
      rfl, hans, rfl⟩

end Sys2Proof.Machine
end

section
/-! SUPPORT. ARRIVED and ABANDON: the head stands at its target, or lets its grant go (R73, R77). -/

namespace Sys2Proof.Machine

variable {s : State} {h : Slot} {hd : Head}

theorem onlyPending_endHoleGrant (s : State) (h : Slot) (g : HoleGrant) (spent : Bool)
    (status : HeadStatus) : OnlyPending s.ports (s.endHoleGrant h g spent status).ports := by
  rw [State.endHoleGrant_eq]
  exact onlyPending_unpended _ _ _

/-- A hold at an arrival over an open clamp: the raising, then the end of the grant with its hole held
(R15, R73). -/
theorem State.judgeArrival_held {g : HoleGrant} (hc : s.clampActive g.bay = false)
    (hm : s.modeOf .clampLost = .holding) :
    ∃ ports : Vector Port 10, OnlyPending s.ports ports ∧ s.judgeArrival h hd g = ({ s with
      plan := s.plan.changeHole g.hole (fun x => (x.mark .clampLost).hold hd.kind.work .clampLost)
      heads := s.heads.set h (s.heads[h].map (fun hd =>
        { hd with status := .idle, lastHold := some ⟨g.hole, .clampLost, s.clock⟩ }))
      timers := s.timers.set h .stopped
      log :=
        { records := s.log.records ++ [⟨s.log.sequence, g.hole, .held h g.x none .clampLost, false, s.clock⟩]
          sequence := s.log.sequence + 1, inFlight := s.log.inFlight - 1 }
      heat := { s.heat with
        waiting := s.heat.waiting.filter (fun w => w ≠ h)
        scrapped := if g.rivet.isSome then min 4294967295 (s.heat.scrapped + 1) else s.heat.scrapped }
      dev := raisedDev s .clampLost (some g.hole) (some h) g.bay 1
      ports := ports }, ⟨.held, 0, .arrivalHeld g.hole .clampLost⟩) := by
  have hm' : (s.raiseForHole .clampLost g.hole h g.bay 1).modeOf .clampLost = .holding := by
    rw [raiseForHole_eq]; exact hm
  refine ⟨_, ((onlyPending_raiseForHole s .clampLost g.hole h g.bay 1).trans
    (onlyPending_endHoleGrant (State.changeHole _ g.hole (fun x => x.hold hd.kind.work .clampLost)) h g
      false .idle)).trans (onlyPending_recorded _), ?_⟩
  simp only [judgeArrival, hc, hm']
  rw [endWithHold_eq, raiseForHole_eq]
  simp only [changeHole, setPlan, endHoleGrant_eq,
    PlanStore.changeHole_changeHole _ _ _ (Hole.sameStand_mark _), HeatQueue.releaseHead_eq]
  simp

theorem State.judgeArrival_noted {g : HoleGrant} (hc : s.clampActive g.bay = false)
    (hm : s.modeOf .clampLost = .noting) :
    s.judgeArrival h hd g = (s.raiseForHole .clampLost g.hole h g.bay 1, ⟨.ok, 0, .none⟩) := by
  have hm' : (s.raiseForHole .clampLost g.hole h g.bay 1).modeOf .clampLost = .noting := by
    rw [raiseForHole_eq]; exact hm
  simp [judgeArrival, hc, hm', plainReply]

/-- The state an arrival under a HOLE grant is judged in: the head stands at X and is at work (R73). -/
def State.arrivedAt (s : State) (h : Slot) (hd : Head) (g : HoleGrant) : State :=
  (s.standAt h hd g.x (.work g)).startTimer h .work (workLimit s.params hd.kind)

theorem State.arrivedAt_eq (s : State) (h : Slot) (hd : Head) (g : HoleGrant) :
    s.arrivedAt h hd g = { s with
      heads := s.heads.set h (some { hd with position := g.x, status := .work g })
      rails := s.rails.setList hd.rail (placeEntry (footprint h hd.clearance g.x) (s.rails.list hd.rail))
      timers := s.timers.set h (.counting .work
        (match hd.kind with | .drill => s.params.workDrillMs | .set => s.params.workSetMs) 0) } := rfl

theorem ruleArrived_move {g : MoveGrant} (hh : s.heads[h] = some hd) (hg : hd.status = .travelMove g) :
    ruleArrived h s = ((s.standAt h hd g.x .idle).stopTimer h, ⟨.ok, 0, .none⟩) := by
  simp only [ruleArrived, hh, hg]
  rfl

theorem ruleArrived_hole {g : HoleGrant} (hh : s.heads[h] = some hd) (hg : hd.status = .travelHole g) :
    ruleArrived h s = (s.arrivedAt h hd g).judgeArrival h hd g := by
  simp only [ruleArrived, hh, hg]
  rfl

/-- Settles O31: the four forms of an arrival. -/
theorem arrivedStandsTheHeadAtItsTarget : Obligations.ArrivedStandsTheHeadAtItsTarget := by
  refine ⟨?_, ?_, ?_, ?_⟩
  · intro h s hd g hready hh hg
    exact head_answered (n := 0) hready (by decide) rfl
      (ruleArrived_move (s := s.dequeued (headPort h)) hh hg) rfl
  · intro h s hd g hready hh hg hc
    have hrule : ruleArrived h (s.dequeued (headPort h))
        = ((s.dequeued (headPort h)).arrivedAt h hd g, ⟨.ok, 0, .none⟩) := by
      rw [ruleArrived_hole (s := s.dequeued (headPort h)) hh hg]
      exact if_pos hc
    rw [State.arrivedAt_eq] at hrule
    exact head_answered (n := 0) hready (by decide) rfl hrule rfl
  · intro h s hd g hole ht hh hg hc hx hm
    obtain ⟨ports, hpending, hjudge⟩ := State.judgeArrival_held (h := h) (hd := hd)
      (s := (s.dequeued (headPort h)).arrivedAt h hd g) hc hm
    have hrule := (ruleArrived_hole (s := s.dequeued (headPort h)) hh hg).trans hjudge
    obtain ⟨w, hnext, hans, -⟩ := head_message_answered ht (n := 0) (by decide) rfl hrule hpending
    have hplan := PlanStore.hole?_changeHole_of (f := fun x =>
      (x.mark .clampLost).hold hd.kind.work .clampLost) hx
    rw [Hole.hold_mark] at hplan
    refine ⟨_, hnext, ?_, ?_, hplan, PlanStore.onlyHoleChanged _ _ _, PlanStore.changeHole_state ..,
      rfl, rfl, rfl, rfl, hans, rfl⟩
    · simp [State.arrivedAt_eq]
    · simp [State.arrivedAt_eq]
  · intro h s hd g hole ht hh hg hc hx hm
    have hrule := (ruleArrived_hole (s := s.dequeued (headPort h)) hh hg).trans
      (State.judgeArrival_noted (s := (s.dequeued (headPort h)).arrivedAt h hd g) hc hm)
    have hpending := onlyPending_raiseForHole ((s.dequeued (headPort h)).arrivedAt h hd g) .clampLost
      g.hole h g.bay 1
    rw [State.raiseForHole_eq, State.arrivedAt_eq] at hrule hpending
    obtain ⟨w, hnext, hans, -⟩ := head_message_answered ht (n := 0) (by decide) rfl hrule hpending
    have hplan := PlanStore.hole?_changeHole_of (f := fun x => x.mark .clampLost) hx
    rw [Hole.mark_eq] at hplan
    exact ⟨_, hnext, rfl, rfl, rfl, hplan, fun j hj => PlanStore.hole?_changeHole_other _ _ hj,
      PlanStore.changeHole_mark _ _ _, rfl, hans, rfl⟩

/-! ### ABANDON (R77) -/

/-- An abandoned HOLE grant: the hole returns, and the grant ends (R17, R78). -/
theorem State.abandonHole_eq (s : State) (h : Slot) (hd : Head) (g : HoleGrant) (status : HeadStatus) :
    s.abandonHole h hd g status = { s with
      plan := s.plan.changeHole g.hole (fun x => x.goto hd.kind.returned none)
      heads := s.heads.set h (s.heads[h].map (fun hd => { hd with status := status }))
      timers := s.timers.set h .stopped
      log := { s.log with inFlight := s.log.inFlight - 1 }
      heat := { s.heat with
        waiting := s.heat.waiting.filter (fun w => w ≠ h)
        scrapped := if g.rivet.isSome then min 4294967295 (s.heat.scrapped + 1) else s.heat.scrapped }
      ports := unpendedPorts s.ports (headPort h) .feedGiven } := by
  simp only [abandonHole, endHoleGrant_eq, HeatQueue.releaseHead_eq, Bool.not_false, Bool.and_true]
  rfl

theorem State.noteTrouble_halted (s : State) :
    s.noteTrouble .travel .halted = s.makePending supervisorPort .headState := rfl

theorem not_mem_unpendedPorts (v : Vector Port 10) (q : PortId) (k : NoticeKind) :
    k ∉ (unpendedPorts v q k)[q].notices := by simp [unpendedPorts]

theorem pendedPorts_other (v : Vector Port 10) {p q : PortId} (k : NoticeKind) (hq : q ≠ p) :
    (pendedPorts v p k)[q] = v[q] := by
  have : p.val ≠ q.val := fun e => hq (Fin.ext e.symm)
  simp [pendedPorts, this]

theorem headPort_ne_supervisorPort (h : Slot) : headPort h ≠ supervisorPort := by
  revert h; decide

/-- What ABANDON makes of a head's status: a head at work stands where it is, a travelling one is HALTED
(R77). -/
theorem ruleAbandon_hole {g : HoleGrant} (hh : s.heads[h] = some hd)
    (hg : hd.status = .travelHole g ∨ hd.status = .work g) :
    ∃ ports : Vector Port 10, OnlyPending s.ports ports ∧ .feedGiven ∉ ports[headPort h].notices
      ∧ (hd.status = .travelHole g → .headState ∈ ports[supervisorPort].notices)
      ∧ ruleAbandon h s = ({ s.abandonHole h hd g (if hd.status = .work g then .idle else .halted) with
          ports := ports }, ⟨.ok, 0, .none⟩) := by
  have hend := onlyPending_unpended s.ports (headPort h) .feedGiven
  have hfeed := not_mem_unpendedPorts s.ports (headPort h) .feedGiven
  rcases hg with hg | hg
  · refine ⟨_, hend.trans (onlyPending_pended _ supervisorPort .headState), ?_, fun _ => ?_, ?_⟩
    · rw [pendedPorts_other _ _ (headPort_ne_supervisorPort h)]
      exact hfeed
    · simp only [pendedPorts, Fin.getElem_fin, Vector.getElem_set_self]
      split
      · assumption
      · simp
    · simp only [ruleAbandon, hh, hg, State.noteTrouble_halted, State.makePending_eq, reduceCtorEq,
        if_false, State.abandonHole_eq]
      rfl
  · refine ⟨_, hend, hfeed, fun e => by simp [hg] at e, ?_⟩
    simp only [ruleAbandon, hh, hg, if_true, State.abandonHole_eq]
    rfl

theorem ruleAbandon_move {g : MoveGrant} (hh : s.heads[h] = some hd) (hg : hd.status = .travelMove g) :
    ruleAbandon h s = ((s.endMoveGrant h .halted).makePending supervisorPort .headState,
      ⟨.ok, 0, .none⟩) := by
  simp only [ruleAbandon, hh, hg, State.noteTrouble_halted]
  rfl

/-- Settles O33: the end of a HOLE grant and that of a MOVE grant, each as its rule leaves it. -/
theorem abandonReturnsTheHole : Obligations.AbandonReturnsTheHole := by
  constructor
  · intro h s hd g hole ht hh hg hx
    obtain ⟨ports, hpending, hfeed, htrouble, hrule⟩ :=
      ruleAbandon_hole (s := s.dequeued (headPort h)) hh hg
    rw [State.abandonHole_eq] at hrule
    obtain ⟨w, hnext, hans, hnotices, hann⟩ :=
      head_message_answered ht (n := 0) (by decide) rfl hrule hpending
    have hplan := PlanStore.hole?_changeHole_of (f := fun x => x.goto hd.kind.returned none) hx
    exact ⟨_, hnext, hplan, PlanStore.onlyHoleChanged _ _ _, PlanStore.changeHole_state ..,
      heads_set_map hh _, rfl, rfl, rfl, fun hm => hfeed (hnotices ▸ hm),
      fun e => hann _ _ (.inl (htrouble e)), hans, rfl⟩
  · intro h s hd g ht hh hg
    have hrule := ruleAbandon_move (s := s.dequeued (headPort h)) hh hg
    have hnoted := State.makePending_announced ((s.dequeued (headPort h)).endMoveGrant h .halted)
      supervisorPort .headState
    rw [State.makePending_eq, State.endMoveGrant_eq] at hrule hnoted
    obtain ⟨w, hnext, hans, -, hann⟩ := head_message_answered ht (n := 0) (by decide) rfl hrule
      (onlyPending_pended _ _ _)
    exact ⟨_, hnext, heads_set_map hh _, rfl, hann _ _ hnoted, hans, rfl⟩

end Sys2Proof.Machine
end

section
/-! SUPPORT. HOLE_RELEASE and HOLE_EXCUSE: a held hole goes back, goes on or is excused, and the frame may be
complete (R18, R19, R21). -/

namespace Sys2Proof.Machine

variable {s : State} {b : List Byte} {hole : Hole}

/-! ### The Plan Store beside the hole -/

theorem PlanStore.changeHole_releases (q : PlanStore) (i : Nat) (f : Hole → Hole) :
    (q.changeHole i f).counters.redoCount = q.counters.redoCount
      ∧ (q.changeHole i f).counters.acceptCount = q.counters.acceptCount := by
  unfold changeHole
  split
  · exact ⟨rfl, rfl⟩
  · simp only
    split <;> exact ⟨rfl, rfl⟩

/-- The frame state and the counters may change beside the hole. -/
theorem OnlyHoleChanged.restate {q r : PlanStore} {i : Nat} (h : OnlyHoleChanged q r i)
    (state : FrameState) (counters : FrameCounters) :
    OnlyHoleChanged q { r with state := state, counters := counters } i := by
  obtain ⟨hother, heq⟩ := h
  refine ⟨hother, ?_⟩
  rw [heq]

/-- The completion test of a WORKING frame, made only after some transitions (R21). -/
theorem PlanStore.testComplete_if {q : PlanStore} (hw : q.state = .working) (tested : Bool) :
    (if tested then q.testComplete else q) = { q with
      state := if tested = true ∧ q.counters.stateCounts[4] + q.counters.stateCounts[6] = q.holeCount
        then .complete else .working } := by
  have hstay : q = { q with state := .working } := by rw [← hw]
  cases tested with
  | false => simpa using hstay
  | true =>
    by_cases hall : q.counters.stateCounts[4] + q.counters.stateCounts[6] = q.holeCount
    · simp [testComplete, hw, HoleState.code, hall]
    · simpa [testComplete, hw, HoleState.code, hall] using hstay

/-! ### The rules -/

theorem ruleHoleReleaseRedo_held (hw : s.plan.state = .working) (hi : u16At b 0 < s.plan.holeCount)
    (ha : u8At b 2 = 0) (hx : s.plan.hole? (u16At b 0) = some hole) (hheld : hole.state = .held) :
    ruleHoleReleaseRedo b s = ({ s with
      plan := (s.plan.changeHole (u16At b 0) Hole.redo).countRelease false }, ⟨.ok, 0, .none⟩) := by
  simp only [ruleHoleReleaseRedo, hw, hi, ha, hx, hheld]
  rfl

theorem State.acceptHole_eq (hw : s.plan.state = .working) (i : Nat) (x : Hole) (event : LogEvent) :
    let q := (s.plan.changeHole i (fun y => y.goto x.acceptState none)).countRelease true
    s.acceptHole i x event = { s with
      plan := { q with
        state := if x.acceptState.final = true ∧ q.counters.stateCounts[4] + q.counters.stateCounts[6]
          = s.plan.holeCount then .complete else .working }
      log := { s.log with
        records := s.log.records ++ [⟨s.log.sequence, i, event, true, s.clock⟩]
        sequence := s.log.sequence + 1 }
      ports := s.recordedPorts } := by
  intro q
  have hq : q.state = .working := by
    rw [← hw]
    exact PlanStore.changeHole_state ..
  have hcount : q.holeCount = s.plan.holeCount := PlanStore.holeCount_changeHole ..
  have hplan := PlanStore.testComplete_if hq x.acceptState.final
  rw [hcount] at hplan
  rw [← hplan]
  simp only [acceptHole, writeLog_record]
  cases x.acceptState.final <;> rfl

theorem State.excuseHole_eq (hw : s.plan.state = .working) (i : Nat) :
    let q := s.plan.changeHole i (fun y => y.goto .excused none)
    s.excuseHole i = { s with
      plan := { q with
        state := if q.counters.stateCounts[4] + q.counters.stateCounts[6] = s.plan.holeCount
          then .complete else .working }
      log := { s.log with
        records := s.log.records ++ [⟨s.log.sequence, i, .excused, false, s.clock⟩]
        sequence := s.log.sequence + 1 }
      ports := s.recordedPorts } := by
  intro q
  have hq : q.state = .working := by
    rw [← hw]
    exact PlanStore.changeHole_state ..
  have hcount : q.holeCount = s.plan.holeCount := PlanStore.holeCount_changeHole ..
  have hplan := PlanStore.testComplete_if hq true
  simp only [hcount, true_and, if_true] at hplan
  rw [← hplan]
  simp only [excuseHole, writeLog_record]
  rfl

theorem ruleHoleReleaseAccept_held {event : LogEvent} (hw : s.plan.state = .working)
    (hi : u16At b 0 < s.plan.holeCount) (hx : s.plan.hole? (u16At b 0) = some hole)
    (hheld : hole.state = .held) (hevent : hole.acceptEvent = some event)
    (hroom : s.headroomForOne = true) :
    ruleHoleReleaseAccept b s = (s.acceptHole (u16At b 0) hole event, ⟨.ok, 0, .none⟩) := by
  simp [ruleHoleReleaseAccept, hw, Nat.not_le.2 hi, hx, hheld, hevent, hroom, plainReply]

theorem ruleHoleExcuse_open (hw : s.plan.state = .working) (hi : u16At b 0 < s.plan.holeCount)
    (hx : s.plan.hole? (u16At b 0) = some hole) (hopen : hole.state.excusable = true)
    (hroom : s.headroomForOne = true) :
    ruleHoleExcuse b s = (s.excuseHole (u16At b 0), ⟨.ok, 0, .none⟩) := by
  simp [ruleHoleExcuse, hw, Nat.not_le.2 hi, hx, hopen, hroom, plainReply]

/-- Settles O59: the two releases and the excuse, each by what its rule makes of the hole. -/
theorem heldHolesAreReleasedOrExcused : Obligations.HeldHolesAreReleasedOrExcused := by
  intro b s hole hw hi hx
  refine ⟨?_, ?_, ?_⟩
  · intro from_ hready hl ha hheld hfrom
    have hexec : execHoleReleaseRedo b s
        = takeMessage supervisorPort kindHoleRelease b (ruleHoleReleaseRedo b) s := by
      simp [execHoleReleaseRedo, releasesAccept, hl, ha]
    have hnext := supervisor_answered (n := 3) hready (by decide) hl
      (ruleHoleReleaseRedo_held (s := s.dequeued supervisorPort) hw hi ha hx hheld) rfl
    obtain ⟨hredo, -⟩ := s.plan.changeHole_releases (u16At b 0) Hole.redo
    have hplan := PlanStore.hole?_changeHole_of (f := Hole.redo) hx
    refine ⟨_, hexec.trans hnext, hplan.trans ?_,
      (PlanStore.onlyHoleChanged _ _ Hole.redo).restate _ _, ?_, ?_, rfl, rfl⟩
    · cases from_ <;> simp [Hole.redo, hfrom, Hole.goto]
    · exact (PlanStore.changeHole_state ..).trans hw
    · exact congrArg (fun n => min 65535 (n + 1)) hredo
  · intro done event ht hl ha hheld hroom hreport
    have hexec : execHoleReleaseAccept b s
        = takeMessage supervisorPort kindHoleRelease b (ruleHoleReleaseAccept b) s := by
      simp [execHoleReleaseAccept, releasesAccept, hl, ha]
    obtain ⟨hevent, hdone, hfinal⟩ : hole.acceptEvent = some event ∧ hole.acceptState = done
        ∧ (done.final = true ↔ done = .set) := by
      rcases hreport with ⟨hfrom, rfl, r, hr, rfl⟩ | ⟨hfrom, rfl, r, hr, rfl⟩ <;>
        simp [Hole.acceptEvent, Hole.acceptState, HoleState.final, hfrom, hr]
    have hrule := ruleHoleReleaseAccept_held (s := s.dequeued supervisorPort) hw hi hx hheld hevent
      (headroomForOne_of hroom)
    rw [State.acceptHole_eq (s := s.dequeued supervisorPort) hw, hdone] at hrule
    simp only [hfinal] at hrule
    obtain ⟨w, hnext, hans⟩ := supervisor_message_answered ht (n := 3) (by decide) hl hrule
      (onlyPending_recorded _)
    obtain ⟨-, haccept⟩ := s.plan.changeHole_releases (u16At b 0) (fun x => x.goto done none)
    have hplan := PlanStore.hole?_changeHole_of (f := fun x => x.goto done none) hx
    exact ⟨_, hexec.trans hnext, hplan,
      (PlanStore.onlyHoleChanged s.plan (u16At b 0) (fun x => x.goto done none)).restate _ _, rfl,
      congrArg (fun n => min 65535 (n + 1)) haccept, rfl, hans, rfl⟩
  · intro ht hl hopen hroom
    have hopen' : hole.state.excusable = true := by rcases hopen with e | e | e <;> rw [e] <;> rfl
    have hrule := ruleHoleExcuse_open (s := s.dequeued supervisorPort) hw hi hx hopen'
      (headroomForOne_of hroom)
    rw [State.excuseHole_eq (s := s.dequeued supervisorPort) hw] at hrule
    obtain ⟨w, hnext, hans⟩ := supervisor_message_answered ht (n := 2) (by decide) hl hrule
      (onlyPending_recorded _)
    have hplan := PlanStore.hole?_changeHole_of (f := fun x => x.goto .excused none) hx
    exact ⟨_, hnext, hplan,
      (PlanStore.onlyHoleChanged s.plan (u16At b 0) (fun x => x.goto .excused none)).restate _ _, rfl,
      rfl, hans, rfl⟩

end Sys2Proof.Machine
end

section
/-! SUPPORT. DRILL_DONE: the report, the classes it raises for its hole, and the end of the grant by it
(R13, R74, R75, R78). -/

namespace Sys2Proof.Machine

variable {s t u : State} {h : Slot} {hd : Head} {g : HoleGrant} {i : Nat}

/-! ### The flags of a report (R74) -/

theorem reportFlag_iff (v n tol : Int) : (reportFlag v n tol = .below ↔ v < n - tol)
    ∧ (reportFlag v n tol = .above ↔ n - tol ≤ v ∧ n + tol < v)
    ∧ (reportFlag v n tol = .within ↔ n - tol ≤ v ∧ v ≤ n + tol) := by
  unfold reportFlag
  by_cases hlow : v < n - tol
  · simp [hlow]
    omega
  · by_cases hhigh : n + tol < v
    · simp [hlow, hhigh]
      omega
    · simp [hlow, hhigh]
      omega

/-! ### The classes one report raises for its hole (R126 to R128, R131) -/

/-- The marks of a hole after the classes given joined them, each once (R127). -/
def joinMarks (marks : List DevClass) (l : List DevClass) : List DevClass :=
  l.foldl (fun m c => if c ∈ m then m else m ++ [c]) marks

/-- Classes are raised for one hole in the order given, each with its two details. -/
def State.raiseAll (s : State) (i : Nat) (h : Slot) (l : List (DevClass × Nat × Nat)) : State :=
  l.foldl (fun acc c => acc.raiseForHole c.1 i h c.2.1 c.2.2) s

/-- What the raisings of a list of classes leave of the Deviation Unit and the ports: the modes stand, the
flags are set, the first-deviation record is filled from the first of them if it was absent, and ports
differ in pending notices (R126 to R128). -/
structure State.RaisedAll (s : State) (i : Nat) (h : Slot) (l : List (DevClass × Nat × Nat))
    (dev : DeviationUnit) (ports : Vector Port 10) : Prop where
  modes : dev.modes = s.dev.modes
  flags : ∀ c : DevClass, dev.flags[c.index] = (s.dev.flags[c.index] || decide (c ∈ l.map Prod.fst))
  first : dev.first = s.dev.first.or (l.head?.map fun c =>
    ⟨c.1, s.plan.header.map PlanHeader.frameId, some i, some h, s.clock, c.2.1, c.2.2⟩)
  pending : OnlyPending s.ports ports

theorem DevClass.index_inj {c d : DevClass} (e : c.index = d.index) : c = d := by
  revert e; cases c <;> cases d <;> decide

theorem raisedDev_flags (s : State) (c : DevClass) (hole : Option Nat) (head : Option Slot) (a b : Int)
    (d : DevClass) : (raisedDev s c hole head a b).flags[d.index]
      = (s.dev.flags[d.index] || decide (d = c)) := by
  by_cases e : d = c
  · subst e
    simp [raisedDev]
  · have : c.index.val ≠ d.index.val := fun e' => e (DevClass.index_inj (Fin.ext e'.symm))
    simp [raisedDev, e, this]

theorem State.RaisedAll.nil (s : State) (i : Nat) (h : Slot) : s.RaisedAll i h [] s.dev s.ports :=
  ⟨rfl, by simp, by simp, OnlyPending.refl _⟩

theorem State.RaisedAll.cons {c : DevClass × Nat × Nat} {l : List (DevClass × Nat × Nat)}
    {dev : DeviationUnit} {ports : Vector Port 10}
    (hr : (s.raiseForHole c.1 i h c.2.1 c.2.2).RaisedAll i h l dev ports) :
    s.RaisedAll i h (c :: l) dev ports := by
  obtain ⟨hmodes, hflags, hfirst, hpending⟩ := hr
  have hall := (onlyPending_raiseForHole s c.1 i h c.2.1 c.2.2).trans hpending
  rw [raiseForHole_eq] at hmodes hflags hfirst
  refine ⟨hmodes, fun d => ?_, ?_, hall⟩
  · have hmem : decide (d ∈ (c :: l).map Prod.fst)
        = (decide (d = c.1) || decide (d ∈ l.map Prod.fst)) := by
      rw [← Bool.decide_or]
      exact decide_eq_decide.2 List.mem_cons
    rw [hflags, raisedDev_flags, hmem, Bool.or_assoc]
  · rw [hfirst]
    simp only [raisedDev, List.head?_cons, Option.map_some, Option.or_assoc, Option.some_or]

/-- The raisings mark the hole with their classes, beside what was written to it before, and change the
Deviation Unit and pending notices as `State.RaisedAll` says. -/
theorem State.raiseAll_eq {q : PlanStore} {f : Hole → Hole} (hf : ∀ x : Hole, x.SameStand (f x))
    (h : Slot) (l : List (DevClass × Nat × Nat)) (hp : s.plan = q.changeHole i f) :
    ∃ (dev : DeviationUnit) (ports : Vector Port 10), s.RaisedAll i h l dev ports
      ∧ s.raiseAll i h l = { s with
        plan := q.changeHole i (fun x => { f x with marks := joinMarks (f x).marks (l.map Prod.fst) })
        dev := dev
        ports := ports } := by
  induction l generalizing s f with
  | nil => exact ⟨s.dev, s.ports, .nil s i h, congrArg (fun p => { s with plan := p }) hp⟩
  | cons c l ih =>
    have hmark : ∀ x : Hole, x.SameStand ((f x).mark c.1) := fun x =>
      (hf x).trans (Hole.sameStand_mark c.1 (f x))
    have hplan : (s.raiseForHole c.1 i h c.2.1 c.2.2).plan = q.changeHole i (fun x => (f x).mark c.1) := by
      rw [raiseForHole_plan, hp, PlanStore.changeHole_changeHole _ _ _ hf]
    obtain ⟨dev, ports, hraised, heq⟩ := ih hmark hplan
    refine ⟨dev, ports, hraised.cons, heq.trans ?_⟩
    simp only [raiseForHole_eq, Hole.mark_eq]
    rfl

/-! ### A grant that ends by a report (R78) -/

/-- The hole after a done report that does not end its work: HELD under a class, or gone on (R13). -/
def Hole.judged (x : Hole) (kind : HeadKind) (held : Option DevClass) (done : HoleState) : Hole :=
  match held with
  | some c => x.hold kind.work c
  | none => x.goto done none

theorem Hole.judged_drill (x : Hole) (held : Option DevClass) (done : HoleState) :
    x.judged .drill held done = { x with
      state := if held.isSome then .held else done
      grantHead := none, heldFrom := held.map (fun _ => .drilling), heldClass := held } := by
  cases held <;> rfl

theorem State.endWithReport_eq {done : HoleState} (hdone : done.final = false) (held : Option DevClass)
    (event : LogEvent) : ∃ ports : Vector Port 10, OnlyPending s.ports ports ∧
      s.endWithReport h hd g false held done event = { s with
        plan := s.plan.changeHole g.hole (fun x => x.judged hd.kind held done)
        heads := s.heads.set h (s.heads[h].map (fun hd => { hd with
          status := .idle
          lastHold := match held with
            | some c => some ⟨g.hole, c, s.clock⟩
            | none => hd.lastHold }))
        timers := s.timers.set h .stopped
        log :=
          { records := s.log.records ++ [⟨s.log.sequence, g.hole,
              (match held with
                | some c => .held h g.x none c
                | none => event), false, s.clock⟩]
            sequence := s.log.sequence + 1, inFlight := s.log.inFlight - 1 }
        heat := { s.heat with
          waiting := s.heat.waiting.filter (fun w => w ≠ h)
          scrapped := if g.rivet.isSome then min 4294967295 (s.heat.scrapped + 1) else s.heat.scrapped }
        ports := ports } := by
  have hpending := (onlyPending_endHoleGrant
    (s.changeHole g.hole (fun x => x.judged hd.kind held done)) h g false .idle).trans
    (onlyPending_recorded _)
  refine ⟨_, hpending, ?_⟩
  cases held with
  | none =>
    simp only [endWithReport, hdone, writeLog_record, endHoleGrant_eq, HeatQueue.releaseHead_eq,
      Bool.not_false, Bool.and_true]
    rfl
  | some c =>
    simp only [endWithReport, writeLog_record, setLastHold_eq, endHoleGrant_eq, heads_set_set,
      HeatQueue.releaseHead_eq, Bool.not_false, Bool.and_true]
    rfl

/-! ### DRILL_DONE (R13, R75) -/

/-- The classes a drill report raises, in class-number order, each with the value and its nominal (R75). -/
def drillRaised (fd fs : ReportFlag) (hole : Hole) (diameter stack : Nat) :
    List (DevClass × Nat × Nat) :=
  (if fd = .within then [] else [(DevClass.diaOut, diameter, nominalDiameter hole.cls)])
    ++ (if fs = .within then [] else [(DevClass.stackOut, stack, hole.stackNom)])

theorem drillRaised_classes (fd fs : ReportFlag) (hole : Hole) (diameter stack : Nat) :
    (drillRaised fd fs hole diameter stack).map Prod.fst =
      (if fd ≠ .within then [DevClass.diaOut] else []) ++ (if fs ≠ .within then [DevClass.stackOut] else [])
      := by
  by_cases hfd : fd = .within <;> by_cases hfs : fs = .within <;> simp [drillRaised, hfd, hfs]

theorem State.raiseAll_drillRaised (s : State) (i : Nat) (h : Slot) (fd fs : ReportFlag) (hole : Hole)
    (diameter stack : Nat) :
    let s1 := if fd ≠ .within then s.raiseForHole .diaOut i h diameter (nominalDiameter hole.cls) else s
    s.raiseAll i h (drillRaised fd fs hole diameter stack) =
      if fs ≠ .within then s1.raiseForHole .stackOut i h stack hole.stackNom else s1 := by
  by_cases hfd : fd = .within <;> by_cases hfs : fs = .within <;> simp [raiseAll, drillRaised, hfd, hfs]

theorem State.holdingClass_eq (hm : t.dev.modes = s.dev.modes) (l : List DevClass) :
    t.holdingClass l = l.find? (fun c => s.modeOf c == .holding) := by
  simp only [holdingClass, modeOf, hm]

/-- A drill report is written, its classes are raised, and the lowest HOLDING one of them judges the hole,
by which the grant ends (R75, R131). -/
theorem State.drillReport_eq (s : State) (hole : Hole) (diameter stack : Nat) :
    let fd := reportFlag diameter (nominalDiameter hole.cls) s.params.diaTol
    let fs := reportFlag stack hole.stackNom s.params.stackTol
    let raised := drillRaised fd fs hole diameter stack
    let held := (raised.map Prod.fst).find? (fun c => s.modeOf c == .holding)
    let report : DrillReport := ⟨h, diameter, stack, g.x, fd, fs, s.clock⟩
    ∃ (dev : DeviationUnit) (ports : Vector Port 10), s.RaisedAll g.hole h raised dev ports
      ∧ s.drillReport h hd g hole diameter stack =
        (State.endWithReport { s with
            plan := s.plan.changeHole g.hole (fun x => { x.withDrillReport report with
              marks := joinMarks x.marks (raised.map Prod.fst) })
            dev := dev
            ports := ports } h hd g false held .drilled (.drilled h g.x diameter stack),
          ⟨doneCode held, 0, .drillJudged fd fs g.hole held⟩) := by
  intro fd fs raised held report
  obtain ⟨dev, ports, hraised, heq⟩ := raiseAll_eq
    (s := s.changeHole g.hole (Hole.withDrillReport report)) (Hole.sameStand_withDrillReport report) h
    raised rfl
  have hraised' : s.RaisedAll g.hole h raised dev ports := by
    obtain ⟨hmodes, hflags, hfirst, hpending⟩ := hraised
    rw [changeHole_plan, PlanStore.changeHole_header] at hfirst
    exact ⟨hmodes, hflags, hfirst, hpending⟩
  refine ⟨dev, ports, hraised', ?_⟩
  have hheld : held = ((s.changeHole g.hole (Hole.withDrillReport report)).raiseAll g.hole h
      raised).holdingClass (raised.map Prod.fst) := by
    rw [heq]
    exact (holdingClass_eq hraised'.modes _).symm
  refine Eq.trans ?_ (congrArg (fun v : State => (v.endWithReport h hd g false held .drilled
    (.drilled h g.x diameter stack), (⟨doneCode held, 0, .drillJudged fd fs g.hole held⟩ : Reply))) heq)
  rw [hheld, raiseAll_drillRaised, drillRaised_classes]
  rfl

/-- What DRILL_DONE with its fields in range leaves: the hole reported, marked and judged, and the grant
ended (R13, R75, R78). -/
theorem State.drillReport_ended (s : State) (hole : Hole) (diameter stack : Nat) :
    let fd := reportFlag diameter (nominalDiameter hole.cls) s.params.diaTol
    let fs := reportFlag stack hole.stackNom s.params.stackTol
    let raised := drillRaised fd fs hole diameter stack
    let held := (raised.map Prod.fst).find? (fun c => s.modeOf c == .holding)
    let report : DrillReport := ⟨h, diameter, stack, g.x, fd, fs, s.clock⟩
    ∃ (dev : DeviationUnit) (ports : Vector Port 10), s.RaisedAll g.hole h raised dev ports
      ∧ s.drillReport h hd g hole diameter stack = ({ s with
        plan := s.plan.changeHole g.hole (fun x => Hole.judged { x.withDrillReport report with
          marks := joinMarks x.marks (raised.map Prod.fst) } hd.kind held .drilled)
        heads := s.heads.set h (s.heads[h].map (fun hd => { hd with
          status := .idle
          lastHold := match held with
            | some c => some ⟨g.hole, c, s.clock⟩
            | none => hd.lastHold }))
        timers := s.timers.set h .stopped
        log :=
          { records := s.log.records ++ [⟨s.log.sequence, g.hole,
              (match held with
                | some c => .held h g.x none c
                | none => .drilled h g.x diameter stack), false, s.clock⟩]
            sequence := s.log.sequence + 1, inFlight := s.log.inFlight - 1 }
        heat := { s.heat with
          waiting := s.heat.waiting.filter (fun w => w ≠ h)
          scrapped := if g.rivet.isSome then min 4294967295 (s.heat.scrapped + 1) else s.heat.scrapped }
        dev := dev
        ports := ports }, ⟨doneCode held, 0, .drillJudged fd fs g.hole held⟩) := by
  intro fd fs raised held report
  obtain ⟨dev, raisedPorts, ⟨hmodes, hflags, hfirst, hpending⟩, hreport⟩ :=
    drillReport_eq (h := h) (hd := hd) (g := g) s hole diameter stack
  have hstand : ∀ x : Hole, x.SameStand { x.withDrillReport report with
      marks := joinMarks x.marks (raised.map Prod.fst) } := fun _ => ⟨rfl, rfl, rfl⟩
  obtain ⟨ports, hrecorded, hend⟩ := endWithReport_eq (h := h) (hd := hd) (g := g)
    (s := { s with
      plan := s.plan.changeHole g.hole (fun x => { x.withDrillReport report with
        marks := joinMarks x.marks (raised.map Prod.fst) })
      dev := dev
      ports := raisedPorts }) (done := .drilled) rfl held (.drilled h g.x diameter stack)
  refine ⟨dev, ports, ⟨hmodes, hflags, hfirst, hpending.trans hrecorded⟩, hreport.trans ?_⟩
  rw [PlanStore.changeHole_changeHole _ _ _ hstand] at hend
  exact congrArg (fun v : State => (v, (⟨doneCode held, 0, .drillJudged fd fs g.hole held⟩ : Reply))) hend

theorem ruleDrillDone_inRange {b : List Byte} {hole : Hole} (hh : s.heads[h] = some hd)
    (hg : hd.status = .work g) (hk : hd.kind = .drill) (hx : s.plan.hole? g.hole = some hole)
    (h1 : 500 ≤ u16At b 0) (h2 : u16At b 0 ≤ 5000) (h3 : u16At b 2 ≤ 15000) :
    ruleDrillDone h b s = s.drillReport h hd g hole (u16At b 0) (u16At b 2) := by
  simp [ruleDrillDone, hh, hg, hk, hx, inRange, h1, h2, h3]

/-- Settles O34: the flags by their bounds, and a DRILL_DONE by its report, its raisings and the end of its
grant. -/
theorem drillDoneRecordsTheReport : Obligations.DrillDoneRecordsTheReport := by
  refine ⟨reportFlag_iff, by decide, ?_⟩
  intro h b s hd g hole ht hl hh hg hk hphase hx h1 h2 h3 nominal fd fs raised held
  obtain ⟨dev, ports, ⟨hmodes, hflags, hfirst, hpending⟩, hreport⟩ := State.drillReport_ended
    (h := h) (hd := hd) (g := g) (s.dequeued (headPort h)) hole (u16At b 0) (u16At b 2)
  have hrule := (ruleDrillDone_inRange (s := s.dequeued (headPort h)) hh hg hk hx h1 h2 h3).trans hreport
  obtain ⟨w, hnext, hans, -⟩ := head_message_answered ht (n := 4) (by decide) hl hrule hpending
  refine ⟨_, hnext, (PlanStore.hole?_changeHole_of hx).trans ?_, PlanStore.onlyHoleChanged _ _ _,
    PlanStore.changeHole_state .., heads_set_map hh _, rfl, rfl, ?_, hmodes, hflags,
    hfirst.trans ?_, hans, rfl⟩
  · rw [hk, Hole.judged_drill]
    rfl
  · simp [HoleGrant.rivet, hphase]
  · change s.dev.first.or (raised.head?.map _) = _
    clear_value raised
    cases s.dev.first <;> cases raised <;> rfl

end Sys2Proof.Machine
end

section
/-! SUPPORT. PLAN_SEAL: the first of the six checks that fails, and the segments of a sealed frame (R6, R7,
R28, R33). -/

namespace Sys2Proof.Machine

variable {s : State}

/-! ### The lowest index that fails a check -/

/-- A check's finding: nothing, when no index fails it, or the lowest index that does. -/
def FirstFailing (fails : Nat → Prop) : Option Nat → Prop
  | none => ∀ i : Nat, ¬fails i
  | some i => fails i ∧ ∀ j : Nat, j < i → ¬fails j

theorem firstFailing_find {n : Nat} {q : Nat → Bool} {fails : Nat → Prop}
    (h : ∀ i : Nat, fails i ↔ i < n ∧ q i = true) : FirstFailing fails ((List.range n).find? q) := by
  cases e : (List.range n).find? q with
  | none =>
    intro i hi
    obtain ⟨hlt, hq⟩ := (h i).1 hi
    simpa [hq] using List.find?_range_eq_none.1 e i hlt
  | some i =>
    obtain ⟨hq, hlt, hbefore⟩ := List.find?_range_eq_some.1 e
    refine ⟨(h i).2 ⟨List.mem_range.1 hlt, hq⟩, fun j hj hfails => ?_⟩
    simpa [((h j).1 hfails).2] using hbefore j hj

theorem firstFailing_missing {α : Type} (l : List (Option α)) :
    FirstFailing (fun i => l[i]? = some none) (firstMissing l) := by
  refine firstFailing_find fun i => ?_
  by_cases hi : i < l.length
  · simp [hi]
  · simp [hi]

/-- A row whose bounds do not ascend, or that does not meet the row after it (R6). -/
def Breaks (l : List (Int × Int)) (k : Nat) : Prop := ∃ a : Int × Int, l[k]? = some a
  ∧ (a.2 ≤ a.1 ∨ ∃ b : Int × Int, l[k + 1]? = some b ∧ a.2 ≠ b.1)

theorem firstFailing_disorder (l : List (Int × Int)) : FirstFailing (Breaks l) (firstDisorder l) := by
  refine firstFailing_find fun k => ?_
  by_cases hk : k < l.length
  · cases hnext : l[k + 1]? <;> simp [Breaks, hk, hnext]
  · simp [Breaks, hk]

theorem PlanStore.firstFailing_outside (p : PlanStore) :
    FirstFailing (fun i => ∃ x : Hole, p.hole? i = some x ∧ ¬p.spansNominal x.xNom = true)
      p.firstOutside := by
  refine firstFailing_find fun i => ?_
  cases hx : p.hole? i with
  | none => simp
  | some x => simp [lt_of_hole? hx]

/-- A joint that has holes, none of them of tier 0 (R6). -/
def PlanStore.Untacked (p : PlanStore) (j : Nat) : Prop :=
  ∃ r : Joint, p.joints[j]? = some r ∧ r.members ≠ []
    ∧ ∀ i ∈ r.members, ∀ x : Hole, p.hole? i = some x → x.tier ≠ 0

theorem PlanStore.firstFailing_untacked (p : PlanStore) : FirstFailing p.Untacked p.firstUntacked := by
  refine firstFailing_find fun j => ?_
  have hopen : ∀ i : Nat, (match p.hole? i with | some x => x.tier == 0 | none => false) = false
      ↔ ∀ x : Hole, p.hole? i = some x → x.tier ≠ 0 := by
    intro i
    cases p.hole? i <;> simp
  cases hr : p.joints[j]? with
  | none => simp [Untacked, hr]
  | some r =>
    obtain ⟨hj, -⟩ := List.getElem?_eq_some_iff.1 hr
    simp only [Untacked, hr, Option.some.injEq, exists_eq_left', hj, true_and, Bool.and_eq_true,
      Bool.not_eq_true', List.any_eq_false, Bool.not_eq_true, List.isEmpty_eq_false_iff]
    exact and_congr_right fun _ => forall₂_congr fun i _ => (hopen i).symm

/-! ### The six checks in their order (R6) -/

/-- The first finding of a list of checks that is there: its subcode, table and index. -/
def firstFailure : List (Nat × Nat × Option Nat) → Option (Nat × Nat × Nat)
  | [] => none
  | (subcode, table, found) :: rest =>
    match found with
    | some i => some (subcode, table, i)
    | none => firstFailure rest

/-- A finding answers a check: the same subcode and table, and the lowest index that fails it. -/
def Answers (found : Nat × Nat × Option Nat) (check : Nat × Nat × (Nat → Prop)) : Prop :=
  found.1 = check.1 ∧ found.2.1 = check.2.1 ∧ FirstFailing check.2.2 found.2.2

/-- The first finding is that of the first check that fails. -/
theorem firstFailure_iff {found : List (Nat × Nat × Option Nat)} {checks : List (Nat × Nat × (Nat → Prop))}
    (hall : List.Forall₂ Answers found checks) :
    (firstFailure found = none ↔ ∀ c ∈ checks, ∀ i : Nat, ¬c.2.2 i)
    ∧ ∀ subcode table i : Nat, firstFailure found = some (subcode, table, i) ↔
      ∃ (n : Nat) (fails : Nat → Prop), checks[n]? = some (subcode, table, fails)
        ∧ (∀ c ∈ checks.take n, ∀ j : Nat, ¬c.2.2 j) ∧ fails i ∧ ∀ j : Nat, j < i → ¬fails j := by
  induction hall with
  | nil => simp [firstFailure]
  | @cons f c found checks hanswers _ ih =>
    obtain ⟨fsub, ftable, fi⟩ := f
    obtain ⟨csub, ctable, fails⟩ := c
    obtain ⟨rfl, rfl, hfirst⟩ : fsub = csub ∧ ftable = ctable ∧ FirstFailing fails fi := hanswers
    obtain ⟨ihnone, ihsome⟩ := ih
    cases fi with
    | none =>
      have hpasses : ∀ i : Nat, ¬fails i := hfirst
      refine ⟨?_, fun subcode table i => ?_⟩
      · simp only [firstFailure, ihnone, List.forall_mem_cons, hpasses, not_false_eq_true, implies_true,
          true_and]
      · rw [firstFailure, ihsome]
        constructor
        · rintro ⟨n, g, hn, hbefore, hg⟩
          exact ⟨n + 1, g, hn, by
            simpa only [List.take_succ_cons, List.forall_mem_cons] using ⟨hpasses, hbefore⟩, hg⟩
        · rintro ⟨n, g, hn, hbefore, hg⟩
          cases n with
          | zero =>
            obtain ⟨rfl, rfl, rfl⟩ : fsub = subcode ∧ ftable = table ∧ fails = g := by simpa using hn
            exact absurd hg.1 (hpasses i)
          | succ n =>
            rw [List.take_succ_cons, List.forall_mem_cons] at hbefore
            exact ⟨n, g, hn, hbefore.2, hg⟩
    | some k =>
      obtain ⟨hk, hlow⟩ : fails k ∧ ∀ j : Nat, j < k → ¬fails j := hfirst
      refine ⟨?_, fun subcode table i => ?_⟩
      · simp only [firstFailure, reduceCtorEq, List.forall_mem_cons, false_iff, not_and]
        exact fun hno => absurd hk (hno k)
      · simp only [firstFailure, Option.some.injEq, Prod.mk.injEq]
        constructor
        · rintro ⟨rfl, rfl, rfl⟩
          exact ⟨0, fails, rfl, by simp, hk, hlow⟩
        · rintro ⟨n, g, hn, hbefore, hi, hbelow⟩
          cases n with
          | zero =>
            obtain ⟨rfl, rfl, rfl⟩ : fsub = subcode ∧ ftable = table ∧ fails = g := by simpa using hn
            refine ⟨rfl, rfl, ?_⟩
            rcases Nat.lt_trichotomy k i with hlt | heq | hgt
            · exact absurd hk (hbelow k hlt)
            · exact heq
            · exact absurd hi (hlow i hgt)
          | succ n =>
            rw [List.take_succ_cons, List.forall_mem_cons] at hbefore
            exact absurd hk (hbefore.1 k)

theorem PlanStore.sealFailure_eq (p : PlanStore) : p.sealFailure = firstFailure
    [(1, 1, firstMissing p.segments), (1, 2, firstMissing p.bays), (1, 3, firstMissing p.holes),
      (2, 1, firstDisorder p.segmentBounds), (3, 2, firstDisorder p.bayBounds), (4, 3, p.firstOutside),
      (5, 4, if p.spansNominal ((p.header.map PlanHeader.xd).getD 0) then none else some 0),
      (6, 5, p.firstUntacked)] := by
  cases h : p.spansNominal ((p.header.map PlanHeader.xd).getD 0) <;> simp only [sealFailure, h] <;> rfl

theorem PlanStore.segmentBounds_eq (p : PlanStore) :
    p.segmentBounds = p.segments.filterMap (fun o => o.map (fun r => (r.lower, r.upper))) :=
  List.map_filterMap

theorem PlanStore.bayBounds_eq (p : PlanStore) :
    p.bayBounds = p.bays.filterMap (fun o => o.map (fun r => (r.lower, r.upper))) := List.map_filterMap

theorem PlanStore.spansNominal_iff {p : PlanStore} {x : Int} : p.spansNominal x = true ↔
    ∃ a b : Int × Int, p.segmentBounds.head? = some a ∧ p.segmentBounds.getLast? = some b
      ∧ a.1 ≤ x ∧ x ≤ b.2 := by
  unfold spansNominal
  cases p.segmentBounds.head? <;> cases p.segmentBounds.getLast? <;> simp

theorem firstFailing_datum {inside : Bool} {q : Prop} (h : inside = true ↔ q) :
    FirstFailing (fun i => i = 0 ∧ ¬q) (if inside then none else some 0) := by
  cases inside <;> simp_all [FirstFailing]

/-- The findings of the eight searches answer the checks R6 lists. -/
theorem PlanStore.sealChecks (p : PlanStore) (hd : PlanHeader) (hp : p.header = some hd) :
    let checks : List (Nat × Nat × (Nat → Prop)) :=
      [(1, 1, fun i => p.segments[i]? = some none), (1, 2, fun i => p.bays[i]? = some none),
        (1, 3, fun i => p.holes[i]? = some none), (2, 1, Breaks p.segmentBounds),
        (3, 2, Breaks p.bayBounds),
        (4, 3, fun i => ∃ x : Hole, p.hole? i = some x ∧ ¬p.spansNominal x.xNom = true),
        (5, 4, fun i => i = 0 ∧ ¬p.spansNominal hd.xd = true), (6, 5, p.Untacked)]
    (p.sealFailure = none ↔ ∀ c ∈ checks, ∀ i : Nat, ¬c.2.2 i)
    ∧ ∀ subcode table i : Nat, p.sealFailure = some (subcode, table, i) ↔
      ∃ (n : Nat) (fails : Nat → Prop), checks[n]? = some (subcode, table, fails)
        ∧ (∀ c ∈ checks.take n, ∀ j : Nat, ¬c.2.2 j) ∧ fails i ∧ ∀ j : Nat, j < i → ¬fails j := by
  rw [sealFailure_eq, hp]
  exact firstFailure_iff (.cons ⟨rfl, rfl, firstFailing_missing _⟩
    (.cons ⟨rfl, rfl, firstFailing_missing _⟩ (.cons ⟨rfl, rfl, firstFailing_missing _⟩
    (.cons ⟨rfl, rfl, firstFailing_disorder _⟩ (.cons ⟨rfl, rfl, firstFailing_disorder _⟩
    (.cons ⟨rfl, rfl, p.firstFailing_outside⟩ (.cons ⟨rfl, rfl, firstFailing_datum Iff.rfl⟩
    (.cons ⟨rfl, rfl, p.firstFailing_untacked⟩ .nil))))))))

/-! ### The segments of a sealed frame (R7, R28, R33) -/

theorem nearestSupply_isSome {l : List Segment} {x : Segment} (hx : x ∈ l)
    (hs : x.status.supply.isSome = true) : (nearestSupply l).isSome = true :=
  List.findSome?_isSome_iff.2 ⟨x, hx, hs⟩

/-- A SUBSTITUTED segment beside one that supplies has a value to take (R32). -/
theorem valueUsed_substituted {l : List Segment} {k : Nat} {g x : Segment} (hk : l[k]? = some g)
    (hg : g.status = .substituted) (hx : x ∈ l) (hs : x.status.supply.isSome = true) :
    ∃ v : Int, valueUsed l k = some v := by
  obtain ⟨hlt, hget⟩ := List.getElem?_eq_some_iff.1 hk
  have hsplit : l = l.take k ++ g :: l.drop (k + 1) := by
    rw [← hget, List.getElem_cons_drop, List.take_append_drop]
  have hne : x ≠ g := by
    rintro rfl
    simp [hg, SegStatus.supply] at hs
  have hbeside : x ∈ (l.take k).reverse ∨ x ∈ l.drop (k + 1) := by
    rw [hsplit] at hx
    simpa [hne] using hx
  simp only [valueUsed, hk, hg, substituteValue]
  rcases hbeside with hmem | hmem
  · obtain ⟨a, ha⟩ := Option.isSome_iff_exists.1 (nearestSupply_isSome hmem hs)
    rw [ha]
    cases nearestSupply (l.drop (k + 1)) <;> exact ⟨_, rfl⟩
  · obtain ⟨a, ha⟩ := Option.isSome_iff_exists.1 (nearestSupply_isSome hmem hs)
    rw [ha]
    cases nearestSupply (l.take k).reverse <;> exact ⟨_, rfl⟩

/-- After the test of R27 a SUBSTITUTED segment stands beside one that supplies, so it has a value. -/
theorem valueUsed_settled {l : List Segment} {k : Nat}
    (hk : (settleSegments l)[k]?.map Segment.status = some .substituted) :
    ∃ v : Int, valueUsed (settleSegments l) k = some v := by
  obtain ⟨g, hg, hstatus⟩ := Option.map_eq_some_iff.1 hk
  obtain ⟨g₀, -, hfrom⟩ := Option.map_eq_some_iff.1 ((List.getElem?_map ..).symm.trans hg)
  have hsupply : l.any (fun g => g.status.supply.isSome) = true := by
    cases hs : g₀.status.supply with
    | some v =>
      simp only [hs] at hfrom
      rw [hfrom, hstatus] at hs
      simp [SegStatus.supply] at hs
    | none =>
      simp only [hs] at hfrom
      rw [← hfrom] at hstatus
      by_contra hno
      simp [hno] at hstatus
  obtain ⟨x, hx, hs⟩ := List.any_eq_true.1 hsupply
  have hx' : x ∈ settleSegments l := by
    obtain ⟨v, hv⟩ := Option.isSome_iff_exists.1 hs
    exact List.mem_map.2 ⟨x, hx, by simp [hv]⟩
  exact valueUsed_substituted hg hstatus hx' hs

/-- A raising changes nothing when its flag is set and the first-deviation record is there. -/
theorem State.raiseUnbound_again {c : DevClass} (hf : s.dev.flags[c.index] = true)
    (hfirst : s.dev.first.isSome = true) (a b : Int) : s.raiseUnbound c a b = s := by
  obtain ⟨f, hf'⟩ := Option.isSome_iff_exists.1 hfirst
  have hflags : s.dev.flags.set c.index true = s.dev.flags := by
    rw [← hf]
    exact Vector.set_getElem_self ..
  have hdev : raisedDev s c none none a b = s.dev := by
    simp only [raisedDev, hflags, hf', Option.some_or]
    rw [← hf']
  rw [raiseUnbound_eq, hdev, flaggedPorts, if_pos hf]

/-- Of the raisings of PROBE_SUBST in one taking the first sets the flag and fills the record, and the
others change nothing (R126, R128). -/
theorem State.raiseSubst_cons (s : State) (k : Nat) (ks : List Nat) :
    s.raiseSubst (k :: ks) = s.raiseUnbound .probeSubst k ((valueUsed s.thermal k).getD 0) := by
  have hstays : ∀ t : State, t.dev.flags[DevClass.probeSubst.index] = true → t.dev.first.isSome = true →
      t.raiseSubst ks = t := by
    intro t hflag hfirst
    induction ks with
    | nil => rfl
    | cons j js ih =>
      rw [raiseSubst, List.foldl_cons, raiseUnbound_again hflag hfirst]
      exact ih
  refine hstays (s.raiseUnbound .probeSubst k ((valueUsed s.thermal k).getD 0)) ?_ ?_
  · rw [raiseUnbound_eq]
    simp [raisedDev]
  · rw [raiseUnbound_eq]
    cases s.dev.first <;> simp [raisedDev]

theorem State.firstRecord_eq (s : State) (row : SegmentRow) :
    s.firstRecord row = ⟨row.lower, row.upper, row.probe,
      match s.terminals[row.probe].probeValue with
      | some v => if s.terminals[row.probe].mode = .probeIn ∧ s.terminals[row.probe].probeOk = true
          then .live v else .unknown
      | none => .unknown⟩ := by
  simp only [firstRecord, Bool.and_eq_true, beq_iff_eq]
  cases s.terminals[row.probe].probeValue <;> simp

/-- The Deviation Unit after the raisings of PROBE_SUBST for the segments given, ascending (R33). -/
def State.substDev (s : State) (ks : List Nat) : DeviationUnit :=
  match ks.head? with
  | none => s.dev
  | some k => raisedDev s .probeSubst none none k ((valueUsed s.thermal k).getD 0)

theorem State.raiseSubst_eq (s : State) (ks : List Nat) : ∃ ports : Vector Port 10,
    OnlyPending s.ports ports ∧ s.raiseSubst ks = { s with dev := s.substDev ks, ports := ports } := by
  cases ks with
  | nil => exact ⟨s.ports, OnlyPending.refl _, rfl⟩
  | cons k ks =>
    refine ⟨_, onlyPending_flagged s .probeSubst, ?_⟩
    rw [raiseSubst_cons, raiseUnbound_eq]
    rfl

theorem State.substRaised_settled {t : State} (l : List Segment) (ht : t.thermal = settleSegments l)
    (hdev : t.dev = State.substDev { s with thermal := t.thermal } (enteredSubstituted [] t.thermal)) :
    SubstRaised s t [] := by
  unfold SubstRaised
  unfold substDev at hdev
  cases hhead : (enteredSubstituted [] t.thermal).head? with
  | none =>
    rw [hhead] at hdev
    exact hdev
  | some k =>
    rw [hhead] at hdev
    have hstatus : t.thermal[k]?.map Segment.status = some .substituted := by
      obtain ⟨-, hentered⟩ := List.mem_filter.1 (List.mem_of_head? hhead)
      simpa using (Bool.and_eq_true_iff.1 hentered).1
    obtain ⟨v, hv⟩ := valueUsed_settled (ht ▸ hstatus)
    rw [← ht] at hv
    simp only [hv, Option.getD_some] at hdev
    exact ⟨v, hv, hdev⟩

/-- A seal that passes: the frame is READY, and the Thermal Unit has its segments (R7, R28). -/
theorem rulePlanSeal_passed (hstate : s.plan.state = .loading) (hseal : s.plan.sealFailure = none) :
    let after := settleSegments ((s.plan.segments.filterMap id).map s.firstRecord)
    ∃ ports : Vector Port 10, OnlyPending s.ports ports ∧ rulePlanSeal s = ({ s with
      plan := { s.plan with state := .ready }
      thermal := after
      dev := State.substDev { s with thermal := after } (enteredSubstituted [] after)
      ports := ports }, ⟨.ok, 0, .none⟩) := by
  intro after
  obtain ⟨ports, hpending, hraised⟩ := State.raiseSubst_eq
    ((s.setPlan { s.plan with state := .ready }).setThermal after) (enteredSubstituted [] after)
  refine ⟨ports, hpending, ?_⟩
  simp only [rulePlanSeal, hstate, hseal]
  exact congrArg (fun v : State => (v, (⟨.ok, 0, .none⟩ : Reply))) hraised

theorem rulePlanSeal_failed {subcode table i : Nat} (hstate : s.plan.state = .loading)
    (hseal : s.plan.sealFailure = some (subcode, table, i)) :
    rulePlanSeal s = (s, ⟨.sealFail, subcode, .sealFailed table i⟩) := by
  simp [rulePlanSeal, hstate, hseal]

/-- Settles O57: the checks by their searches, and a PLAN_SEAL by what they found. -/
theorem sealChecksThePlan : Obligations.SealChecksThePlan := by
  refine ⟨?_, ?_, ?_⟩
  · intro p hd hp segments bays breaks inside checks
    have h := p.sealChecks hd hp
    simp only [PlanStore.spansNominal_iff, PlanStore.segmentBounds_eq, PlanStore.bayBounds_eq] at h
    exact h
  · intro s ht hstate hseal
    obtain ⟨ports, hpending, hrule⟩ :=
      rulePlanSeal_passed (s := s.dequeued supervisorPort) hstate hseal
    obtain ⟨w, hnext, hans⟩ := supervisor_message_answered ht (n := 0) (by decide) rfl hrule hpending
    refine ⟨_, hnext, rfl, ?_, State.substRaised_settled _ rfl rfl, hans, rfl⟩
    exact congrArg (fun f => settleSegments ((s.plan.segments.filterMap id).map f))
      (funext s.firstRecord_eq)
  · intro s subcode table i hready hstate hseal
    exact supervisor_refused (n := 0) hready (by decide) rfl
      (rulePlanSeal_failed (s := s.dequeued supervisorPort) hstate hseal)

end Sys2Proof.Machine
end

section
/-! SUPPORT. What is not due does not come about: a message is taken by its own row alone, and an event whose
condition does not hold leaves the state as it is (R171, log entries 5, 6 and 16). -/

namespace Sys2Proof.Machine

variable {p p' : PortId} {kind kind' : Byte} {b b' : List Byte}

/-- A row that takes only the payloads that are its own takes them by its rule (log entry 7). -/
theorem ownRow_taking {own : Bool} (rule : State → Taken)
    (h : (if own then some (p, kind, b) else none) = some (p', kind', b')) :
    ∃ rule' : State → Taken, ∀ s : State,
      (if own then takeMessage p kind b rule s else .next s) = takeMessage p' kind' b' rule' s := by
  obtain ⟨hown, he⟩ := Option.ite_none_right_eq_some.1 h
  cases he
  exact ⟨rule, fun _ => if_pos hown⟩

theorem otherRow_taking {own : Bool} (rule : State → Taken)
    (h : (if own then none else some (p, kind, b)) = some (p', kind', b')) :
    ∃ rule' : State → Taken, ∀ s : State,
      (if own then .next s else takeMessage p kind b rule s) = takeMessage p' kind' b' rule' s := by
  obtain ⟨hown, he⟩ := Option.ite_none_left_eq_some.1 h
  cases he
  exact ⟨rule, fun _ => if_neg hown⟩

/-- A command that stands for a message is the taking of that message by some rule. -/
theorem exec_message {c : Instr} (h : messageOf c = some (p, kind, b)) :
    ∃ rule : State → Taken, ∀ s : State, exec c s = takeMessage p kind b rule s := by
  cases c
  case holeReleaseRedo payload => exact otherRow_taking (ruleHoleReleaseRedo payload) h
  case holeReleaseAccept payload => exact ownRow_taking (ruleHoleReleaseAccept payload) h
  case setParam payload => exact otherRow_taking (ruleSetParam payload) h
  case setParamProbeHold payload => exact ownRow_taking (ruleSetProbeHold payload) h
  case setParamStaleAction payload => exact ownRow_taking (ruleSetStaleAction payload) h
  case setParamHeatMin payload => exact ownRow_taking (ruleSetHeatMin payload) h
  case setParamHeatMax payload => exact ownRow_taking (ruleSetHeatMax payload) h
  case setParamBudget payload => exact ownRow_taking (ruleSetBudget payload) h
  case setParamLogThreshold payload => exact ownRow_taking (ruleSetLogThreshold payload) h
  case setParamDebounceMs payload => exact ownRow_taking (ruleSetDebounceMs payload) h
  case unknownKindMessage q k payload => exact otherRow_taking (refuse k .unknownKind) h
  all_goals cases h
  all_goals exact ⟨_, fun _ => rfl⟩

/-- Outside a reset an event of a line or a pin is taken as any event is. -/
theorem levelOrEvent_not_due {s u : State} {due : Bool} {effect : State → State}
    (hr : s.inReset = false) (hd : due = false) :
    (if s.inReset then .next u else takeEvent due effect s) = Host.Outcome.next s := by
  rw [if_neg (by simp [hr]), takeEvent_not_due hd]

/-- Settles O7: a message by its row's taking, an event by its condition. -/
theorem commandNotDueChangesNothing : Obligations.CommandNotDueChangesNothing := by
  refine ⟨?_, fun h s hd => (takeEvent_not_due hd : execMotionTimerExpiry h s = .next s),
    fun k s hd => (takeEvent_not_due hd : execHoldExpiry k s = .next s),
    fun v s hd => (takeEvent_not_due hd : execRivetExpiry v s = .next s), ?_,
    fun n s hd => (takeEvent_not_due hd : execAcceptance n s = .next s),
    fun n code s hd => (takeEvent_not_due hd : execProbeSample n code s = .next s), ?_,
    fun p s hd => (takeEvent_not_due hd : execGapExpiry p s = .next s), ?_, ?_,
    fun p s hd => (takeEvent_not_due hd : execFrameSent p s = .next s),
    fun p s hd => (takeEvent_not_due hd : execFrameTransmitStart p s = .next s), ?_⟩
  · intro c p kind payload s hc ht
    obtain ⟨rule, hexec⟩ := exec_message hc
    exact (hexec s).trans (takeMessage_not_taken ht)
  · intro n high s hr hpin
    exact levelOrEvent_not_due hr (by simpa using hpin)
  · intro p mark data stop s hr hbreak
    exact levelOrEvent_not_due hr (by simpa using hbreak)
  · intro p s hd
    refine (takeEvent_not_due ?_ : execInBreak p s = .next s)
    rcases hd with hlow | hin
    · simpa using fun h => absurd h (by simpa using hlow)
    · simpa using fun _ => hin
  · intro p s hr hbreak
    exact levelOrEvent_not_due hr hbreak
  · intro p s hr hbreak
    exact levelOrEvent_not_due hr (by simpa using hbreak)

end Sys2Proof.Machine
end

section
/-! SUPPORT. What the laws of the Thermal Unit read of a state, and the shared operations that leave it as it
is. -/

namespace Sys2Proof.Machine

/-! ### The view of the Thermal Unit (R25, R26) -/

/-- A frame that has not been sealed holds no segments (R25). -/
def FrameState.unsealed : FrameState → Bool
  | .empty => true
  | .loading => true
  | _ => false

/-- What a segment follows of its terminal: the mode, the status of the probe and its value (R26). -/
def Terminal.probe (r : Terminal) : TermMode × Bool × Option Int := (r.mode, r.probeOk, r.probeValue)

/-- What the laws of the Thermal Unit read of a state. -/
structure ThermalView where
  segments : List Segment
  probes : Vector (TermMode × Bool × Option Int) 40
  unsealed : Bool

def State.thermalView (s : State) : ThermalView :=
  ⟨s.thermal, s.terminals.map Terminal.probe, s.plan.state.unsealed⟩

variable {s t : State}

theorem State.thermalView_congr (hseg : t.thermal = s.thermal) (hterm : t.terminals = s.terminals)
    (hplan : t.plan.state.unsealed = s.plan.state.unsealed) : t.thermalView = s.thermalView := by
  rw [thermalView, thermalView, hseg, hterm, hplan]

theorem State.probe_of_view (h : t.thermalView = s.thermalView) (n : TermId) :
    t.terminals[n].mode = s.terminals[n].mode ∧ t.terminals[n].probeOk = s.terminals[n].probeOk
      ∧ t.terminals[n].probeValue = s.terminals[n].probeValue := by
  have hrow := congrArg (fun v : ThermalView => v.probes[n]) h
  simpa [thermalView, Terminal.probe] using hrow

theorem FrameState.unsealed_iff {f : FrameState} : f.unsealed = true ↔ f = .empty ∨ f = .loading := by
  cases f <;> simp [unsealed]

/-- The laws of the Thermal Unit hold of every state with the same view. -/
theorem State.thermalKept_of_view (h : t.thermalView = s.thermalView) (hs : s.thermalKept) :
    t.thermalKept := by
  obtain ⟨hsub, hunk, hlive, hsound, hseal⟩ := hs
  have hseg : t.thermal = s.thermal := congrArg ThermalView.segments h
  have hplan : t.plan.state.unsealed = s.plan.state.unsealed := congrArg ThermalView.unsealed h
  refine ⟨hseg ▸ hsub, hseg ▸ hunk, fun g hg => ?_, fun n => ?_, fun hst => ?_⟩
  · obtain ⟨-, hok, hvalue⟩ := probe_of_view h g.probe
    have hg := hlive g (hseg ▸ hg)
    unfold liveFits at hg ⊢
    rwa [hok, hvalue]
  · obtain ⟨hmode, hok, hvalue⟩ := probe_of_view h n
    have hn := hsound n
    unfold Terminal.probeSound at hn ⊢
    rwa [hmode, hok, hvalue]
  · rw [hseg]
    exact hseal (FrameState.unsealed_iff.1 (hplan ▸ FrameState.unsealed_iff.2 hst))

/-! ### The view after an operation -/

section
variable (s : State)

@[simp] theorem State.setHead_view (h : Slot) (v : Option Head) :
    (s.setHead h v).thermalView = s.thermalView := rfl
@[simp] theorem State.setPort_view (p : PortId) (q : Port) :
    (s.setPort p q).thermalView = s.thermalView := rfl
@[simp] theorem State.setPin_view (n : TermId) (high : Bool) :
    (s.setPin n high).thermalView = s.thermalView := rfl
@[simp] theorem State.setParams_view (q : Params) : (s.setParams q).thermalView = s.thermalView := rfl
@[simp] theorem State.setRails_view (m : RailMap) : (s.setRails m).thermalView = s.thermalView := rfl
@[simp] theorem State.setHeat_view (q : HeatQueue) : (s.setHeat q).thermalView = s.thermalView := rfl
@[simp] theorem State.setDev_view (d : DeviationUnit) : (s.setDev d).thermalView = s.thermalView := rfl
@[simp] theorem State.setLog_view (l : CompletionLog) : (s.setLog l).thermalView = s.thermalView := rfl
@[simp] theorem State.judgeFreeze_view : s.judgeFreeze.thermalView = s.thermalView := rfl
@[simp] theorem State.placeOn_view (r : Rail) (e : Entry) :
    (s.placeOn r e).thermalView = s.thermalView := rfl
@[simp] theorem State.removeEntry_view (r : Rail) (h : Slot) :
    (s.removeEntry r h).thermalView = s.thermalView := rfl
@[simp] theorem State.startTimer_view (h : Slot) (st : TimerStage) (n : Nat) :
    (s.startTimer h st n).thermalView = s.thermalView := rfl
@[simp] theorem State.stopTimer_view (h : Slot) : (s.stopTimer h).thermalView = s.thermalView := rfl
@[simp] theorem State.clearPending_view (p : PortId) (k : NoticeKind) :
    (s.clearPending p k).thermalView = s.thermalView := rfl
@[simp] theorem State.makePending_view (p : PortId) (k : NoticeKind) :
    (s.makePending p k).thermalView = s.thermalView := by rw [makePending_eq]; rfl
@[simp] theorem State.noteTrouble_view (a b : HeadState) :
    (s.noteTrouble a b).thermalView = s.thermalView := by rw [noteTrouble_eq]; rfl
@[simp] theorem State.writeLog_view (i : Nat) (e : LogEvent) (a : Bool) :
    (s.writeLog i e a).thermalView = s.thermalView := by rw [writeLog_record]; rfl
@[simp] theorem State.raiseUnbound_view (c : DevClass) (a b : Int) :
    (s.raiseUnbound c a b).thermalView = s.thermalView := by rw [raiseUnbound_eq]; rfl
@[simp] theorem State.setStatus_view (h : Slot) (st : HeadStatus) :
    (s.setStatus h st).thermalView = s.thermalView := by rw [setStatus_eq]; rfl
@[simp] theorem State.setLastHold_view (h : Slot) (i : Nat) (c : DevClass) :
    (s.setLastHold h i c).thermalView = s.thermalView := by rw [setLastHold_eq]; rfl
@[simp] theorem State.endMoveGrant_view (h : Slot) (st : HeadStatus) :
    (s.endMoveGrant h st).thermalView = s.thermalView := by rw [endMoveGrant_eq]; rfl
@[simp] theorem State.endHoleGrant_view (h : Slot) (g : HoleGrant) (spent : Bool) (st : HeadStatus) :
    (s.endHoleGrant h g spent st).thermalView = s.thermalView := by rw [endHoleGrant_eq]; rfl
@[simp] theorem State.sendNotices_view : s.sendNotices.thermalView = s.thermalView :=
  thermalView_congr (by rw [sendNotices_eq]) (by rw [sendNotices_eq]) (by rw [sendNotices_plan])
@[simp] theorem State.appendReply_view (p : PortId) (kind : Byte) (r : Reply) :
    (s.appendReply p kind r).thermalView = s.thermalView := rfl

/-- A plan whose frame is sealed, or not, as before. -/
theorem State.setPlan_view {q : PlanStore} (h : q.state.unsealed = s.plan.state.unsealed) :
    (s.setPlan q).thermalView = s.thermalView := s.thermalView_congr rfl rfl h

@[simp] theorem State.changeHole_view (i : Nat) (f : Hole → Hole) :
    (s.changeHole i f).thermalView = s.thermalView :=
  s.setPlan_view (q := s.plan.changeHole i f) (by rw [PlanStore.changeHole_state])
@[simp] theorem State.testComplete_view : s.testComplete.thermalView = s.thermalView := by
  refine s.setPlan_view (q := s.plan.testComplete) ?_
  rcases s.plan.testComplete_state with e | ⟨e, e'⟩
  · rw [e]
  · rw [e, e']
    rfl
@[simp] theorem State.raiseForHole_view (c : DevClass) (i : Nat) (h : Slot) (a b : Int) :
    (s.raiseForHole c i h a b).thermalView = s.thermalView := by
  rw [raiseForHole_eq]
  exact thermalView_congr rfl rfl (by rw [PlanStore.changeHole_state])
@[simp] theorem State.endWithHold_view (h : Slot) (hd : Head) (g : HoleGrant) (c : DevClass)
    (st : HeadStatus) : (s.endWithHold h hd g c st).thermalView = s.thermalView := by simp [endWithHold]

/-- A terminal is written with the probe it had. -/
theorem State.setTerminal_view {n : TermId} {r : Terminal} (h : r.probe = s.terminals[n].probe) :
    (s.setTerminal n r).thermalView = s.thermalView := by
  have hrow : (s.terminals.set n r).map Terminal.probe = s.terminals.map Terminal.probe := by
    have hsame : s.terminals[n].probe = (s.terminals.map Terminal.probe)[n] := by simp
    rw [Vector.map_set, h, hsame]
    exact Vector.set_getElem_self ..
  simp only [thermalView, setTerminal_terminals, hrow]
  rfl

/-- A fold of operations that each leave the view leaves it. -/
theorem State.foldl_view {α : Type} {f : State → α → State}
    (hf : ∀ u a, (f u a).thermalView = u.thermalView) (l : List α) :
    (l.foldl f s).thermalView = s.thermalView := by
  induction l generalizing s with
  | nil => rfl
  | cons a l ih => exact (ih (f s a)).trans (hf s a)

@[simp] theorem State.setPhase_view (h : Slot) (phase : SetPhase) :
    (s.setPhase h phase).thermalView = s.thermalView := by
  unfold setPhase
  split
  · split <;> rfl
  · rfl

/-! ### Clamp drops and edges (R80, R117, R151, R152) -/

@[simp] theorem State.judgeDrop_view (bay : Nat) (h : Slot) :
    (s.judgeDrop bay h).thermalView = s.thermalView := by
  unfold judgeDrop
  split
  · rfl
  · split
    · split
      · simp only
        split <;> simp
      · rfl
    · rfl

@[simp] theorem State.clampDrop_view (bay : Nat) : (s.clampDrop bay).thermalView = s.thermalView :=
  s.foldl_view (fun u h => u.judgeDrop_view bay h) _

@[simp] theorem State.ramCapture_view (h : Slot) : (s.ramCapture h).thermalView = s.thermalView := by
  unfold ramCapture
  split
  · split
    · split <;> simp
    · rfl
  · rfl

@[simp] theorem State.latchEdge_view (n : TermId) : (s.latchEdge n).thermalView = s.thermalView := by
  have hlatch : (s.setTerminal n { s.terminals[n] with pending := true }).thermalView = s.thermalView :=
    s.setTerminal_view rfl
  unfold latchEdge
  simp only
  split
  · split <;> simp only [makePending_view, hlatch]
  · rfl

@[simp] theorem State.handOnEdge_view (r : Terminal) (active : Bool) :
    (s.handOnEdge r active).thermalView = s.thermalView := by
  unfold handOnEdge
  split
  · split <;> simp
  · split <;> simp
  · rfl

@[simp] theorem State.acceptEdge_view (n : TermId) (active : Bool) :
    (s.acceptEdge n active).thermalView = s.thermalView := by
  have hlevel : (s.setTerminal n { s.terminals[n] with level := active, candidate := none }).thermalView
      = s.thermalView := s.setTerminal_view rfl
  unfold acceptEdge
  simp only
  split <;> simp only [latchEdge_view, handOnEdge_view, hlevel]

@[simp] theorem State.acceptCandidate_view (n : TermId) :
    (s.acceptCandidate n).thermalView = s.thermalView := by
  unfold acceptCandidate
  split <;> simp

@[simp] theorem State.acceptDue_view : s.acceptDue.thermalView = s.thermalView := by
  refine s.foldl_view (fun u n => ?_) _
  split <;> simp

@[simp] theorem State.changePin_view (n : TermId) (high : Bool) :
    (s.changePin n high).thermalView = s.thermalView := by
  have hjudge : ∀ (u : State) (active : Bool), (u.judgeRaw n active).thermalView = u.thermalView := by
    intro u active
    have hcand : ∀ c, (u.setTerminal n { u.terminals[n] with candidate := c }).thermalView
        = u.thermalView := fun c => u.setTerminal_view rfl
    unfold judgeRaw
    simp only
    split
    · exact hcand none
    · split
      · rw [acceptEdge_view, hcand]
      · exact hcand _
  unfold changePin
  simp only
  split <;> simp [hjudge]

/-! ### Ports and the tray -/

@[simp] theorem State.expireClass_view (c : RivetClass) :
    (s.expireClass c).thermalView = s.thermalView :=
  s.foldl_view (f := fun acc v => acc.setHeat (acc.heat.expire v)) (fun _ _ => rfl) _

@[simp] theorem State.acknowledge_view (set : List TermId) :
    (s.acknowledge set).thermalView = s.thermalView :=
  s.foldl_view (f := fun acc n => acc.setTerminal n { acc.terminals[n] with pending := false })
    (fun u _ => u.setTerminal_view rfl) set

@[simp] theorem State.receiveCharacter_view (p : PortId) (mark : Bool) (data : Byte) (stopHigh : Bool) :
    (s.receiveCharacter p mark data stopHigh).thermalView = s.thermalView := by
  unfold receiveCharacter
  simp only
  split <;> simp

@[simp] theorem State.lineLevel_view (p : PortId) (low : Bool) :
    (s.lineLevel p low).thermalView = s.thermalView := rfl

@[simp] theorem State.linkBreak_view (h : Slot) : (s.linkBreak h).thermalView = s.thermalView := by
  unfold linkBreak
  split
  · rfl
  · simp only
    split <;> simp

@[simp] theorem State.takeBreak_view (p : PortId) : (s.takeBreak p).thermalView = s.thermalView := by
  unfold takeBreak
  simp only
  split <;> simp

@[simp] theorem State.expireTimer_view (h : Slot) : (s.expireTimer h).thermalView = s.thermalView := by
  unfold expireTimer
  split
  · rfl
  · simp only
    split <;> simp

@[simp] theorem State.tick_view : s.tick.thermalView = s.thermalView := by
  unfold tick
  split
  · rfl
  · simp only
    split <;> rfl

end

end Sys2Proof.Machine
end

section
/-! SUPPORT. The rules of the messages that the Thermal Unit has no part in leave the view of it. -/

namespace Sys2Proof.Machine

variable (s : State)

/-! ### Heads (R64 to R86) -/

theorem ruleAttach_view (h : Slot) (b : List Byte) : (ruleAttach h b s).1.thermalView = s.thermalView := by
  unfold ruleAttach
  split
  · rfl
  · split
    · split
      · unfold State.attachHead
        simp only
        split <;> rfl
      · rfl
    · rfl

@[simp] theorem State.detachHead_view (h : Slot) (r : Rail) :
    (s.detachHead h r).thermalView = s.thermalView := rfl

theorem ruleDetach_view (h : Slot) : (ruleDetach h s).1.thermalView = s.thermalView := by
  unfold ruleDetach
  split
  · rfl
  · split <;> rfl

theorem State.commitHole_view (h : Slot) (hd : Head) (c : Eligible) :
    (s.commitHole h hd c).1.thermalView = s.thermalView := by simp [commitHole]

theorem State.holdAtLimit_view (h : Slot) (hd : Head) (c : Eligible) :
    (s.holdAtLimit h hd c).1.thermalView = s.thermalView := by simp [holdAtLimit]

theorem State.grantHole_view (h : Slot) (hd : Head) (c : Eligible) :
    (s.grantHole h hd c).1.thermalView = s.thermalView := by
  unfold grantHole
  split
  · simp only
    split
    · rw [holdAtLimit_view, raiseForHole_view]
    · rw [commitHole_view, raiseForHole_view]
  · exact s.commitHole_view h hd c

theorem ruleNext_view (h : Slot) : (ruleNext h s).1.thermalView = s.thermalView := by
  unfold ruleNext
  split
  · rfl
  · split
    · rfl
    · unfold State.nextHole
      split
      · rfl
      · split
        · rfl
        · exact s.grantHole_view _ _ _

theorem ruleTake_view (h : Slot) (b : List Byte) : (ruleTake h b s).1.thermalView = s.thermalView := by
  unfold ruleTake
  split
  · rfl
  · split
    · rfl
    · unfold State.takeHole
      split
      · rfl
      · split
        · rfl
        · split
          · rfl
          · split
            · rfl
            · exact s.grantHole_view _ _ _

theorem ruleMove_view (h : Slot) (b : List Byte) : (ruleMove h b s).1.thermalView = s.thermalView := by
  unfold ruleMove
  split
  · rfl
  · split
    · rfl
    · unfold State.moveTo
      split
      · rfl
      · split <;> rfl

theorem State.judgeArrival_view (h : Slot) (hd : Head) (g : HoleGrant) :
    (s.judgeArrival h hd g).1.thermalView = s.thermalView := by
  unfold judgeArrival
  split
  · rfl
  · simp only
    split <;> simp

theorem ruleArrived_view (h : Slot) : (ruleArrived h s).1.thermalView = s.thermalView := by
  unfold ruleArrived
  split
  · rfl
  · split
    · rfl
    · exact State.judgeArrival_view _ _ _ _
    · rfl

theorem ruleProgress_view (h : Slot) : (ruleProgress h s).1.thermalView = s.thermalView := by
  unfold ruleProgress
  split
  · rfl
  · split <;> rfl

theorem ruleAbandon_view (h : Slot) : (ruleAbandon h s).1.thermalView = s.thermalView := by
  unfold ruleAbandon
  split
  · rfl
  · split <;> simp [State.abandonHole, refuse]

theorem State.endWithReport_view (h : Slot) (hd : Head) (g : HoleGrant) (spent : Bool)
    (held : Option DevClass) (done : HoleState) (event : LogEvent) :
    (s.endWithReport h hd g spent held done event).thermalView = s.thermalView := by
  unfold endWithReport
  split
  · simp
  · simp only
    split <;> simp

theorem State.raiseIf_view {p : Prop} [Decidable p] (c : DevClass) (i : Nat) (h : Slot) (a b : Int) :
    (if p then s.raiseForHole c i h a b else s).thermalView = s.thermalView := by
  split <;> simp

theorem ruleDrillDone_view (h : Slot) (b : List Byte) :
    (ruleDrillDone h b s).1.thermalView = s.thermalView := by
  unfold ruleDrillDone
  split
  · rfl
  · split
    · split
      · rfl
      · split
        · rfl
        · split
          · rfl
          · simp only [State.drillReport, State.endWithReport_view, State.raiseIf_view,
              State.changeHole_view]
    · rfl

theorem State.setReport_view (h : Slot) (hd : Head) (g : HoleGrant) (r : Rivet) (ram : Option Nat) :
    (s.setReport h hd g r ram).1.thermalView = s.thermalView := by
  unfold setReport
  cases ram with
  | none => simp only [endWithReport_view, raiseForHole_view, changeHole_view]
  | some a =>
    by_cases hcold : s.budgetMs r.cls < a
    · simp only [if_pos hcold, endWithReport_view, raiseForHole_view, changeHole_view]
    · simp only [if_neg hcold, endWithReport_view, changeHole_view]

theorem ruleSetDone_view (h : Slot) : (ruleSetDone h s).1.thermalView = s.thermalView := by
  unfold ruleSetDone
  split
  · rfl
  · split
    · split
      · rfl
      · split
        · exact s.setReport_view ..
        · exact s.setReport_view ..
        · rfl
    · rfl

@[simp] theorem State.putDown_view (h : Slot) (hd : Head) (x : Int) :
    (s.putDown h hd x).thermalView = s.thermalView := by simp [putDown, standAt]

theorem ruleHaltAt_view (h : Slot) (b : List Byte) : (ruleHaltAt h b s).1.thermalView = s.thermalView := by
  unfold ruleHaltAt
  split
  · rfl
  · split
    · split <;> simp [refuse]
    · rfl

theorem ruleHeadRecover_view (b : List Byte) : (ruleHeadRecover b s).1.thermalView = s.thermalView := by
  unfold ruleHeadRecover
  split
  · split
    · unfold State.recoverHead
      split
      · rfl
      · split
        · rfl
        · simp only
          split <;> simp [refuseOverlap]
    · rfl
  · rfl

theorem ruleHeadEvict_view (b : List Byte) : (ruleHeadEvict b s).1.thermalView = s.thermalView := by
  unfold ruleHeadEvict
  split
  · rfl
  · split
    · rfl
    · split <;> simp [refuse]

/-! ### The tray (R107 to R113) -/

theorem ruleFeed_view (h : Slot) : (ruleFeed h s).1.thermalView = s.thermalView := by
  unfold ruleFeed
  split
  · rfl
  · split
    · split
      · rfl
      · split
        · rfl
        · split
          · rfl
          · unfold State.feedHead
            split <;> simp
    · rfl

theorem ruleRivetOut_view (b : List Byte) : (ruleRivetOut b s).1.thermalView = s.thermalView := by
  unfold ruleRivetOut
  simp only
  split
  · rfl
  · split
    · rfl
    · split
      · rfl
      · split
        · simp [State.rejectTemp]
        · unfold State.placeRivet
          simp only
          split
          · simp [State.handOver]
          · split
            · rfl
            · split <;> rfl

/-! ### The Plan Store (Chapter 1) -/

theorem rulePlanBegin_view (b : List Byte) : (rulePlanBegin b s).1.thermalView = s.thermalView := by
  unfold rulePlanBegin
  split
  · rfl
  · rename_i hstate
    split
    · rfl
    · exact s.setPlan_view (by rw [not_not.1 hstate]; rfl)

theorem rulePlanSegment_view (b : List Byte) : (rulePlanSegment b s).1.thermalView = s.thermalView := by
  unfold rulePlanSegment
  simp only
  split
  · rfl
  · split
    · rfl
    · split
      · rfl
      · split <;> rfl

theorem rulePlanBay_view (b : List Byte) : (rulePlanBay b s).1.thermalView = s.thermalView := by
  unfold rulePlanBay
  simp only
  split
  · rfl
  · split
    · rfl
    · split <;> rfl

theorem rulePlanHole_view (b : List Byte) : (rulePlanHole b s).1.thermalView = s.thermalView := by
  unfold rulePlanHole
  split
  · rfl
  · split
    · rfl
    · split <;> rfl

theorem rulePlanRead_view (b : List Byte) : (rulePlanRead b s).1.thermalView = s.thermalView := by
  unfold rulePlanRead
  split
  · rfl
  · split <;> rfl

theorem ruleDatum_view (b : List Byte) : (ruleDatum b s).1.thermalView = s.thermalView := by
  unfold ruleDatum
  split_ifs with hstate
  · rfl
  · rfl
  · rfl
  · rfl
  · refine s.setPlan_view ?_
    by_cases hready : s.plan.state = .ready
    · rw [hready]
      rfl
    · rw [not_not.1 fun hw => hstate ⟨hready, hw⟩]
      rfl

theorem State.countRelease_view (accept : Bool) :
    (s.setPlan (s.plan.countRelease accept)).thermalView = s.thermalView := s.setPlan_view rfl

theorem ruleHoleReleaseRedo_view (b : List Byte) :
    (ruleHoleReleaseRedo b s).1.thermalView = s.thermalView := by
  unfold ruleHoleReleaseRedo
  split
  · rfl
  · split
    · rfl
    · split
      · rfl
      · split
        · rfl
        · simp only [State.redoHole, State.countRelease_view, State.changeHole_view]

theorem ruleHoleReleaseAccept_view (b : List Byte) :
    (ruleHoleReleaseAccept b s).1.thermalView = s.thermalView := by
  unfold ruleHoleReleaseAccept
  split
  · rfl
  · split
    · rfl
    · split
      · rfl
      · split
        · rfl
        · split
          · rfl
          · split
            · rfl
            · unfold State.acceptHole
              simp only
              split <;> simp only [State.testComplete_view, State.writeLog_view, State.countRelease_view,
                State.changeHole_view]

theorem ruleHoleExcuse_view (b : List Byte) : (ruleHoleExcuse b s).1.thermalView = s.thermalView := by
  unfold ruleHoleExcuse
  split
  · rfl
  · split
    · rfl
    · split
      · rfl
      · split
        · rfl
        · split <;> simp [State.excuseHole, refuse]

/-! ### Fences, deviations, the log and the queries -/

theorem ruleFenceSet_view (b : List Byte) : (ruleFenceSet b s).1.thermalView = s.thermalView := by
  unfold ruleFenceSet
  simp only
  split
  · split
    · split <;> rfl
    · rfl
  · rfl

theorem ruleFenceClear_view (b : List Byte) : (ruleFenceClear b s).1.thermalView = s.thermalView := by
  unfold ruleFenceClear
  split
  · rfl
  · split <;> rfl

theorem ruleDevMode_view (b : List Byte) : (ruleDevMode b s).1.thermalView = s.thermalView := by
  unfold ruleDevMode
  split
  · split <;> rfl
  · rfl

theorem ruleDevClear_view (b : List Byte) : (ruleDevClear b s).1.thermalView = s.thermalView := by
  unfold ruleDevClear
  split <;> rfl

theorem ruleLogRead_view (b : List Byte) : (ruleLogRead b s).1.thermalView = s.thermalView := by
  unfold ruleLogRead
  simp only
  split <;> rfl

theorem ruleGetParam_view (b : List Byte) : (ruleGetParam b s).1.thermalView = s.thermalView := by
  unfold ruleGetParam
  split <;> rfl

theorem ruleLineQuery_view (b : List Byte) : (ruleLineQuery b s).1.thermalView = s.thermalView := by
  unfold ruleLineQuery
  split <;> rfl

/-! ### Terminals (R154, R161) -/

theorem ruleTermWrite_view (b : List Byte) : (ruleTermWrite b s).1.thermalView = s.thermalView := by
  unfold ruleTermWrite
  split
  · exact s.setTerminal_view rfl
  · rfl

theorem ruleTermAck_view (b : List Byte) : (ruleTermAck b s).1.thermalView = s.thermalView := by
  unfold ruleTermAck
  split
  · rfl
  · exact s.acknowledge_view _

theorem ruleTermRead_view (b : List Byte) : (ruleTermRead b s).1.thermalView = s.thermalView := by
  unfold ruleTermRead
  split <;> rfl

/-! ### Writes of a parameter (R178) -/

theorem State.writeParam_view (b : List Byte) {effect : Nat → State}
    (he : ∀ v, (effect v).thermalView = s.thermalView) :
    (s.writeParam b effect).1.thermalView = s.thermalView := by
  unfold writeParam
  split
  · rfl
  · exact he _

theorem ruleSetParam_view (b : List Byte) : (ruleSetParam b s).1.thermalView = s.thermalView :=
  s.writeParam_view b (fun _ => State.setParams_view ..)

theorem ruleSetStaleAction_view (b : List Byte) :
    (ruleSetStaleAction b s).1.thermalView = s.thermalView :=
  s.writeParam_view b (fun _ => State.judgeFreeze_view _)

theorem ruleSetHeatMin_view (b : List Byte) : (ruleSetHeatMin b s).1.thermalView = s.thermalView :=
  s.writeParam_view b (fun _ => State.setParams_view ..)

theorem ruleSetHeatMax_view (b : List Byte) : (ruleSetHeatMax b s).1.thermalView = s.thermalView :=
  s.writeParam_view b (fun _ => State.setParams_view ..)

theorem ruleSetBudget_view (b : List Byte) : (ruleSetBudget b s).1.thermalView = s.thermalView :=
  s.writeParam_view b (fun _ => State.expireClass_view ..)

theorem ruleSetLogThreshold_view (b : List Byte) :
    (ruleSetLogThreshold b s).1.thermalView = s.thermalView := s.setParams_view _

theorem ruleSetDebounceMs_view (b : List Byte) :
    (ruleSetDebounceMs b s).1.thermalView = s.thermalView :=
  s.writeParam_view b (fun _ => State.acceptDue_view _)

end Sys2Proof.Machine
end

section
/-! SUPPORT. The picture of the segments: the test of R27, and what the probe events, the holds and the seal
make of it. -/

namespace Sys2Proof.Machine

variable {s t : State}

/-! ### The test of R27 -/

/-- Some segment of the list supplies a value (section 2.1). -/
abbrev anySupply (l : List Segment) : Bool := l.any (fun g => g.status.supply.isSome)

/-- A segment after the test of R27, in a picture in which some segment supplies, or none does. -/
def Segment.settled (some_ : Bool) (g : Segment) : Segment :=
  if g.status.supply.isSome then g
  else { g with status := if some_ then .substituted else .unknown }

theorem settleSegments_eq (l : List Segment) :
    settleSegments l = l.map (Segment.settled (anySupply l)) := by
  refine List.map_congr_left fun g _ => ?_
  unfold Segment.settled
  split <;> simp_all

theorem Segment.settled_of_supply {g : Segment} (b : Bool) (h : g.status.supply.isSome = true) :
    g.settled b = g := if_pos h

theorem Segment.settled_of_none {g : Segment} (b : Bool) (h : g.status.supply = none) :
    g.settled b = { g with status := if b then .substituted else .unknown } :=
  if_neg (by simp [h])

/-- The test makes no segment supply and stops none. -/
@[simp] theorem Segment.settled_supply (b : Bool) (g : Segment) :
    (g.settled b).status.supply = g.status.supply := by
  cases h : g.status.supply with
  | some v => rw [settled_of_supply b (by simp [h]), h]
  | none => cases b <;> rw [settled_of_none _ h] <;> rfl

@[simp] theorem Segment.settled_probe (b : Bool) (g : Segment) : (g.settled b).probe = g.probe := by
  unfold settled
  split <;> rfl

@[simp] theorem anySupply_settleSegments (l : List Segment) :
    anySupply (settleSegments l) = anySupply l := by
  simp [anySupply, settleSegments_eq, Function.comp_def]

/-! ### LIVE segments follow their probes (R29, R30) -/

/-- A status follows a probe: LIVE with the probe's value while the probe is OK, another while it is not. -/
def SegStatus.follows (st : SegStatus) (r : Terminal) : Bool :=
  match st with
  | .live v => r.probeOk && r.probeValue == some v
  | _ => !r.probeOk

theorem State.liveFits_eq (s : State) (g : Segment) :
    s.liveFits g = g.status.follows s.terminals[g.probe] := rfl

@[simp] theorem SegStatus.follows_live {v : Int} {r : Terminal} :
    (SegStatus.live v).follows r = true ↔ r.probeOk = true ∧ r.probeValue = some v := by simp [follows]

theorem SegStatus.follows_of_not_live {st : SegStatus} {r : Terminal} (h : ∀ v, st ≠ .live v) :
    st.follows r = true ↔ r.probeOk = false := by
  cases st with
  | live v => exact absurd rfl (h v)
  | held v start => simp [follows]
  | substituted => simp [follows]
  | unknown => simp [follows]

theorem Terminal.probeSound_iff {r : Terminal} : r.probeSound = true ↔
    (r.probeOk = true → r.mode = .probeIn ∧ ∃ v : Int, r.probeValue = some v) := by
  cases h : r.probeOk <;> simp [probeSound, h, Option.isSome_iff_exists]

/-- A segment that does not supply may be SUBSTITUTED or UNKNOWN: it is not LIVE all the same. -/
theorem Segment.follows_settled {g : Segment} {r : Terminal} (b : Bool) (h : g.status.follows r = true) :
    (g.settled b).status.follows r = true := by
  cases hs : g.status.supply with
  | some v => rwa [settled_of_supply b (by simp [hs])]
  | none =>
    have hlive : ∀ v, g.status ≠ .live v := fun v e => by simp [e, SegStatus.supply] at hs
    rw [SegStatus.follows_of_not_live hlive] at h
    rw [settled_of_none b hs]
    cases b <;> simp [SegStatus.follows, h]

/-- A picture that has passed the test of R27, of segments that follow their probes, is as the laws of the
Thermal Unit ask. -/
theorem State.thermalKept_settled {l : List Segment} (ht : t.thermal = settleSegments l)
    (hlive : ∀ g ∈ l, t.liveFits g = true) (hsound : ∀ n : TermId, t.terminals[n].probeSound = true)
    (hseal : t.plan.state = .empty ∨ t.plan.state = .loading → l = []) : t.thermalKept := by
  have hany : t.thermal.any (fun x => x.status.supply.isSome) = anySupply l := by
    rw [ht]
    exact anySupply_settleSegments l
  have hfrom : ∀ g ∈ t.thermal, ∃ g₀ ∈ l, g₀.settled (anySupply l) = g := fun g hg =>
    List.mem_map.1 (settleSegments_eq l ▸ ht ▸ hg)
  have hstatus : ∀ g ∈ t.thermal, g.status.supply = none →
      g.status = if anySupply l then .substituted else .unknown := by
    intro g hg hnone
    obtain ⟨g₀, -, rfl⟩ := hfrom g hg
    rw [Segment.settled_supply] at hnone
    rw [Segment.settled_of_none _ hnone]
  refine ⟨fun g hg hst => ?_, fun g hg hst => ?_, fun g hg => ?_, hsound, fun hst => ?_⟩
  · have := hstatus g hg (by rw [hst]; rfl)
    rw [hany]
    cases h : anySupply l <;> simp [hst, h] at this ⊢
  · have := hstatus g hg (by rw [hst]; rfl)
    rw [hany]
    cases h : anySupply l <;> simp [hst, h] at this ⊢
  · obtain ⟨g₀, hg₀, rfl⟩ := hfrom g hg
    simp only [liveFits_eq, Segment.settled_probe]
    exact Segment.follows_settled _ (hlive g₀ hg₀)
  · rw [ht, hseal hst]
    rfl

/-! ### Raisings of PROBE_SUBST (R33) -/

@[simp] theorem State.raiseSubst_view (s : State) (ks : List Nat) :
    (s.raiseSubst ks).thermalView = s.thermalView :=
  s.foldl_view (f := fun (acc : State) (k : Nat) =>
    acc.raiseUnbound .probeSubst (k : Int) ((valueUsed acc.thermal k).getD 0)) (fun _ _ => by simp) ks

/-- An event that leaves a settled picture leaves it as the laws ask. -/
theorem State.thermalKept_event {l : List Segment} (ks : List Nat)
    (hlive : ∀ g ∈ l, s.liveFits g = true) (hsound : ∀ n : TermId, s.terminals[n].probeSound = true)
    (hseal : s.plan.state = .empty ∨ s.plan.state = .loading → l = []) :
    ((s.setThermal (settleSegments l)).raiseSubst ks).thermalKept :=
  thermalKept_of_view (raiseSubst_view _ ks) (thermalKept_settled (t := s.setThermal _) rfl hlive hsound hseal)

/-- Segment records change together, each so that it follows its probe. -/
theorem State.changeSegments_kept {f : Segment → Segment}
    (hlive : ∀ g ∈ s.thermal, s.liveFits (f g) = true)
    (hsound : ∀ n : TermId, s.terminals[n].probeSound = true)
    (hseal : s.plan.state = .empty ∨ s.plan.state = .loading → s.thermal = []) :
    (s.changeSegments f).thermalKept := by
  refine thermalKept_event _ (fun g hg => ?_) hsound fun hst => by rw [hseal hst]; rfl
  obtain ⟨g₀, hg₀, rfl⟩ := List.mem_map.1 hg
  exact hlive g₀ hg₀

/-! ### A terminal's record is written -/

theorem State.setTerminal_get (s : State) (n m : TermId) (r : Terminal) :
    (s.setTerminal n r).terminals[m] = if m = n then r else s.terminals[m] := by
  by_cases e : m = n
  · subst e
    simp
  · have hne : n.val ≠ m.val := fun h => e (Fin.ext h.symm)
    simp [e, hne]

theorem State.setTerminal_sound {n : TermId} {r : Terminal} (hr : r.probeSound = true)
    (hs : ∀ m : TermId, s.terminals[m].probeSound = true) (m : TermId) :
    (s.setTerminal n r).terminals[m].probeSound = true := by
  rw [setTerminal_get]
  split
  · exact hr
  · exact hs m

/-- A segment is judged by the record written when it names the terminal, and as before when it does not. -/
theorem State.setTerminal_liveFits (s : State) (n : TermId) (r : Terminal) (g : Segment) :
    (s.setTerminal n r).liveFits g = if g.probe = n then g.status.follows r else s.liveFits g := by
  rw [liveFits_eq, setTerminal_get]
  split <;> rfl

theorem State.follows_of_fits {g : Segment} {n : TermId} (h : s.liveFits g = true) (e : g.probe = n) :
    g.status.follows s.terminals[n] = true := by
  rw [← e]
  exact h

/-- The segments of a probe that is OK are LIVE. -/
theorem State.live_of_fits {g : Segment} {n : TermId} (h : s.liveFits g = true) (e : g.probe = n)
    (hok : s.terminals[n].probeOk = true) : ∃ v, g.status = .live v := by
  by_contra hno
  have hlive : ∀ v, g.status ≠ .live v := fun v e => hno ⟨v, e⟩
  have hfit := follows_of_fits h e
  rw [SegStatus.follows_of_not_live hlive, hok] at hfit
  cases hfit

/-- A terminal whose probe was not OK and is not OK is written. -/
theorem State.setTerminal_kept {n : TermId} {r : Terminal} (hs : s.thermalKept)
    (hbefore : s.terminals[n].probeOk = false) (hafter : r.probeOk = false) :
    (s.setTerminal n r).thermalKept := by
  obtain ⟨hsub, hunk, hlive, hsound, hseal⟩ := hs
  refine ⟨hsub, hunk, fun g hg => ?_,
    setTerminal_sound (Terminal.probeSound_iff.2 (by simp [hafter])) hsound, hseal⟩
  rw [setTerminal_liveFits]
  split
  · rename_i e
    have hfit := follows_of_fits (hlive g hg) e
    have hst : ∀ v, g.status ≠ .live v := fun v hv => by
      rw [hv, SegStatus.follows_live, hbefore] at hfit
      cases hfit.1
    exact (SegStatus.follows_of_not_live hst).2 hafter
  · exact hlive g hg

/-- A terminal whose probe is OK reads: its segments are LIVE with the value read (R29). -/
theorem State.probeReading_kept {n : TermId} {r : Terminal} {v : Int} (hs : s.thermalKept)
    (hok : r.probeOk = true) (hmode : r.mode = .probeIn) (hv : r.probeValue = some v) :
    ((s.setTerminal n r).probeReading n v).thermalKept := by
  obtain ⟨-, -, hlive, hsound, hseal⟩ := hs
  refine changeSegments_kept (fun g hg => ?_)
    (setTerminal_sound (Terminal.probeSound_iff.2 fun _ => ⟨hmode, v, hv⟩) hsound) hseal
  rw [setTerminal_liveFits]
  by_cases e : g.probe = n
  · simp [Segment.read, e, hok, hv]
  · simpa [Segment.read, e] using hlive g hg

/-- A terminal whose probe was OK faults: its segments, all of them LIVE, leave LIVE (R30). -/
theorem State.probeFault_kept {n : TermId} {r : Terminal} (hs : s.thermalKept)
    (hbefore : s.terminals[n].probeOk = true) (hafter : r.probeOk = false) :
    ((s.setTerminal n r).probeFault n).thermalKept := by
  obtain ⟨-, -, hlive, hsound, hseal⟩ := hs
  refine changeSegments_kept (fun g hg => ?_)
    (setTerminal_sound (Terminal.probeSound_iff.2 (by simp [hafter])) hsound) hseal
  have hfit := hlive g hg
  rw [setTerminal_liveFits]
  by_cases e : g.probe = n
  · obtain ⟨v, hv⟩ := live_of_fits hfit e hbefore
    simp only [Segment.fault, e, hv, if_true]
    refine (SegStatus.follows_of_not_live fun w => ?_).2 hafter
    split <;> simp
  · simpa [Segment.fault, e] using hfit

/-! ### The events (R29 to R31, R150, R155) -/

@[simp] theorem Terminal.sample_mode (r : Terminal) (code : ProbeCode) (now : Clock) :
    (r.sample code now).mode = r.mode := by
  unfold sample
  simp only
  split
  · split
    · split <;> rfl
    · rfl
  · split
    · rfl
    · split <;> rfl

/-- A probe that is OK after a sample has a value, if it had one whenever it was OK before (R156). -/
theorem Terminal.sample_value {r : Terminal} {code : ProbeCode} {now : Clock}
    (hs : r.probeSound = true) (hok : (r.sample code now).probeOk = true) :
    ∃ v : Int, (r.sample code now).probeValue = some v := by
  have hvalue := fun h => (probeSound_iff.1 hs h).2
  unfold sample at hok ⊢
  simp only at hok ⊢
  split_ifs at hok ⊢ <;> simp_all

theorem State.takeSample_kept {n : TermId} (code : ProbeCode) (hs : s.thermalKept)
    (hmode : s.terminals[n].mode = .probeIn) : (s.takeSample n code).thermalKept := by
  have hsound := hs.2.2.2.1 n
  unfold takeSample
  simp only
  split
  · rename_i hok
    obtain ⟨v, hv⟩ := Terminal.sample_value hsound hok
    rw [hv]
    exact probeReading_kept hs hok (by rw [Terminal.sample_mode, hmode]) hv
  · rename_i hno
    have hno := Bool.eq_false_of_not_eq_true hno
    split
    · rename_i hbefore
      exact probeFault_kept hs hbefore hno
    · rename_i hbefore
      exact setTerminal_kept hs (Bool.eq_false_of_not_eq_true hbefore) hno

theorem State.holdDue_iff {k : Nat} : s.holdDue k = true ↔ ∃ (g : Segment) (v : Int) (start : Clock),
    s.thermal[k]? = some g ∧ g.status = .held v start
      ∧ s.params.probeHold * 1000 ≤ age s.clock start := by
  unfold holdDue
  cases s.thermal[k]? with
  | none => simp
  | some g => cases hg : g.status <;> simp [hg]

/-- The segment of a hold that ends is not LIVE, before and after (R31). -/
theorem State.expireHold_kept {k : Nat} (hs : s.thermalKept) (hdue : s.holdDue k = true) :
    (s.expireHold k).thermalKept := by
  obtain ⟨-, -, hlive, hsound, hseal⟩ := hs
  obtain ⟨g, v, start, hk, hheld, -⟩ := holdDue_iff.1 hdue
  refine thermalKept_event _ (fun x hx => ?_) hsound fun hst => by simp [hseal hst]
  obtain ⟨i, hi⟩ := List.mem_iff_getElem?.1 hx
  rw [List.getElem?_modify] at hi
  split at hi
  · rename_i e
    rw [← e, hk] at hi
    obtain rfl : { g with status := .unknown } = x := by simpa using hi
    have hfit := hlive g (List.mem_of_getElem? hk)
    rw [liveFits_eq, hheld] at hfit
    exact hfit
  · exact hlive x (List.mem_of_getElem? (by simpa using hi))

theorem State.expireDueHolds_kept (hs : s.thermalKept) : s.expireDueHolds.thermalKept := by
  unfold expireDueHolds
  generalize List.range s.thermal.length = ks
  induction ks generalizing s with
  | nil => exact hs
  | cons k ks ih =>
    refine ih ?_
    show (if s.holdDue k then s.expireHold k else s).thermalKept
    split
    · exact expireHold_kept hs ‹_›
    · exact hs

theorem State.configure_kept (f : TermFields) (hs : s.thermalKept) : (s.configure f).thermalKept := by
  have hsound := hs.2.2.2.1 f.terminal
  have hquiet : s.terminals[f.terminal].probeOk = false →
      ∀ u : State, u.thermalView = (s.setTerminal f.terminal (s.terminals[f.terminal].configured f
        s.pinHigh[f.terminal] s.clock)).thermalView → u.thermalKept := fun hno _ hu =>
    thermalKept_of_view hu (setTerminal_kept hs hno rfl)
  have hmode : s.terminals[f.terminal].mode ≠ .probeIn → s.terminals[f.terminal].probeOk = false := by
    intro hm
    by_contra hok
    exact hm (Terminal.probeSound_iff.1 hsound (Bool.eq_true_of_not_eq_false hok)).1
  unfold configure
  simp only
  unfold leaveMode
  split
  · rename_i hm
    refine hquiet (hmode (by rw [hm]; decide)) _ ?_
    split
    · split <;> simp
    · rfl
  · split
    · rename_i hok
      exact probeFault_kept hs hok rfl
    · rename_i hno
      exact hquiet (Bool.eq_false_of_not_eq_true hno) _ rfl
  · rename_i hm
    exact hquiet (hmode hm) _ rfl

/-! ### The seal and the end of a frame (R7, R8, R24, R28) -/

/-- The first record of a segment follows its probe (R28). -/
theorem State.firstRecord_fits (hsound : ∀ n : TermId, s.terminals[n].probeSound = true)
    (row : SegmentRow) : s.liveFits (s.firstRecord row) = true := by
  have hsound := Terminal.probeSound_iff.1 (hsound row.probe)
  rw [firstRecord_eq, liveFits_eq]
  simp only
  generalize s.terminals[row.probe] = r at hsound
  cases hok : r.probeOk with
  | false =>
    refine (SegStatus.follows_of_not_live fun v => ?_).2 hok
    split <;> simp
  | true =>
    obtain ⟨hmode, v, hv⟩ := hsound hok
    simp [hv, hmode, hok]

theorem rulePlanSeal_kept (hs : s.thermalKept) : (rulePlanSeal s).1.thermalKept := by
  unfold rulePlanSeal
  split
  · exact hs
  · split
    · exact hs
    · obtain ⟨-, -, -, hsound, -⟩ := hs
      refine State.thermalKept_event (s := s.setPlan { s.plan with state := .ready }) _ (fun g hg => ?_)
        hsound (by simp)
      obtain ⟨row, -, rfl⟩ := List.mem_map.1 hg
      exact State.firstRecord_fits (s := s.setPlan _) hsound row

/-- A frame without segments is as the laws ask when the probes are sound. -/
theorem State.thermalKept_of_nil (ht : t.thermal = [])
    (hsound : ∀ n : TermId, t.terminals[n].probeSound = true) : t.thermalKept :=
  thermalKept_settled (l := []) ht (by simp) hsound (fun _ => rfl)

theorem State.dropFrame_kept (hs : s.thermalKept) : s.dropFrame.thermalKept := by
  obtain ⟨-, -, -, hsound, -⟩ := hs
  exact thermalKept_of_nil rfl hsound

theorem rulePlanAbort_kept (hs : s.thermalKept) : (rulePlanAbort s).1.thermalKept := by
  unfold rulePlanAbort
  split
  · exact s.dropFrame_kept hs
  · exact hs

theorem ruleFrameEnd_kept (hs : s.thermalKept) : (ruleFrameEnd s).1.thermalKept := by
  unfold ruleFrameEnd
  split_ifs
  · exact hs
  · exact hs
  · exact hs
  · exact s.dropFrame_kept hs

theorem execPowerOn_kept (h : execPowerOn s = .next t) : t.thermalKept := by
  obtain rfl := Host.Outcome.next.inj h
  refine State.thermalKept_of_nil rfl fun n => ?_
  have : State.reset.terminals[n].probeSound = true := by rw [reset_terminals]; rfl
  exact this

/-! ### The rules of the terminals and of PROBE_HOLD -/

theorem ruleTermConfig_kept (b : List Byte) (hs : s.thermalKept) :
    (ruleTermConfig b s).1.thermalKept := by
  unfold ruleTermConfig
  split
  · exact hs
  · split_ifs
    · exact hs
    · exact hs
    · exact hs
    · exact s.configure_kept _ hs

theorem ruleSetProbeHold_kept (b : List Byte) (hs : s.thermalKept) :
    (ruleSetProbeHold b s).1.thermalKept := by
  unfold ruleSetProbeHold State.writeParam
  split
  · exact hs
  · exact State.expireDueHolds_kept hs

/-! ### Takings and events -/

theorem takeMessage_kept {p : PortId} {kind : Byte} {b : List Byte} {rule : State → Taken}
    (hr : ∀ u : State, u.thermalKept → (rule u).1.thermalKept) (hs : s.thermalKept)
    (h : takeMessage p kind b rule s = .next t) : t.thermalKept := by
  rcases takeMessage_cases h with ht | ⟨-, ht⟩ <;> rw [ht]
  · exact hs
  · unfold State.afterTaking
    simp only
    refine State.thermalKept_of_view (State.sendNotices_view _) ?_
    refine State.thermalKept_of_view (State.appendReply_view ..) ?_
    unfold judgeMessage
    split_ifs
    · exact hs
    · exact hs
    · exact hr _ hs

/-- A message whose rule leaves the view of the Thermal Unit. -/
theorem takeMessage_still {p : PortId} {kind : Byte} {b : List Byte} {rule : State → Taken}
    (hr : ∀ u : State, (rule u).1.thermalView = u.thermalView) :
    s.thermalKept → takeMessage p kind b rule s = .next t → t.thermalKept :=
  takeMessage_kept fun u hu => State.thermalKept_of_view (hr u) hu

theorem takeEvent_kept {due : Bool} {effect : State → State}
    (he : due = true → s.thermalKept → (effect s).thermalKept) (hs : s.thermalKept)
    (h : takeEvent due effect s = .next t) : t.thermalKept := by
  rcases takeEvent_cases h with ht | ⟨-, hdue, ht⟩ <;> rw [ht]
  · exact hs
  · exact State.thermalKept_of_view (State.sendNotices_view _) (he hdue hs)

/-- An event that leaves the view of the Thermal Unit. -/
theorem takeEvent_still {due : Bool} {effect : State → State}
    (he : ∀ u : State, (effect u).thermalView = u.thermalView) :
    s.thermalKept → takeEvent due effect s = .next t → t.thermalKept :=
  takeEvent_kept fun _ hs => State.thermalKept_of_view (he s) hs

/-- An event of a line or a pin that leaves the view of the Thermal Unit. -/
theorem levelOrEvent_still {due : Bool} {effect : State → State} {u : State}
    (hu : u.thermalView = s.thermalView) (he : ∀ v : State, (effect v).thermalView = v.thermalView)
    (hs : s.thermalKept)
    (h : (if s.inReset then .next u else takeEvent due effect s) = Host.Outcome.next t) :
    t.thermalKept := by
  split at h
  · exact Host.Outcome.next.inj h ▸ State.thermalKept_of_view hu hs
  · exact takeEvent_still he hs h

theorem ownRow_kept {own : Bool} {taken : Host.Outcome State Fault Refusal}
    (ht : s.thermalKept → taken = .next t → t.thermalKept) (hs : s.thermalKept)
    (h : (if own then taken else .next s) = Host.Outcome.next t) : t.thermalKept := by
  split at h
  · exact ht hs h
  · exact Host.Outcome.next.inj h ▸ hs

theorem otherRow_kept {own : Bool} {taken : Host.Outcome State Fault Refusal}
    (ht : s.thermalKept → taken = .next t → t.thermalKept) (hs : s.thermalKept)
    (h : (if own then .next s else taken) = Host.Outcome.next t) : t.thermalKept := by
  split at h
  · exact Host.Outcome.next.inj h ▸ hs
  · exact ht hs h

end Sys2Proof.Machine
end

section
/-! SUPPORT. Every step keeps the laws of the Thermal Unit: the table of commands. -/

namespace Sys2Proof.Machine

variable {s t : State}

theorem execHoldExpiry_kept {k : Fin 16} (hs : s.thermalKept) (h : execHoldExpiry k s = .next t) :
    t.thermalKept :=
  takeEvent_kept (due := s.holdDue k.val) (effect := fun x => x.expireHold k.val)
    (fun hdue hs => State.expireHold_kept hs hdue) hs h

theorem execProbeSample_kept {n : TermId} {code : ProbeCode} (hs : s.thermalKept)
    (h : execProbeSample n code s = .next t) : t.thermalKept := by
  refine takeEvent_kept (due := s.sampleDue n) (effect := fun x => x.takeSample n code)
    (fun hdue hs => State.takeSample_kept code hs ?_) hs h
  simpa using (Bool.and_eq_true_iff.1 hdue).1

/-- Every command keeps the laws of the Thermal Unit. -/
theorem exec_thermalKept (c : Instr) (hs : s.thermalKept) (h : exec c s = .next t) : t.thermalKept := by
  cases c with
  | powerOn => exact execPowerOn_kept h
  | resetNAssert => exact Host.Outcome.next.inj h ▸ hs
  | attach slot b => exact takeMessage_still (fun u => ruleAttach_view u slot b) hs h
  | detach slot b => exact takeMessage_still (fun u => ruleDetach_view u slot) hs h
  | next slot b => exact takeMessage_still (fun u => ruleNext_view u slot) hs h
  | take slot b => exact takeMessage_still (fun u => ruleTake_view u slot b) hs h
  | move slot b => exact takeMessage_still (fun u => ruleMove_view u slot b) hs h
  | arrived slot b => exact takeMessage_still (fun u => ruleArrived_view u slot) hs h
  | progress slot b => exact takeMessage_still (fun u => ruleProgress_view u slot) hs h
  | abandon slot b => exact takeMessage_still (fun u => ruleAbandon_view u slot) hs h
  | drillDone slot b => exact takeMessage_still (fun u => ruleDrillDone_view u slot b) hs h
  | feed slot b => exact takeMessage_still (fun u => ruleFeed_view u slot) hs h
  | setDone slot b => exact takeMessage_still (fun u => ruleSetDone_view u slot) hs h
  | haltAt slot b => exact takeMessage_still (fun u => ruleHaltAt_view u slot b) hs h
  | headQuery slot b => exact takeMessage_still (fun _ => rfl) hs h
  | planBegin b => exact takeMessage_still (fun u => rulePlanBegin_view u b) hs h
  | planSegment b => exact takeMessage_still (fun u => rulePlanSegment_view u b) hs h
  | planBay b => exact takeMessage_still (fun u => rulePlanBay_view u b) hs h
  | planHole b => exact takeMessage_still (fun u => rulePlanHole_view u b) hs h
  | planSeal b => exact takeMessage_kept (fun _ => rulePlanSeal_kept) hs h
  | planAbort b => exact takeMessage_kept (fun _ => rulePlanAbort_kept) hs h
  | planRead b => exact takeMessage_still (fun u => rulePlanRead_view u b) hs h
  | datum b => exact takeMessage_still (fun u => ruleDatum_view u b) hs h
  | fenceSet b => exact takeMessage_still (fun u => ruleFenceSet_view u b) hs h
  | fenceClear b => exact takeMessage_still (fun u => ruleFenceClear_view u b) hs h
  | holeReleaseRedo b =>
    exact otherRow_kept (takeMessage_still fun u => ruleHoleReleaseRedo_view u b) hs h
  | holeReleaseAccept b =>
    exact ownRow_kept (takeMessage_still fun u => ruleHoleReleaseAccept_view u b) hs h
  | holeExcuse b => exact takeMessage_still (fun u => ruleHoleExcuse_view u b) hs h
  | headRecover b => exact takeMessage_still (fun u => ruleHeadRecover_view u b) hs h
  | headEvict b => exact takeMessage_still (fun u => ruleHeadEvict_view u b) hs h
  | devMode b => exact takeMessage_still (fun u => ruleDevMode_view u b) hs h
  | devClear b => exact takeMessage_still (fun u => ruleDevClear_view u b) hs h
  | devRead b => exact takeMessage_still (fun _ => rfl) hs h
  | logRead b => exact takeMessage_still (fun u => ruleLogRead_view u b) hs h
  | setParam b =>
    exact otherRow_kept (takeMessage_still fun u => ruleSetParam_view u b) hs h
  | setParamProbeHold b => exact ownRow_kept (takeMessage_kept fun _ => ruleSetProbeHold_kept b) hs h
  | setParamStaleAction b =>
    exact ownRow_kept (takeMessage_still fun u => ruleSetStaleAction_view u b) hs h
  | setParamHeatMin b =>
    exact ownRow_kept (takeMessage_still fun u => ruleSetHeatMin_view u b) hs h
  | setParamHeatMax b =>
    exact ownRow_kept (takeMessage_still fun u => ruleSetHeatMax_view u b) hs h
  | setParamBudget b => exact ownRow_kept (takeMessage_still fun u => ruleSetBudget_view u b) hs h
  | setParamLogThreshold b =>
    exact ownRow_kept (takeMessage_still fun u => ruleSetLogThreshold_view u b) hs h
  | setParamDebounceMs b => exact ownRow_kept (takeMessage_still fun u => ruleSetDebounceMs_view u b) hs h
  | getParam b => exact takeMessage_still (fun u => ruleGetParam_view u b) hs h
  | termConfig b => exact takeMessage_kept (fun _ => ruleTermConfig_kept b) hs h
  | termWrite b => exact takeMessage_still (fun u => ruleTermWrite_view u b) hs h
  | termRead b => exact takeMessage_still (fun u => ruleTermRead_view u b) hs h
  | termAck b => exact takeMessage_still (fun u => ruleTermAck_view u b) hs h
  | heaterClear b => exact takeMessage_still (fun _ => rfl) hs h
  | frameEnd b => exact takeMessage_kept (fun _ => ruleFrameEnd_kept) hs h
  | lineQuery b => exact takeMessage_still (fun u => ruleLineQuery_view u b) hs h
  | rivetOut b => exact takeMessage_still (fun u => ruleRivetOut_view u b) hs h
  | heaterQuery b => exact takeMessage_still (fun _ => rfl) hs h
  | motionTimerExpiry slot => exact takeEvent_still (fun u => u.expireTimer_view slot) hs h
  | holdExpiry k => exact execHoldExpiry_kept hs h
  | rivetExpiry serial => exact takeEvent_still (fun u => u.setHeat_view _) hs h
  | rawChange n high => exact levelOrEvent_still (s.setPin_view n high) (fun u => u.changePin_view n high) hs h
  | acceptance n => exact takeEvent_still (fun u => u.acceptCandidate_view n) hs h
  | probeSample n code => exact execProbeSample_kept hs h
  | characterArrival p mark data stopHigh =>
    exact levelOrEvent_still (s.lineLevel_view p false) (fun u => u.receiveCharacter_view p mark data stopHigh) hs h
  | gapExpiry p => exact takeEvent_still (fun u => u.setPort_view p _) hs h
  | inBreak p => exact takeEvent_still (fun u => u.setPort_view p _) hs h
  | breakReturn p => exact levelOrEvent_still (s.lineLevel_view p false) (fun u => u.takeBreak_view p) hs h
  | frameSent p => exact takeEvent_still (fun u => u.setPort_view p _) hs h
  | unknownKindMessage p kind b => exact otherRow_kept (takeMessage_still fun _ => rfl) hs h
  | frameTransmitStart p => exact takeEvent_still (fun u => u.setPort_view p _) hs h
  | receiveLineFall p => exact levelOrEvent_still (s.lineLevel_view p true) (fun u => u.setPort_view p _) hs h

/-- Settles O20: a command keeps the laws, and the passing of time leaves what they read. -/
theorem stepKeepsTheSegmentPicture : Obligations.StepKeepsTheSegmentPicture := by
  intro s t hs h
  unfold step at h
  split at h
  · exact Host.Outcome.next.inj h ▸ State.thermalKept_of_view s.tick_view hs
  · have hqueue : ∀ rest, { s with pending := rest }.thermalKept := fun _ => hs
    exact exec_thermalKept _ (hqueue _) h

end Sys2Proof.Machine
end

section
/-! SUPPORT. The target computation: the displacement of a hole, its bound, and the target made of it (R36 to
R42). -/

namespace Sys2Proof.Machine

/-! ### The sum over the rows of a table -/

/-- A sum over the rows of a table, each row's term bounded by its own bound. -/
theorem natAbs_sum_rows_le {α : Type} (l : List α) (term : Nat → α → Int) (bound : α → Nat)
    (h : ∀ (k : Nat) (g : α), l[k]? = some g → (term k g).natAbs ≤ bound g) :
    (((List.range l.length).map fun k => (l[k]?).elim 0 (term k)).sum).natAbs ≤ (l.map bound).sum := by
  induction l generalizing term with
  | nil => simp
  | cons g l ih =>
    have hhead := h 0 g rfl
    have htail := ih (fun k => term (k + 1)) fun k x hk => h (k + 1) x (by simpa using hk)
    rw [List.length_cons, List.range_succ_eq_map]
    simp only [List.map_cons, List.sum_cons, List.map_map, Function.comp_def, Nat.succ_eq_add_one,
      List.getElem?_cons_zero, List.getElem?_cons_succ, Option.elim_some]
    omega

/-- The lengths of segments that lie apart add up to no more than the jig they lie in. -/
theorem sum_lengths_le {l : List Segment} {lo : Int} (hlo : lo ≤ 2000000)
    (hapart : l.Pairwise (fun a b => a.upper ≤ b.lower))
    (hin : ∀ g ∈ l, lo ≤ g.lower ∧ g.lower ≤ g.upper ∧ g.upper ≤ 2000000) :
    (((l.map fun g => (g.upper - g.lower).toNat).sum : Nat) : Int) ≤ 2000000 - lo := by
  induction l generalizing lo with
  | nil => simpa using hlo
  | cons g l ih =>
    obtain ⟨hg, hl⟩ := List.pairwise_cons.1 hapart
    obtain ⟨h1, h2, h3⟩ := hin g (by simp)
    have hrest := ih h3 hl fun x hx =>
      ⟨hg x hx, (hin x (List.mem_cons_of_mem _ hx)).2⟩
    rw [List.map_cons, List.sum_cons]
    omega

/-! ### The displacement (R38 to R40) -/

theorem displacementSum_eq (segs : List Segment) (alpha : Nat) (x xd : Int) :
    displacementSum segs alpha x xd = ((List.range segs.length).map fun k => (segs[k]?).elim 0 fun g =>
      signedLength g x xd * alpha * ((valueUsed segs k).getD 200 - 200)).sum := by
  unfold displacementSum
  refine congrArg List.sum (List.map_congr_left fun k _ => ?_)
  cases segs[k]? <;> rfl

/-- A displacement sum of terms that are all 0. -/
theorem displacementSum_eq_zero {segs : List Segment} {alpha : Nat} {x xd : Int}
    (h : ∀ g ∈ segs, signedLength g x xd * alpha = 0) : displacementSum segs alpha x xd = 0 := by
  rw [displacementSum_eq]
  refine List.sum_eq_zero fun n hn => ?_
  obtain ⟨k, -, rfl⟩ := List.mem_map.1 hn
  cases hk : segs[k]? with
  | none => rfl
  | some g => simp [h g (List.mem_of_getElem? hk)]

/-- The part of a segment in a span is no longer than the segment. -/
theorem spanOverlap_le {g : Segment} {x xd : Int} (h : g.lower ≤ g.upper) :
    spanOverlap g x xd ≤ g.upper - g.lower := by
  unfold spanOverlap overlapLength
  omega

theorem spanOverlap_nonneg (g : Segment) (x xd : Int) : 0 ≤ spanOverlap g x xd := le_max_left ..

theorem natAbs_signedLength_le {g : Segment} {x xd : Int} (h : g.lower ≤ g.upper) :
    (signedLength g x xd).natAbs ≤ (g.upper - g.lower).toNat := by
  have hle := spanOverlap_le (x := x) (xd := xd) h
  have hnonneg := spanOverlap_nonneg g x xd
  unfold signedLength
  split <;> omega

/-- The span from the datum to itself meets no segment. -/
theorem signedLength_datum (g : Segment) (xd : Int) : signedLength g xd xd = 0 := by
  have : spanOverlap g xd xd = 0 := by
    unfold spanOverlap overlapLength
    omega
  simp [signedLength, this]

theorem roundDisplacement_natAbs (sum : Int) : (roundDisplacement sum).natAbs
    = sum.natAbs / 1000000000 + (if 500000000 ≤ sum.natAbs % 1000000000 then 1 else 0) := by
  unfold roundDisplacement
  simp only
  split <;> split <;> omega

/-- The sum over segments that lie apart in the jig, at the bounds of ALPHA and of the temperatures (R40). -/
theorem natAbs_displacementSum_le {segs : List Segment} {alpha : Nat} {x xd : Int} (halpha : alpha ≤ 2000)
    (hapart : segs.Pairwise (fun a b => a.upper ≤ b.lower))
    (hjig : ∀ g ∈ segs, 0 ≤ g.lower ∧ g.lower ≤ g.upper ∧ g.upper ≤ 2000000)
    (hvalue : ∀ (k : Nat) (v : Int), valueUsed segs k = some v → -300 ≤ v ∧ v ≤ 1500) :
    (displacementSum segs alpha x xd).natAbs ≤ 5200000000000 := by
  have hterm : ∀ (k : Nat) (g : Segment), segs[k]? = some g →
      (signedLength g x xd * alpha * ((valueUsed segs k).getD 200 - 200)).natAbs
        ≤ (g.upper - g.lower).toNat * 2600000 := by
    intro k g hk
    obtain ⟨-, hord, -⟩ := hjig g (List.mem_of_getElem? hk)
    have htemp : ((valueUsed segs k).getD 200 - 200).natAbs ≤ 1300 := by
      cases hv : valueUsed segs k with
      | none => simp
      | some v =>
        have := hvalue k v hv
        simp only [Option.getD_some]
        omega
    calc (signedLength g x xd * alpha * ((valueUsed segs k).getD 200 - 200)).natAbs
        = (signedLength g x xd).natAbs * alpha * ((valueUsed segs k).getD 200 - 200).natAbs := by
          rw [Int.natAbs_mul, Int.natAbs_mul, Int.natAbs_natCast]
      _ ≤ (g.upper - g.lower).toNat * 2000 * 1300 :=
          Nat.mul_le_mul (Nat.mul_le_mul (natAbs_signedLength_le hord) halpha) htemp
      _ = (g.upper - g.lower).toNat * 2600000 := by rw [Nat.mul_assoc]
  have hsum := natAbs_sum_rows_le segs _ _ hterm
  have hlen := sum_lengths_le (lo := 0) (by decide) hapart hjig
  rw [List.sum_map_mul_right] at hsum
  rw [displacementSum_eq]
  omega

/-! ### The target (R36 to R42) -/

/-- A target is computed of an AVAILABLE hole, from the rounded sum, its saturation, and the datum. -/
theorem State.target_eq {s : State} {hole : Hole} {hd : PlanHeader} (hp : s.plan.header = some hd) :
    s.target hole = if available s.thermal (s.modeOf .probeSubst) hole.xNom hd.xd then
      let dRaw := roundDisplacement (displacementSum s.thermal s.params.alpha hole.xNom hd.xd)
      let d := saturateDisplacement s.params.corrLimit dRaw
      some ⟨dRaw, d, decide (s.params.corrLimit < dRaw.natAbs),
        s.plan.jd.getD 0 + (hole.xNom - hd.xd) + d⟩
    else none := by
  unfold target
  rw [hp]
  rfl

/-- Settles O44: the rounding by cases of the sign, the bound by the lengths of the segments. -/
theorem displacementIsRoundedOnce : Obligations.DisplacementIsRoundedOnce := by
  refine ⟨fun sum => ⟨roundDisplacement_natAbs sum, ?_, ?_⟩, by decide, by decide, ?_, ?_, ?_, ?_⟩
  · intro h
    unfold roundDisplacement
    simp only
    split <;> omega
  · intro h
    unfold roundDisplacement
    simp only
    split <;> omega
  · intro s hole hd tgt hp htgt
    rw [State.target_eq hp] at htgt
    split at htgt
    · rw [← Option.some.inj htgt]
    · cases htgt
  · intro segs alpha xd
    rw [displacementSum_eq_zero fun g _ => by rw [signedLength_datum, Int.zero_mul]]
    rfl
  · intro segs x xd
    rw [displacementSum_eq_zero fun g _ => Int.mul_zero _]
    rfl
  · intro segs alpha x xd halpha hapart hjig hvalue
    have hsum := natAbs_displacementSum_le (x := x) (xd := xd) halpha hapart hjig hvalue
    rw [roundDisplacement_natAbs]
    split <;> omega

/-- A hole is not AVAILABLE when a segment that takes part has no value the rules let stand (R37). -/
theorem available_eq_false {segs : List Segment} {mode : DevMode} {x xd : Int} :
    available segs mode x xd = false ↔ ∃ g ∈ segs, 0 < spanOverlap g x xd ∧
      (g.status = .unknown ∨ g.status = .substituted ∧ mode = .holding) := by
  unfold available
  rw [List.all_eq_false]
  refine exists_congr fun g => and_congr_right fun _ => ?_
  simp only [Bool.or_eq_true, Bool.and_eq_true, Bool.not_eq_true', decide_eq_false_iff_not,
    Bool.and_eq_false_iff, beq_eq_false_iff_ne, not_or, not_not, not_and_or, ne_eq]

/-- The sum is formed from the values of the segments that take part; the others add nothing (R39). -/
theorem displacementSum_of_values {segs : List Segment} {alpha : Nat} {x xd : Int} {T : Nat → Int}
    (hT : ∀ (k : Nat) (g : Segment), segs[k]? = some g → 0 < spanOverlap g x xd →
      valueUsed segs k = some (T k)) :
    displacementSum segs alpha x xd = ((List.range segs.length).map fun k => (segs[k]?).elim 0
      (fun g => if xd ≤ x then spanOverlap g x xd else -spanOverlap g x xd) * alpha * (T k - 200)).sum := by
  rw [displacementSum_eq]
  refine congrArg List.sum (List.map_congr_left fun k _ => ?_)
  cases hk : segs[k]? with
  | none => simp
  | some g =>
    by_cases hpart : 0 < spanOverlap g x xd
    · simp only [Option.elim_some, hT k g hk hpart, Option.getD_some]
      rfl
    · have hzero : spanOverlap g x xd = 0 := le_antisymm (not_lt.1 hpart) (spanOverlap_nonneg g x xd)
      simp [signedLength, hzero]

/-- Settles O45: availability, the sum, its saturation and the target are the parts of `State.target_eq`. -/
theorem targetFollowsTheFrame : Obligations.TargetFollowsTheFrame := by
  intro s hole hd jd hp hjd x xd part
  constructor
  · rw [State.target_eq hp, ite_eq_right_iff]
    refine Iff.trans ?_ (available_eq_false (x := x) (xd := xd))
    cases available s.thermal (s.modeOf .probeSubst) x xd <;> simp
  · intro tgt htgt
    rw [State.target_eq hp] at htgt
    split at htgt
    · rw [← Option.some.inj htgt]
      refine ⟨fun T hT => congrArg roundDisplacement (displacementSum_of_values hT), rfl, ?_, ?_⟩
      · exact decide_eq_true_iff
      · simp only [hjd, Option.getD_some, x, xd]
    · cases htgt

end Sys2Proof.Machine
end

section
/-! SUPPORT. The value of a SUBSTITUTED segment, and the test of R27 record by record (R27, R32). -/

namespace Sys2Proof.Machine

/-! ### The nearest supplying neighbour -/

theorem nearestSupply_of_none {m : List Segment} (h : ∀ g ∈ m, g.status.supply = none) :
    nearestSupply m = none := List.findSome?_eq_none_iff.2 h

/-- Segments that do not supply are passed over. -/
theorem nearestSupply_append {m l : List Segment} (h : ∀ g ∈ m, g.status.supply = none) :
    nearestSupply (m ++ l) = nearestSupply l := by
  have hm := nearestSupply_of_none h
  unfold nearestSupply at hm ⊢
  rw [List.findSome?_append, hm, Option.none_or]

theorem nearestSupply_cons {g : Segment} {v : Int} (h : g.status.supply = some v) (l : List Segment) :
    nearestSupply (g :: l) = some v := by
  rw [nearestSupply, List.findSome?_cons, h]

/-- The value of two neighbours, of which either may be missing (R32). -/
def neighbourValue : Option Int → Option Int → Option Int
  | some a, some b => some ((a + b).tdiv 2)
  | some a, none => some a
  | none, b => b

theorem substituteValue_eq (segs : List Segment) (k : Nat) : substituteValue segs k =
    neighbourValue (nearestSupply (segs.take k).reverse) (nearestSupply (segs.drop (k + 1))) := by
  unfold substituteValue
  cases nearestSupply (segs.take k).reverse <;> cases nearestSupply (segs.drop (k + 1)) <;> rfl

/-- A SUBSTITUTED segment takes its value from the segments below it and those above it. -/
theorem valueUsed_between {g : Segment} (below above : List Segment) (h : g.status = .substituted) :
    valueUsed (below ++ g :: above) below.length
      = neighbourValue (nearestSupply below.reverse) (nearestSupply above) := by
  have hk : (below ++ g :: above)[below.length]? = some g := by simp
  have hdrop : (below ++ g :: above).drop (below.length + 1) = above := by
    rw [← List.drop_drop, List.drop_left, List.drop_succ_cons, List.drop_zero]
  simp only [valueUsed, hk, h, substituteValue_eq, List.take_left, hdrop]

/-- Settles O46: the neighbours by what their lists begin with, the test of R27 by `Segment.settled`. -/
theorem substitutedTakesItsNeighbours : Obligations.SubstitutedTakesItsNeighbours := by
  constructor
  · intro l1 m1 m2 l2 gi gk gj a b hk hm hi hj
    have hm1 : ∀ g ∈ m1, g.status.supply = none := fun g hg => hm g (List.mem_append_left _ hg)
    have hm2 : ∀ g ∈ m2, g.status.supply = none := fun g hg => hm g (List.mem_append_right _ hg)
    have hbelow : nearestSupply (l1 ++ gi :: m1).reverse = some a := by
      rw [List.reverse_append, List.reverse_cons, List.append_assoc,
        nearestSupply_append fun g hg => hm1 g (List.mem_reverse.1 hg)]
      exact nearestSupply_cons hi _
    have habove : nearestSupply (m2 ++ gj :: l2) = some b := by
      rw [nearestSupply_append hm2, nearestSupply_cons hj]
    have hlen : l1.length + 1 + m1.length = (l1 ++ gi :: m1).length := by
      rw [List.length_append, List.length_cons]
      omega
    rw [hlen]
    simp only [List.append_assoc _ (gk :: _), List.cons_append]
    refine ⟨?_, ?_, ?_⟩
    · rw [valueUsed_between _ _ hk, hbelow, habove]
      rfl
    · rw [valueUsed_between _ _ hk, hbelow, nearestSupply_of_none hm2]
      rfl
    · rw [valueUsed_between _ _ hk, habove,
        nearestSupply_of_none fun g hg => hm1 g (List.mem_reverse.1 hg)]
      rfl
  · intro segs k
    have hany : (∃ x ∈ segs, x.status.supply.isSome = true) ↔ anySupply segs = true :=
      List.any_eq_true.symm
    rw [settleSegments_eq, List.getElem?_map]
    simp only [hany]
    rfl

end Sys2Proof.Machine
end

section
/-! SUPPORT. A probe sample: the record it leaves, and the segments it reaches (R26, R29, R30, R33, R155,
R156). -/

namespace Sys2Proof.Machine

variable {s s' t : State}

/-! ### An event and its notices (R173) -/

/-- An event that is due and changes of the ports the pending sets at most leaves its effect's state but for
the notices sent. -/
theorem event_noticed {due : Bool} {effect : State → State} (hr : s.inReset = false) (hd : due = true)
    (he : effect s = s') (hp : OnlyPending s.ports s'.ports) : ∃ ports : Vector Port 10,
      takeEvent due effect s = .next { s' with ports := ports }
        ∧ OnlyNotices s { s' with ports := ports } := by
  have hnext := takeEvent_due (effect := effect) hr hd
  have hframe := s'.sendNotices_eq
  have hsent : OnlyNotices s s'.sendNotices := fun q => by
    have hq := s'.sendNotices_port q
    rw [hp q] at hq
    exact hq
  rw [he] at hnext
  generalize s'.sendNotices = t at hnext hframe hsent
  exact ⟨t.ports, hnext.trans (congrArg Host.Outcome.next hframe), hsent⟩

/-! ### PROBE_SUBST after a change of the segments (R33) -/

theorem enteredSubstituted_self (l : List Segment) : enteredSubstituted l l = [] := by
  refine List.filter_eq_nil_iff.2 fun k _ => ?_
  cases l[k]?.map Segment.status == some .substituted <;> simp

/-- The state after the segments became those given: the picture, the Deviation Unit after the raisings of
PROBE_SUBST, and ports of which the pending sets may differ. -/
def State.repictured (s : State) (after : List Segment) (ports : Vector Port 10) : State :=
  { s with
    thermal := after
    dev := State.substDev { s with thermal := after } (enteredSubstituted s.thermal after)
    ports := ports }

theorem State.raiseSubst_repictured (s : State) (after : List Segment) : ∃ ports : Vector Port 10,
    OnlyPending s.ports ports ∧ (s.setThermal after).raiseSubst (enteredSubstituted s.thermal after)
      = s.repictured after ports := raiseSubst_eq (s.setThermal after) _

/-- A picture that stands raises nothing. -/
theorem State.repictured_dev {after : List Segment} (h : after = s.thermal) (ports : Vector Port 10) :
    (s.repictured after ports).dev = s.dev := by
  rw [repictured, h, enteredSubstituted_self]
  rfl

theorem State.repictured_self (s : State) : s.repictured s.thermal s.ports = s := by
  unfold repictured
  rw [enteredSubstituted_self]
  rfl

/-- A picture that has passed the test of R27 gives every segment that entered SUBSTITUTED a value, and the
lowest of them is the one the Deviation Unit records. -/
theorem substRaised_of_settled {before l : List Segment} (ht : t.thermal = settleSegments l)
    (hdev : t.dev = State.substDev { s with thermal := t.thermal } (enteredSubstituted before t.thermal)) :
    SubstRaised s t before := by
  unfold SubstRaised
  unfold State.substDev at hdev
  cases hhead : (enteredSubstituted before t.thermal).head? with
  | none => rwa [hhead] at hdev
  | some k =>
    rw [hhead] at hdev
    obtain ⟨-, hentered⟩ := List.mem_filter.1 (List.mem_of_head? hhead)
    have hstatus : t.thermal[k]?.map Segment.status = some .substituted := by
      simpa using (Bool.and_eq_true_iff.1 hentered).1
    obtain ⟨v, hv⟩ := valueUsed_settled (ht ▸ hstatus)
    rw [← ht] at hv
    simp only [hv, Option.getD_some] at hdev
    exact ⟨v, hv, hdev⟩

theorem substRaised_of_same (ht : t.thermal = s.thermal) (hdev : t.dev = s.dev) :
    SubstRaised s t s.thermal := by
  unfold SubstRaised
  rw [ht, enteredSubstituted_self]
  exact hdev

/-! ### The sample (R155, R156) -/

/-- The segments after a sample left a probe with the record given (R29, R30). -/
def State.sampledSegments (s : State) (n : TermId) (after : Terminal) : List Segment :=
  match after.probeOk, after.probeValue with
  | true, some v => settleSegments (s.thermal.map (Segment.read n v))
  | true, none => s.thermal
  | false, _ =>
    if s.terminals[n].probeOk then
      settleSegments (s.thermal.map (Segment.fault n s.params.probeHold s.clock))
    else s.thermal

/-- The segments are settled afresh by a sample, or stand. -/
theorem State.sampledSegments_cases (s : State) (n : TermId) (after : Terminal) :
    s.sampledSegments n after = s.thermal
      ∨ ∃ l : List Segment, s.sampledSegments n after = settleSegments l := by
  unfold sampledSegments
  split
  · exact .inr ⟨_, rfl⟩
  · exact .inl rfl
  · split
    · exact .inr ⟨_, rfl⟩
    · exact .inl rfl

theorem State.takeSample_eq (s : State) (n : TermId) (code : ProbeCode) : ∃ ports : Vector Port 10,
    OnlyPending s.ports ports ∧ s.takeSample n code =
      (s.setTerminal n (s.terminals[n].sample code s.clock)).repictured
        (s.sampledSegments n (s.terminals[n].sample code s.clock)) ports := by
  unfold takeSample sampledSegments
  simp only
  generalize s.terminals[n].sample code s.clock = after
  have hstands : ∃ ports : Vector Port 10, OnlyPending s.ports ports
      ∧ s.setTerminal n after = (s.setTerminal n after).repictured s.thermal ports :=
    ⟨s.ports, OnlyPending.refl _, (repictured_self (s.setTerminal n after)).symm⟩
  cases after.probeOk with
  | true =>
    cases after.probeValue with
    | some v => exact raiseSubst_repictured (s.setTerminal n after) _
    | none => exact hstands
  | false =>
    cases hbefore : s.terminals[n].probeOk with
    | true => exact raiseSubst_repictured (s.setTerminal n after) _
    | false => exact hstands

theorem railReading_iff {code : ProbeCode} :
    railReading code = true ↔ code.toNat = 0 ∨ code.toNat = 4095 := by simp [railReading]

/-- A sample argues when it speaks against the status: a rail reading of a probe that is OK, a sound one of a
probe that is FAULTED. The third in a row turns the status (R156). -/
theorem Terminal.sample_eq (r : Terminal) (code : ProbeCode) (now : Clock) {rail : Prop} [Decidable rail]
    (hrail : railReading code = true ↔ rail) : r.sample code now = { r with
      probeOk := if (r.probeOk = true ↔ rail) ∧ 3 ≤ r.runCount + 1 then !r.probeOk else r.probeOk
      probeValue := if rail then r.probeValue else some (convertCode code)
      lastCode := some code
      sampledAt := now
      runCount := if (r.probeOk = true ↔ rail) ∧ r.runCount + 1 < 3 then r.runCount + 1 else 0 } := by
  have hrun : 3 ≤ r.runCount + 1 ↔ ¬r.runCount + 1 < 3 := Nat.not_lt.symm
  unfold sample
  by_cases hr : rail
  · have hread := hrail.2 hr
    cases hok : r.probeOk with
    | true =>
      by_cases h3 : r.runCount + 1 < 3
      · simp [hread, hr, h3, hrun]
      · simp [hread, hr, h3, hrun]
    | false => simp [hread, hr]
  · have hread := Bool.eq_false_of_not_eq_true (mt hrail.1 hr)
    cases hok : r.probeOk with
    | true => simp [hread, hr]
    | false =>
      by_cases h3 : r.runCount + 1 < 3
      · simp [hread, hr, h3, hrun]
      · simp [hread, hr, h3, hrun]

theorem Segment.fault_eq (n : TermId) (hold : Nat) (now : Clock) (g : Segment) :
    g.fault n hold now = match g.status with
      | .live v => if g.probe = n then
          { g with status := if 0 < hold then .held v now else .unknown } else g
      | _ => g := by
  unfold fault
  cases hst : g.status <;> split <;> simp_all

/-- Settles O48: the record by the cases of R156, the segments by `State.sampledSegments`. -/
theorem probeSampleReachesItsSegments : Obligations.ProbeSampleReachesItsSegments := by
  intro n code s hr hmode hage r rail argues ok value
  have hafter : r.sample code s.clock = { r with
      probeOk := ok, probeValue := value, lastCode := some code, sampledAt := s.clock
      runCount := if argues ∧ r.runCount + 1 < 3 then r.runCount + 1 else 0 } :=
    Terminal.sample_eq r code s.clock railReading_iff
  have hdue : s.sampleDue n = true := by
    simp only [State.sampleDue, Bool.and_eq_true, beq_iff_eq, decide_eq_true_iff]
    exact ⟨hmode, hage⟩
  obtain ⟨w, hpending, heffect⟩ := s.takeSample_eq n code
  obtain ⟨ports, hnext, hnotices⟩ := event_noticed (effect := fun x => x.takeSample n code) hr hdue heffect
    hpending
  have hok : (r.sample code s.clock).probeOk = ok := by rw [hafter]
  have hvalue : (r.sample code s.clock).probeValue = value := by rw [hafter]
  refine ⟨(s.setTerminal n (r.sample code s.clock)).repictured
    (s.sampledSegments n (r.sample code s.clock)) ports, hnext, congrArg (s.terminals.set n) hafter,
    fun v hv hread => ?_, fun hfault hbefore => ?_, fun hfault hbefore => ?_, ?_, hnotices, rfl⟩
  · show s.sampledSegments n _ = _
    rw [State.sampledSegments, hok, hvalue, hv, hread]
    rfl
  · show s.sampledSegments n _ = _
    have hbefore : s.terminals[n].probeOk = true := hbefore
    rw [State.sampledSegments, hok, hfault]
    simp only [hbefore, if_true]
    exact congrArg (fun f => settleSegments (s.thermal.map f)) (funext (Segment.fault_eq n _ _))
  · show s.sampledSegments n _ = _
    have hbefore : s.terminals[n].probeOk = false := hbefore
    rw [State.sampledSegments, hok, hfault]
    simp only [hbefore]
    rfl
  · rcases s.sampledSegments_cases n (r.sample code s.clock) with h | ⟨l, h⟩
    · exact substRaised_of_same h (State.repictured_dev (s := s.setTerminal n _) h _)
    · exact substRaised_of_settled h rfl

end Sys2Proof.Machine
end

section
/-! SUPPORT. The end of a hold, and the holds a write of PROBE_HOLD ends one after the other (R27, R31, R33,
R34, log entry 14). -/

namespace Sys2Proof.Machine

variable {s t u : State}

/-! ### A segment out of supply -/

/-- A segment whose last good value and hold start are removed (R31). -/
def Segment.released (g : Segment) : Segment := { g with status := .unknown }

/-- The hold of a segment has lasted a number of seconds (R31). -/
def Segment.holdOver (seconds : Nat) (now : Clock) (g : Segment) : Bool :=
  match g.status with
  | .held _ start => decide (seconds * 1000 ≤ (now - start).toNat)
  | _ => false

theorem State.holdDue_eq (s : State) (k : Nat) :
    s.holdDue k = (s.thermal[k]?).any (Segment.holdOver s.params.probeHold s.clock) := by
  unfold holdDue
  cases s.thermal[k]? <;> rfl

/-- A segment that holds supplies. -/
theorem Segment.supply_of_holdOver {n : Nat} {now : Clock} {g : Segment} (h : g.holdOver n now = true) :
    g.status.supply.isSome = true := by
  unfold holdOver at h
  split at h
  · rename_i hst
    rw [hst]
    rfl
  · cases h

/-! ### Pictures that settle alike (R27) -/

/-- A segment without the difference between SUBSTITUTED and UNKNOWN, which the test of R27 decides. -/
abbrev Segment.bare (g : Segment) : Segment := g.settled false

theorem Segment.settled_settled (b c : Bool) (g : Segment) : (g.settled b).settled c = g.settled c := by
  cases h : g.status.supply with
  | some v => rw [settled_of_supply b (by simp [h])]
  | none =>
    rw [settled_of_none c h, settled_of_none c (by simpa using h), settled_of_none b h]

/-- Pictures that differ in SUBSTITUTED and UNKNOWN alone settle alike. -/
theorem settleSegments_congr {l m : List Segment} (h : l.map Segment.bare = m.map Segment.bare) :
    settleSegments l = settleSegments m := by
  have hbare : ∀ l : List Segment, settleSegments l = settleSegments (l.map Segment.bare) := by
    intro l
    have hany : anySupply (l.map Segment.bare) = anySupply l := by simp [anySupply, Function.comp_def]
    rw [settleSegments_eq, settleSegments_eq, hany, List.map_map]
    exact List.map_congr_left fun g _ => (Segment.settled_settled _ _ g).symm
  rw [hbare l, hbare m, h]

theorem map_bare_settleSegments (l : List Segment) :
    (settleSegments l).map Segment.bare = l.map Segment.bare := by
  rw [settleSegments_eq, List.map_map]
  exact List.map_congr_left fun g _ => Segment.settled_settled _ _ g

/-- The picture of a state that meets the laws of the Thermal Unit is settled. -/
theorem State.settleSegments_of_kept (hs : s.thermalKept) : settleSegments s.thermal = s.thermal := by
  obtain ⟨hsub, hunk, -⟩ := hs
  rw [settleSegments_eq, anySupply]
  refine (List.map_congr_left fun g hg => ?_).trans (List.map_id _)
  cases hst : g.status with
  | live v => exact Segment.settled_of_supply _ (by rw [hst]; rfl)
  | held v start => exact Segment.settled_of_supply _ (by rw [hst]; rfl)
  | substituted =>
    rw [Segment.settled_of_none _ (by rw [hst]; rfl), hsub g hg hst]
    simp [← hst]
  | unknown =>
    rw [Segment.settled_of_none _ (by rw [hst]; rfl), hunk g hg hst]
    simp [← hst]

/-! ### One hold ends (R31) -/

theorem State.expireHold_eq (s : State) (k : Nat) : ∃ ports : Vector Port 10, OnlyPending s.ports ports
    ∧ s.expireHold k = s.repictured (settleSegments (s.thermal.modify k Segment.released)) ports :=
  s.raiseSubst_repictured _

theorem modify_eq_set {l : List Segment} {k : Nat} {g : Segment} (h : l[k]? = some g)
    (f : Segment → Segment) : l.modify k f = l.set k (f g) := by
  rw [List.modify_eq_set_getElem?, h]
  rfl

/-- The hold of a segment ends when it is due. -/
theorem execHoldExpiry_due {k : Fin 16} {g : Segment} {v : Int} {start : Clock} (hr : s.inReset = false)
    (hk : s.thermal[k.val]? = some g) (hheld : g.status = .held v start)
    (hage : s.params.probeHold * 1000 ≤ (s.clock - start).toNat) : ∃ t : State,
      exec (.holdExpiry k) s = .next t
        ∧ t.thermal = settleSegments (s.thermal.set k.val { g with status := .unknown })
        ∧ SubstRaised s t s.thermal ∧ OnlyNotices s t
        ∧ t = { s with thermal := t.thermal, dev := t.dev, ports := t.ports } := by
  have hdue : s.holdDue k.val = true := State.holdDue_iff.2 ⟨g, v, start, hk, hheld, hage⟩
  obtain ⟨w, hpending, heffect⟩ := s.expireHold_eq k.val
  rw [modify_eq_set hk] at heffect
  obtain ⟨ports, hnext, hnotices⟩ :=
    event_noticed (effect := fun x => x.expireHold k.val) hr hdue heffect hpending
  exact ⟨s.repictured _ ports, hnext, rfl, substRaised_of_settled rfl rfl, hnotices, rfl⟩

/-! ### Holds end one after the other (R34) -/

/-- Two states that differ in the segments, the Deviation Unit and the pending sets at most. -/
def State.OnlyPicture (s t : State) : Prop :=
  OnlyPending s.ports t.ports ∧ t = { s with thermal := t.thermal, dev := t.dev, ports := t.ports }

theorem State.OnlyPicture.refl (s : State) : s.OnlyPicture s := ⟨OnlyPending.refl _, rfl⟩

theorem State.OnlyPicture.trans (h : s.OnlyPicture t) (h' : t.OnlyPicture u) : s.OnlyPicture u := by
  obtain ⟨hp, he⟩ := h
  obtain ⟨hp', he'⟩ := h'
  refine ⟨hp.trans hp', ?_⟩
  rw [he', he]

/-- One segment is judged: its hold ends when it is due (R34). -/
def State.judgeHold (s : State) (k : Nat) : State := if s.holdDue k then s.expireHold k else s

/-- The segments given are judged in turn (R34). -/
def State.expireAmong (s : State) (ks : List Nat) : State := ks.foldl State.judgeHold s

theorem State.expireDueHolds_eq (s : State) :
    s.expireDueHolds = s.expireAmong (List.range s.thermal.length) := rfl

theorem State.expireAmong_append (s : State) (ks js : List Nat) :
    s.expireAmong (ks ++ js) = (s.expireAmong ks).expireAmong js := List.foldl_append

theorem State.expireAmong_cons (s : State) (k : Nat) (ks : List Nat) :
    s.expireAmong (k :: ks) = (s.judgeHold k).expireAmong ks := rfl

theorem State.judgeHold_onlyPicture (s : State) (k : Nat) : s.OnlyPicture (s.judgeHold k) := by
  unfold judgeHold
  split
  · obtain ⟨ports, hpending, he⟩ := s.expireHold_eq k
    rw [he]
    exact ⟨hpending, rfl⟩
  · exact .refl s

theorem State.expireAmong_onlyPicture (s : State) (ks : List Nat) :
    s.OnlyPicture (s.expireAmong ks) := by
  induction ks generalizing s with
  | nil => exact .refl s
  | cons k ks ih =>
    exact (s.judgeHold_onlyPicture k).trans (ih _)

/-- Where no hold is due none ends. -/
theorem State.expireAmong_of_none {ks : List Nat} (h : ∀ k ∈ ks, s.holdDue k = false) :
    s.expireAmong ks = s := by
  induction ks with
  | nil => rfl
  | cons k ks ih =>
    rw [expireAmong_cons, judgeHold, h k (by simp)]
    exact ih fun j hj => h j (List.mem_cons_of_mem _ hj)

/-- Once PROBE_SUBST has been raised, raising it again changes nothing (R126, R128). -/
theorem State.raiseSubst_again (hflag : s.dev.flags[DevClass.probeSubst.index] = true)
    (hfirst : s.dev.first.isSome = true) (ks : List Nat) : s.raiseSubst ks = s := by
  cases ks with
  | nil => rfl
  | cons k ks => rw [raiseSubst_cons, raiseUnbound_again hflag hfirst]

theorem State.judgeHold_dev (hflag : s.dev.flags[DevClass.probeSubst.index] = true)
    (hfirst : s.dev.first.isSome = true) (k : Nat) : (s.judgeHold k).dev = s.dev := by
  let after := settleSegments (s.thermal.modify k Segment.released)
  have hagain : s.expireHold k = s.setThermal after :=
    raiseSubst_again (s := s.setThermal after) hflag hfirst _
  unfold judgeHold
  split
  · rw [hagain]
    rfl
  · rfl

theorem State.expireAmong_dev (hflag : s.dev.flags[DevClass.probeSubst.index] = true)
    (hfirst : s.dev.first.isSome = true) (ks : List Nat) : (s.expireAmong ks).dev = s.dev := by
  induction ks generalizing s with
  | nil => rfl
  | cons k ks ih =>
    have hone := judgeHold_dev hflag hfirst k
    rw [expireAmong_cons, ih (by rw [hone]; exact hflag) (by rw [hone]; exact hfirst), hone]

/-! ### The picture that is left (R27, R34) -/

/-- A segment after a write of PROBE_HOLD, before the test of R27 (R34). -/
def Segment.afterWrite (seconds : Nat) (now : Clock) (g : Segment) : Segment :=
  if g.holdOver seconds now then g.released else g

theorem Segment.bare_released (g : Segment) : g.released.bare = g.released :=
  settled_of_none false rfl

theorem Segment.released_bare (g : Segment) : g.bare.released = g.released := by
  unfold bare settled released
  split <;> rfl

@[simp] theorem Segment.holdOver_bare (n : Nat) (now : Clock) (g : Segment) :
    g.bare.holdOver n now = g.holdOver n now := by
  cases h : g.status.supply with
  | some v => rw [bare, settled_of_supply _ (by simp [h])]
  | none =>
    have hno : ∀ x : Segment, x.status.supply = none → x.holdOver n now = false := fun x hx => by
      by_contra hover
      simpa [hx] using supply_of_holdOver (Bool.eq_true_of_not_eq_false hover)
    rw [hno g h, hno g.bare (by simpa using h)]

/-- What a write makes of a segment does not hang on SUBSTITUTED and UNKNOWN. -/
theorem Segment.afterWrite_bare (n : Nat) (now : Clock) (g : Segment) :
    (g.bare.afterWrite n now).bare = (g.afterWrite n now).bare := by
  unfold afterWrite
  rw [holdOver_bare, released_bare]
  split
  · rfl
  · exact settled_settled false false g

theorem State.judgeHold_settled (h : settleSegments s.thermal = s.thermal) (k : Nat) :
    settleSegments (s.judgeHold k).thermal = (s.judgeHold k).thermal := by
  unfold judgeHold
  split
  · obtain ⟨ports, -, he⟩ := s.expireHold_eq k
    rw [he]
    exact settleSegments_congr (map_bare_settleSegments _)
  · exact h

/-- The segments after one of them has been judged, but for SUBSTITUTED and UNKNOWN. -/
theorem State.judgeHold_bare (s : State) (k i : Nat) :
    ((s.judgeHold k).thermal[i]?).map Segment.bare = (s.thermal[i]?).map fun g =>
      (if i = k then g.afterWrite s.params.probeHold s.clock else g).bare := by
  unfold judgeHold
  split
  · rename_i hdue
    obtain ⟨ports, -, he⟩ := s.expireHold_eq k
    rw [he, ← List.getElem?_map, repictured, map_bare_settleSegments, List.getElem?_map,
      List.getElem?_modify]
    by_cases e : i = k
    · subst e
      rw [holdDue_eq] at hdue
      obtain ⟨g, hg, hover⟩ := (Option.any_eq_true _ _).1 hdue
      simp [hg, Segment.afterWrite, hover]
    · cases s.thermal[i]? <;> simp [e, Ne.symm e]
  · rename_i hdue
    by_cases e : i = k
    · subst e
      rw [holdDue_eq] at hdue
      cases hg : s.thermal[i]? with
      | none => rfl
      | some g =>
        have hover : g.holdOver s.params.probeHold s.clock = false := by simpa [hg] using hdue
        simp [Segment.afterWrite, hover]
    · simp [e]

/-- After the segments below j have been judged, those of them that were due are out of supply, and the
picture is settled. -/
theorem State.expireAmong_range (hset : settleSegments s.thermal = s.thermal) (j : Nat) :
    let a := s.expireAmong (List.range j)
    settleSegments a.thermal = a.thermal ∧ ∀ i : Nat, (a.thermal[i]?).map Segment.bare
      = (s.thermal[i]?).map fun g =>
        (if i < j then g.afterWrite s.params.probeHold s.clock else g).bare := by
  induction j with
  | zero => exact ⟨hset, fun i => by simp [expireAmong]⟩
  | succ j ih =>
    obtain ⟨hset', hpic⟩ := ih
    obtain ⟨-, hframe⟩ := s.expireAmong_onlyPicture (List.range j)
    rw [List.range_succ, expireAmong_append]
    generalize s.expireAmong (List.range j) = a at hset' hpic hframe
    have hparams : a.params = s.params := by rw [hframe]
    have hclock : a.clock = s.clock := by rw [hframe]
    refine ⟨judgeHold_settled hset' j, fun i => (a.judgeHold_bare j i).trans ?_⟩
    rw [hparams, hclock]
    by_cases e : i = j
    · subst e
      have hbare : (a.thermal[i]?).map Segment.bare = (s.thermal[i]?).map Segment.bare := by
        simpa using hpic i
      have hthrough : ∀ o : Option Segment,
          o.map (fun g => (g.afterWrite s.params.probeHold s.clock).bare)
            = (o.map Segment.bare).map (fun g => (g.afterWrite s.params.probeHold s.clock).bare) :=
        fun o => by cases o <;> simp [Segment.afterWrite_bare]
      simp only [if_true, Nat.lt_succ_self]
      rw [hthrough, hbare, ← hthrough]
    · have hlt : i < j + 1 ↔ i < j := by omega
      simp only [e, if_false, hpic i, hlt]

/-- The write of PROBE_HOLD ends every hold that is due, and the test of R27 follows (R34). -/
theorem State.expireDueHolds_thermal (hs : s.thermalKept) : s.expireDueHolds.thermal
    = settleSegments (s.thermal.map (Segment.afterWrite s.params.probeHold s.clock)) := by
  obtain ⟨hset, hpic⟩ := expireAmong_range (settleSegments_of_kept hs) s.thermal.length
  rw [expireDueHolds_eq, ← hset]
  refine settleSegments_congr (List.ext_getElem? fun i => ?_)
  rw [List.getElem?_map, hpic i]
  simp only [List.getElem?_map, Option.map_map]
  cases hi : s.thermal[i]? with
  | none => rfl
  | some g =>
    obtain ⟨hlt, -⟩ := List.getElem?_eq_some_iff.1 hi
    simp [hlt]

/-! ### The raising of a write (R33, log entry 14) -/

/-- Beside a segment that holds, no segment is UNKNOWN: what does not supply is SUBSTITUTED already. -/
theorem State.substituted_of_kept (hs : s.thermalKept) {g x : Segment} (hg : g ∈ s.thermal)
    (hsup : g.status.supply.isSome = true) (hx : x ∈ s.thermal) (hnone : x.status.supply = none) :
    x.status = .substituted := by
  obtain ⟨-, hunk, -⟩ := hs
  cases hst : x.status with
  | live v => simp [hst, SegStatus.supply] at hnone
  | held v start => simp [hst, SegStatus.supply] at hnone
  | substituted => rfl
  | unknown =>
    have hany : s.thermal.any (fun x => x.status.supply.isSome) = true := List.any_eq_true.2 ⟨g, hg, hsup⟩
    rw [hunk x hx hst] at hany
    cases hany

/-- The picture an expiry leaves, record by record. -/
theorem settleSegments_set {l : List Segment} {k i : Nat} {g x : Segment} (hk : l[k]? = some g)
    (hi : (settleSegments (l.set k g.released))[i]? = some x) : ∃ y : Segment,
      (if i = k then y = g.released else l[i]? = some y)
        ∧ x = y.settled (anySupply (l.set k g.released)) := by
  rw [settleSegments_eq, List.getElem?_map] at hi
  obtain ⟨y, hy, rfl⟩ := Option.map_eq_some_iff.1 hi
  refine ⟨y, ?_, rfl⟩
  obtain ⟨hlt, -⟩ := List.getElem?_eq_some_iff.1 hk
  rw [List.getElem?_set] at hy
  by_cases e : i = k
  · simp_all
  · simpa [e, Ne.symm e] using hy

theorem Segment.settled_substituted {b : Bool} {g : Segment} :
    (g.settled b).status = .substituted ↔ g.status.supply = none ∧ b = true := by
  cases h : g.status.supply with
  | some v =>
    rw [settled_of_supply b (by simp [h])]
    simp only [reduceCtorEq, false_and, iff_false]
    intro e
    simp [e, SegStatus.supply] at h
  | none =>
    rw [settled_of_none b h]
    cases b <;> simp

/-- A segment is SUBSTITUTED in a picture and was not before (R33). -/
def Enters (before after : List Segment) (k : Nat) : Prop :=
  (after[k]?).map Segment.status = some .substituted ∧ (before[k]?).map Segment.status ≠ some .substituted

theorem enters_iff {before after : List Segment} {k : Nat} : Enters before after k ↔
    ((after[k]?.map Segment.status) == some .substituted
      && !((before[k]?.map Segment.status) == some .substituted)) = true := by
  simp only [Enters, Bool.and_eq_true, beq_iff_eq, Bool.not_eq_true', beq_eq_false_iff_ne]

/-- The first of the segments that enter SUBSTITUTED is the lowest of them. -/
theorem head?_enteredSubstituted {before after : List Segment} {k : Nat} (hk : Enters before after k)
    (hbelow : ∀ j < k, ¬Enters before after j) : (enteredSubstituted before after).head? = some k := by
  have hlt : k < after.length := by
    obtain ⟨g, hg, -⟩ := Option.map_eq_some_iff.1 hk.1
    exact (List.getElem?_eq_some_iff.1 hg).1
  rw [enteredSubstituted, List.head?_filter, List.find?_range_eq_some]
  refine ⟨enters_iff.1 hk, List.mem_range.2 hlt, fun j hj => ?_⟩
  rw [Bool.not_eq_true', ← Bool.not_eq_true]
  exact mt enters_iff.2 (hbelow j hj)

theorem enteredSubstituted_eq_nil {before after : List Segment} (h : ∀ k, ¬Enters before after k) :
    enteredSubstituted before after = [] :=
  List.filter_eq_nil_iff.2 fun k _ => mt enters_iff.2 (h k)

/-- A segment enters SUBSTITUTED as the hold of k ends: k itself, while some segment still supplies. -/
theorem State.enters_expired (hs : s.thermalKept) {k : Nat} {g : Segment} (hk : s.thermal[k]? = some g)
    (hsup : g.status.supply.isSome = true) (i : Nat) :
    Enters s.thermal (settleSegments (s.thermal.set k g.released)) i
      ↔ i = k ∧ anySupply (s.thermal.set k g.released) = true := by
  constructor
  · rintro ⟨hafter, hbefore⟩
    obtain ⟨x, hx, hst⟩ := Option.map_eq_some_iff.1 hafter
    obtain ⟨y, hy, rfl⟩ := settleSegments_set hk hx
    obtain ⟨hnone, hany⟩ := Segment.settled_substituted.1 hst
    refine ⟨?_, hany⟩
    by_contra e
    rw [if_neg e] at hy
    have hsub := substituted_of_kept hs (List.mem_of_getElem? hk) hsup (List.mem_of_getElem? hy) hnone
    exact hbefore (by rw [hy, Option.map_some, hsub])
  · rintro ⟨rfl, hany⟩
    obtain ⟨hlt, -⟩ := List.getElem?_eq_some_iff.1 hk
    refine ⟨?_, ?_⟩
    · rw [settleSegments_eq, List.getElem?_map, List.getElem?_set_self hlt, Option.map_some,
        Option.map_some, Segment.settled_substituted.2 ⟨rfl, hany⟩]
    · rw [hk, Option.map_some]
      intro e
      rw [Option.some.inj e] at hsup
      cases hsup

/-- While no segment supplies any more, the segment whose hold ended has no value. -/
theorem valueUsed_expired_none {l : List Segment} {k : Nat} {g : Segment} (hk : l[k]? = some g)
    (hany : anySupply (l.set k g.released) = false) :
    valueUsed (settleSegments (l.set k g.released)) k = none := by
  obtain ⟨hlt, -⟩ := List.getElem?_eq_some_iff.1 hk
  have hget : (settleSegments (l.set k g.released))[k]? = some g.released := by
    rw [settleSegments_eq, hany, List.getElem?_map, List.getElem?_set_self hlt, Option.map_some,
      Segment.settled_of_none false rfl]
    rfl
  rw [valueUsed, hget]
  rfl

/-- The first hold that is due ends as it would alone, and the segments after it are judged then. -/
theorem State.expireDueHolds_first {k : Nat} {g : Segment} (hk : s.thermal[k]? = some g)
    (hdue : s.holdDue k = true) (hbelow : ∀ j < k, s.holdDue j = false) :
    ∃ (ports : Vector Port 10) (rest : List Nat), s.expireDueHolds
      = (s.repictured (settleSegments (s.thermal.set k g.released)) ports).expireAmong rest := by
  obtain ⟨hlt, -⟩ := List.getElem?_eq_some_iff.1 hk
  obtain ⟨ports, -, he⟩ := s.expireHold_eq k
  rw [modify_eq_set hk] at he
  obtain ⟨rest, hsplit⟩ : ∃ rest, List.range s.thermal.length = List.range k ++ k :: rest := by
    refine ⟨(List.range s.thermal.length).drop (k + 1), ?_⟩
    conv_lhs => rw [← List.take_append_drop k (List.range s.thermal.length), List.take_range,
      Nat.min_eq_left hlt.le, List.drop_eq_getElem_cons (by simpa using hlt), List.getElem_range]
  refine ⟨ports, rest, ?_⟩
  rw [expireDueHolds_eq, hsplit, expireAmong_append,
    expireAmong_of_none fun j hj => hbelow j (List.mem_range.1 hj), expireAmong_cons, judgeHold,
    if_pos hdue, he]

/-- In a picture in which no segment supplies no hold is due. -/
theorem State.holdDue_of_no_supply (h : anySupply s.thermal = false) (k : Nat) : s.holdDue k = false := by
  by_contra hk
  rw [Bool.not_eq_false, holdDue_eq] at hk
  obtain ⟨x, hx, hover⟩ := (Option.any_eq_true _ _).1 hk
  have hsome : anySupply s.thermal = true :=
    List.any_eq_true.2 ⟨x, List.mem_of_getElem? hx, Segment.supply_of_holdOver hover⟩
  rw [h] at hsome
  cases hsome

/-- The last supply is gone with the first hold that ends: nothing is raised, and no other hold is left. -/
theorem State.expired_last_dev (hs : s.thermalKept) {k : Nat} {g : Segment} (hk : s.thermal[k]? = some g)
    (hsup : g.status.supply.isSome = true) (hany : anySupply (s.thermal.set k g.released) = false)
    (ports : Vector Port 10) (ks : List Nat) :
    ((s.repictured (settleSegments (s.thermal.set k g.released)) ports).expireAmong ks).dev = s.dev := by
  have hquiet := holdDue_of_no_supply
    (s := s.repictured (settleSegments (s.thermal.set k g.released)) ports)
    ((anySupply_settleSegments _).trans hany)
  have hnil := enteredSubstituted_eq_nil fun i hi => by
    have := (enters_expired hs hk hsup i).1 hi
    simp [hany] at this
  rw [expireAmong_of_none fun j _ => hquiet j, repictured, hnil]
  rfl

/-- Some segment supplies after the first hold that ends: PROBE_SUBST is raised for the segment whose hold
it was, and what is raised for others after it changes nothing. -/
theorem State.expired_first_dev (hs : s.thermalKept) {k : Nat} {g : Segment} (hk : s.thermal[k]? = some g)
    (hsup : g.status.supply.isSome = true) (hany : anySupply (s.thermal.set k g.released) = true)
    (ports : Vector Port 10) (ks : List Nat) : ∃ v : Int,
      valueUsed (settleSegments (s.thermal.set k g.released)) k = some v
        ∧ ((s.repictured (settleSegments (s.thermal.set k g.released)) ports).expireAmong ks).dev
          = raisedDev s .probeSubst none none k v := by
  have henters := (enters_expired hs hk hsup k).2 ⟨rfl, hany⟩
  have hhead := head?_enteredSubstituted henters fun j hj hj' =>
    absurd ((enters_expired hs hk hsup j).1 hj').1 (Nat.ne_of_lt hj)
  obtain ⟨v, hv⟩ := valueUsed_settled henters.1
  have hdev : (s.repictured (settleSegments (s.thermal.set k g.released)) ports).dev
      = raisedDev s .probeSubst none none k v := by
    rw [repictured, substDev, hhead]
    simp only [hv, Option.getD_some]
    rfl
  refine ⟨v, hv, ?_⟩
  rw [expireAmong_dev, hdev]
  · rw [hdev]
    simp [raisedDev]
  · rw [hdev]
    cases s.dev.first <;> simp [raisedDev]

theorem State.holdDue_eq_false {k : Nat} (h : ∀ x : Segment, s.thermal[k]? = some x →
    x.holdOver s.params.probeHold s.clock = false) : s.holdDue k = false := by
  rw [holdDue_eq]
  cases hk : s.thermal[k]? with
  | none => rfl
  | some x => exact h x hk

/-- A write of PROBE_HOLD that no hold has reached ends none. -/
theorem State.expireDueHolds_of_none
    (h : ∀ g ∈ s.thermal, g.holdOver s.params.probeHold s.clock = false) : s.expireDueHolds = s :=
  expireAmong_of_none fun _ _ => holdDue_eq_false fun x hx => h x (List.mem_of_getElem? hx)

/-- The Deviation Unit after a write of PROBE_HOLD, by the first hold it ends (R33, log entry 14). -/
theorem State.expireDueHolds_dev (hs : s.thermalKept) {k : Nat} {g : Segment} (hk : s.thermal[k]? = some g)
    (hover : g.holdOver s.params.probeHold s.clock = true)
    (hbelow : ∀ x ∈ s.thermal.take k, x.holdOver s.params.probeHold s.clock = false) :
    let picture := settleSegments (s.thermal.set k g.released)
    (valueUsed picture k = none → s.expireDueHolds.dev = s.dev)
      ∧ ∀ w : Int, valueUsed picture k = some w →
        s.expireDueHolds.dev = raisedDev s .probeSubst none none k w := by
  have hsup := Segment.supply_of_holdOver hover
  have hdue : s.holdDue k = true := by rwa [holdDue_eq, hk]
  have hquiet : ∀ j < k, s.holdDue j = false := fun j hj => holdDue_eq_false fun x hx =>
    hbelow x (List.mem_of_getElem? (i := j) (by rwa [List.getElem?_take, if_pos hj]))
  obtain ⟨ports, rest, hrun⟩ := expireDueHolds_first hk hdue hquiet
  rw [hrun]
  cases hany : anySupply (s.thermal.set k g.released) with
  | false =>
    refine ⟨fun _ => expired_last_dev hs hk hsup hany ports rest, fun w hw => ?_⟩
    rw [valueUsed_expired_none hk hany] at hw
    cases hw
  | true =>
    obtain ⟨v, hv, hdev⟩ := expired_first_dev hs hk hsup hany ports rest
    rw [hdev]
    exact ⟨fun h => (nomatch hv.symm.trans h), fun w hw => by rw [Option.some.inj (hv.symm.trans hw)]⟩

/-! ### The write (R34, R178) -/

theorem ruleSetProbeHold_write {b : List Byte} {v : Nat} (hid : u8At b 0 = 3)
    (hv : (v : Int) = max 0 (min 600 (i32At b 1))) : ruleSetProbeHold b s
      = ((s.setParams { s.params with probeHold := v }).expireDueHolds,
        ⟨if i32At b 1 = v then .ok else .limited, 0, .parameter 3 v⟩) := by
  have hstored : saturate 0 600 (i32At b 1) = v := by
    unfold saturate
    omega
  simp only [ruleSetProbeHold, State.writeParam, hid, paramRange, writtenValue, hstored]
  rfl

/-- Settles O49: an expiry by `State.expireHold_eq`, a write by the run of the expiries it brings. -/
theorem holdsEndAtProbeHold : Obligations.HoldsEndAtProbeHold := by
  refine ⟨fun k s g v start hr hk hheld hage => execHoldExpiry_due hr hk hheld hage, ?_⟩
  intro b s v ht hl hid hv hs due
  let s₀ := (s.dequeued supervisorPort).setParams { s.params with probeHold := v }
  have hexec : execSetParamProbeHold b s
      = takeMessage supervisorPort kindSetParam b (ruleSetProbeHold b) s := by
    simp [execSetParamProbeHold, writesOneOf, hl, hid]
  have hkept : s₀.thermalKept := hs
  have hthermal := State.expireDueHolds_thermal hkept
  have hnone : (∀ g ∈ s.thermal, due g = false) → s₀.expireDueHolds.dev = s.dev := fun hno => by
    have hstays : s₀.expireDueHolds = s₀ := State.expireDueHolds_of_none hno
    rw [hstays]
    rfl
  have hfirst := fun k g hk => State.expireDueHolds_dev (k := k) (g := g) hkept hk
  obtain ⟨hpending, hframe⟩ : s₀.OnlyPicture s₀.expireDueHolds := s₀.expireAmong_onlyPicture _
  have hrule : ruleSetProbeHold b (s.dequeued supervisorPort) = (s₀.expireDueHolds, _) :=
    ruleSetProbeHold_write hid hv
  obtain ⟨w, hnext, hans⟩ := supervisor_message_answered ht (n := 5) (by decide) hl hrule hpending
  generalize s₀.expireDueHolds = u at hframe hthermal hnone hfirst hnext hans
  refine ⟨{ u with ports := w }, hexec.trans hnext, ?_, hthermal, hnone, hfirst, hans, ?_⟩
  · show u.params = _
    rw [hframe]
    rfl
  · rw [hframe]
    rfl

end Sys2Proof.Machine
end

section
/-! SUPPORT. The reservation lists: the overlap test, the entries of one owner, and the intervals of
footprints and hulls (R45 to R47, R53). -/

namespace Sys2Proof.Machine

/-! ### The overlap test (R46) -/

section
variable {l : List Entry} {o w : Owner} {lo hi : Int}

theorem overlaps_iff {lo' hi' : Int} : overlaps lo hi lo' hi' = true ↔ lo' < hi ∧ lo < hi' := by
  simp [overlaps]

theorem conflict_eq_none : conflict l o lo hi = none
    ↔ ∀ e ∈ l, e.owner ≠ o → ¬(e.lo < hi ∧ lo < e.hi) := by
  simp [conflict, overlaps_iff]

/-- A conflict is the first entry of another owner that overlaps; the entries before it do not stand in the
way. -/
theorem conflict_eq_some (h : conflict l o lo hi = some w) :
    ∃ e before after, l = before ++ e :: after ∧ e.owner = w ∧ w ≠ o ∧ e.lo < hi ∧ lo < e.hi
      ∧ ∀ f ∈ before, f.owner ≠ o → ¬(f.lo < hi ∧ lo < f.hi) := by
  obtain ⟨e, he, rfl⟩ := Option.map_eq_some_iff.1 h
  obtain ⟨hp, before, after, hl, hfirst⟩ := List.find?_eq_some_iff_append.1 he
  simp only [Bool.and_eq_true, overlaps_iff, Bool.not_eq_true', beq_eq_false_iff_ne] at hp
  refine ⟨e, before, after, hl, rfl, hp.1, hp.2.1, hp.2.2, fun f hf hne hov => ?_⟩
  simpa [hne, overlaps_iff.2 hov] using hfirst f hf

end

/-- Settles O24: the intervals by definition, the overlap test by the first entry that it finds. -/
theorem intervalsAndTheOverlapTest : Obligations.IntervalsAndTheOverlapTest := by
  refine ⟨fun _ _ _ => rfl, fun _ _ _ _ => rfl, fun l o lo hi hl => ⟨conflict_eq_none, fun w h => ?_⟩⟩
  obtain ⟨e, before, after, rfl, hw, hne, hlo, hhi, hfirst⟩ := conflict_eq_some h
  refine ⟨e, by simp, hw, hne, hlo, hhi, fun f hf hfo hov => ?_⟩
  obtain ⟨-, hrest, -⟩ := List.pairwise_append.1 hl
  rcases List.mem_append.1 hf with hf | hf
  · exact absurd hov (hfirst f hf hfo)
  · rcases List.mem_cons.1 hf with rfl | hf
    · exact le_rfl
    · exact le_of_lt ((List.pairwise_cons.1 hrest).1 f hf)

/-! ### The entries of one owner (R45, R53, R56, R58) -/

section
variable {l : List Entry} {e : Entry} {o o' : Owner}

theorem entriesOf_removeOwner_self : entriesOf (removeOwner o l) o = [] := by
  simp [entriesOf, removeOwner]

theorem entriesOf_removeOwner_other (h : o' ≠ o) : entriesOf (removeOwner o l) o' = entriesOf l o' := by
  simp only [entriesOf, removeOwner, List.filter_filter]
  refine List.filter_congr fun x _ => ?_
  by_cases e : x.owner = o'
  · simp [e, h]
  · simp [e]

theorem entriesOf_insertEntry_other (h : o ≠ e.owner) :
    entriesOf (insertEntry e l) o = entriesOf l o := by
  induction l with
  | nil => simp [insertEntry, entriesOf, h.symm]
  | cons x l ih =>
    unfold insertEntry
    split
    · simp [entriesOf, h.symm]
    · simp only [entriesOf, List.filter_cons] at ih ⊢
      rw [ih]

theorem entriesOf_insertEntry_self (h : entriesOf l e.owner = []) :
    entriesOf (insertEntry e l) e.owner = [e] := by
  induction l with
  | nil => simp [insertEntry, entriesOf]
  | cons x l ih =>
    have hx : x.owner ≠ e.owner := fun hx => by simp [entriesOf, hx] at h
    have hl : entriesOf l e.owner = [] := by simpa [entriesOf, hx] using h
    unfold insertEntry
    split
    · simpa [entriesOf, hx] using hl
    · simpa [entriesOf, hx] using ih hl

theorem entriesOf_placeEntry_self : entriesOf (placeEntry e l) e.owner = [e] :=
  entriesOf_insertEntry_self entriesOf_removeOwner_self

theorem entriesOf_placeEntry_other (h : o ≠ e.owner) : entriesOf (placeEntry e l) o = entriesOf l o :=
  (entriesOf_insertEntry_other h).trans (entriesOf_removeOwner_other h)

theorem mem_of_entriesOf (h : entriesOf l o = [e]) : e ∈ l ∧ e.owner = o := by
  have he : e ∈ entriesOf l o := by simp [h]
  simpa [entriesOf] using he

end

/-! ### Lists whose entries stand apart (R45, R46) -/

/-- The entries of a list are non-empty, lie in the jig, ascend and do not overlap. -/
def Apart (l : List Entry) : Prop :=
  l.Pairwise (fun a b => a.hi ≤ b.lo)
    ∧ ∀ e ∈ l, 0 ≤ e.lo ∧ e.lo < e.hi ∧ e.hi ≤ Config.jigMax

section
variable {l : List Entry} {e x : Entry} {o : Owner}

theorem Apart.removeOwner (h : Apart l) (o : Owner) : Apart (removeOwner o l) :=
  ⟨pairwise_removeOwner h.1, fun x hx => h.2 x (mem_removeOwner.1 hx).1⟩

/-- Two entries of a list that stands apart do not overlap. -/
theorem Apart.disjoint (h : Apart l) (he : e ∈ l) (hx : x ∈ l) (hne : x ≠ e) :
    x.hi ≤ e.lo ∨ e.hi ≤ x.lo := by
  have hall : l.Pairwise (fun a b => a.hi ≤ b.lo ∨ b.hi ≤ a.lo) := h.1.imp Or.inl
  have : Std.Symm (fun a b : Entry => a.hi ≤ b.lo ∨ b.hi ≤ a.lo) := ⟨fun _ _ => Or.symm⟩
  exact hall.forall hx he hne

/-- An entry in the jig that no other owner's entry overlaps is placed. -/
theorem Apart.placeEntry (h : Apart l) (he : 0 ≤ e.lo ∧ e.lo < e.hi ∧ e.hi ≤ Config.jigMax)
    (hc : ∀ x ∈ l, x.owner ≠ e.owner → x.hi ≤ e.lo ∨ e.hi ≤ x.lo) : Apart (placeEntry e l) := by
  obtain ⟨hpair, hin⟩ := h.removeOwner e.owner
  refine ⟨pairwise_insertEntry he.2.1 hpair (fun x hx => (hin x hx).2.1) (fun x hx => ?_),
    fun x hx => ?_⟩
  · obtain ⟨hx, hne⟩ := mem_removeOwner.1 hx
    exact hc x hx hne
  · rcases mem_insertEntry.1 hx with rfl | hx
    · exact he
    · exact hin x hx

/-- A proposal the overlap test finds clear stands apart from every entry of another owner. -/
theorem apart_of_clear {lo hi : Int} (h : conflict l o lo hi = none) (hx : x ∈ l) (hne : x.owner ≠ o) :
    x.hi ≤ lo ∨ hi ≤ x.lo := by
  have := conflict_eq_none.1 h x hx hne
  omega

end

/-! ### Footprints and hulls (R47) -/

section
variable {h : Slot} {c p q x : Int}

theorem clampJig_range (x : Int) : 0 ≤ clampJig x ∧ clampJig x ≤ Config.jigMax := by
  unfold clampJig Config.jigMax
  omega

theorem clampJig_mono (h : p ≤ q) : clampJig p ≤ clampJig q := by
  unfold clampJig Config.jigMax
  omega

/-- A position in the jig lies strictly between the ends of an interval of some width about it. -/
theorem clampJig_lt (hc : 0 < c) (hp : inJig p = true) (hpq : p ≤ q) :
    clampJig (p - c) < clampJig (q + c) := by
  rw [inJig_iff] at hp
  unfold clampJig Config.jigMax
  omega

/-- The footprint of a place on a travel lies within the travel's hull. -/
theorem footprint_within_hull (h : Slot) (c : Int) (hlo : min p x ≤ q) (hhi : q ≤ max p x) :
    (hull h c p x).lo ≤ (footprint h c q).lo ∧ (footprint h c q).hi ≤ (hull h c p x).hi :=
  ⟨clampJig_mono (by omega), clampJig_mono (by omega)⟩

end

end Sys2Proof.Machine
end

section
/-! SUPPORT. The laws of the Rail Map: what a head's state says of its entry, and the changes of a state that
keep the reservations apart (R45, R46, R53). -/

namespace Sys2Proof.Machine

/-! ### The entry a head holds (R47, R53) -/

section
variable {h : Slot} {hd a b : Head} {e : Entry} {c p x : Int}

theorem headPlaced_iff : headPlaced (some hd) = true ↔ 10000 ≤ hd.clearance ∧ inJig hd.position = true := by
  simp [headPlaced]

theorem isFootprint_footprint (h : Slot) (c : Int) (hp : inJig p = true) :
    isFootprint h c (footprint h c p) = true := by
  simp [isFootprint, footprint, hp]

theorem isHull_hull (h : Slot) (c : Int) (hp : inJig p = true) (hx : inJig x = true) :
    isHull h c (hull h c p x) = true := by
  rw [inJig_iff] at hp hx
  have hmin : inJig (min p x) = true := inJig_iff.2 ⟨by omega, by omega⟩
  have hmax : inJig (max p x) = true := inJig_iff.2 ⟨by omega, by omega⟩
  have hspan : hull h c (min p x) (max p x) = hull h c p x := by
    simp [hull]
  simp [isHull, hspan, hmin, hmax, show (hull h c p x).span = some (min p x, max p x) from rfl]

theorem eq_of_isFootprint (he : isFootprint h c e = true) :
    ∃ p, inJig p = true ∧ e = footprint h c p := by
  unfold isFootprint at he
  split at he
  · rename_i p q hspan
    simp only [Bool.and_eq_true, beq_iff_eq] at he
    obtain ⟨rfl, hp⟩ := he
    exact ⟨p, hp, rfl⟩
  · cases he

theorem eq_of_isHull (he : isHull h c e = true) :
    ∃ p x, inJig p = true ∧ inJig x = true ∧ e = hull h c p x := by
  unfold isHull at he
  split at he
  · rename_i p x hspan
    simp only [Bool.and_eq_true, beq_iff_eq] at he
    obtain ⟨⟨rfl, hp⟩, hx⟩ := he
    exact ⟨p, x, hp, hx, rfl⟩
  · cases he

theorem entryFits_idle (hst : hd.status = .idle) :
    entryFits h hd e = true ↔ e = footprint h hd.clearance hd.position := by
  simp [entryFits, hst]

theorem entryFits_travelHole {g : HoleGrant} (hst : hd.status = .travelHole g) :
    entryFits h hd e = true
      ↔ e = hull h hd.clearance hd.position g.x ∧ g.p0 = hd.position ∧ inJig g.x = true := by
  simp [entryFits, hst, and_assoc]

theorem entryFits_travelMove {g : MoveGrant} (hst : hd.status = .travelMove g) :
    entryFits h hd e = true
      ↔ e = hull h hd.clearance hd.position g.x ∧ g.p0 = hd.position ∧ inJig g.x = true := by
  simp [entryFits, hst, and_assoc]

theorem entryFits_work {g : HoleGrant} (hst : hd.status = .work g) :
    entryFits h hd e = true ↔ e = footprint h hd.clearance g.x ∧ g.x = hd.position := by
  simp [entryFits, hst]

/-- The entry of a placed head is a hull or a footprint between places in the jig. -/
theorem entryFits_shape (hp : headPlaced (some hd) = true) (he : entryFits h hd e = true) :
    isHull h hd.clearance e = true ∨ isFootprint h hd.clearance e = true := by
  obtain ⟨-, hpos⟩ := headPlaced_iff.1 hp
  cases hst : hd.status with
  | idle =>
    obtain rfl := (entryFits_idle hst).1 he
    exact .inr (isFootprint_footprint h _ hpos)
  | travelHole g =>
    obtain ⟨rfl, -, hx⟩ := (entryFits_travelHole hst).1 he
    exact .inl (isHull_hull h _ hpos hx)
  | travelMove g =>
    obtain ⟨rfl, -, hx⟩ := (entryFits_travelMove hst).1 he
    exact .inl (isHull_hull h _ hpos hx)
  | work g =>
    obtain ⟨rfl, hx⟩ := (entryFits_work hst).1 he
    exact .inr (isFootprint_footprint h _ (hx ▸ hpos))
  | halted => exact .inl (by simpa only [entryFits, hst] using he)
  | stale => simpa [entryFits, hst] using he
  | faulted => simpa [entryFits, hst] using he

/-- The entry of a placed head is its own, has some length and lies in the jig (R47). -/
theorem entryFits_bounds (hp : headPlaced (some hd) = true) (he : entryFits h hd e = true) :
    e.owner = .head h ∧ 0 ≤ e.lo ∧ e.lo < e.hi ∧ e.hi ≤ Config.jigMax := by
  obtain ⟨hc, -⟩ := headPlaced_iff.1 hp
  have hc : 0 < hd.clearance := by omega
  rcases entryFits_shape hp he with he | he
  · obtain ⟨p, x, hp, hx, rfl⟩ := eq_of_isHull he
    have hmin : inJig (min p x) = true := by
      rw [inJig_iff] at *
      omega
    exact ⟨rfl, (clampJig_range _).1, clampJig_lt hc hmin (by omega), (clampJig_range _).2⟩
  · obtain ⟨p, hp, rfl⟩ := eq_of_isFootprint he
    exact ⟨rfl, (clampJig_range _).1, clampJig_lt hc hp le_rfl, (clampJig_range _).2⟩

/-- The footprint at a place within the span of a head's entry lies within the entry, and the place in the
jig (R51, R54). -/
theorem footprint_within_entry {lo hi : Int} (hp : headPlaced (some hd) = true)
    (he : entryFits h hd e = true) (hspan : e.span = some (lo, hi)) (hlo : lo ≤ x) (hhi : x ≤ hi) :
    inJig x = true ∧ e.lo ≤ (footprint h hd.clearance x).lo ∧ (footprint h hd.clearance x).hi ≤ e.hi := by
  rcases entryFits_shape hp he with he | he
  · obtain ⟨p, q, hp, hq, rfl⟩ := eq_of_isHull he
    obtain ⟨rfl, rfl⟩ := Prod.mk.inj (Option.some.inj hspan)
    rw [inJig_iff] at hp hq
    exact ⟨inJig_iff.2 ⟨by omega, by omega⟩, footprint_within_hull h _ hlo hhi⟩
  · obtain ⟨p, hp, rfl⟩ := eq_of_isFootprint he
    obtain ⟨rfl, rfl⟩ := Prod.mk.inj (Option.some.inj hspan)
    obtain rfl : x = p := by omega
    exact ⟨hp, le_rfl, le_rfl⟩

/-! ### A head that goes on with its entry (R53) -/

/-- A head becomes another that stands where it stood, and whose state the same entry fits. -/
def Head.KeepsEntry (h : Slot) (a b : Head) : Prop :=
  b.rail = a.rail ∧ b.clearance = a.clearance ∧ b.position = a.position
    ∧ ∀ e, headPlaced (some a) = true → entryFits h a e = true → entryFits h b e = true

theorem Head.KeepsEntry.placed (hk : Head.KeepsEntry h a b) :
    headPlaced (some b) = headPlaced (some a) := by
  obtain ⟨-, hc, hp, -⟩ := hk
  simp only [headPlaced, hc, hp]

theorem Head.KeepsEntry.refl (h : Slot) (a : Head) : Head.KeepsEntry h a a :=
  ⟨rfl, rfl, rfl, fun _ _ he => he⟩

theorem Head.KeepsEntry.trans {d : Head} (hk : Head.KeepsEntry h a b) (hk' : Head.KeepsEntry h b d) :
    Head.KeepsEntry h a d := by
  have hplaced := hk.placed
  obtain ⟨hr, hc, hp, hfit⟩ := hk
  obtain ⟨hr', hc', hp', hfit'⟩ := hk'
  exact ⟨hr'.trans hr, hc'.trans hc, hp'.trans hp,
    fun e ha he => hfit' e (hplaced.trans ha) (hfit e ha he)⟩

/-- The last hold has no part in it. -/
theorem Head.KeepsEntry.lastHold (l : Option LastHold) (hk : Head.KeepsEntry h a b) :
    Head.KeepsEntry h a { b with lastHold := l } := hk

/-- A head that falls STALE keeps its entry, whatever it was doing (R82). -/
theorem Head.keepsEntry_stale (h : Slot) (a : Head) : Head.KeepsEntry h a { a with status := .stale } :=
  ⟨rfl, rfl, rfl, fun _ ha he => by simpa [entryFits] using entryFits_shape ha he⟩

/-- So does one that falls FAULTED (R86). -/
theorem Head.keepsEntry_faulted (h : Slot) (a : Head) :
    Head.KeepsEntry h a { a with status := .faulted } :=
  ⟨rfl, rfl, rfl, fun _ ha he => by simpa [entryFits] using entryFits_shape ha he⟩

/-- A head that ends its work stands IDLE in the footprint of it (R78). -/
theorem Head.keepsEntry_idle {g : HoleGrant} (hg : a.status = .work g) :
    Head.KeepsEntry h a { a with status := .idle } := by
  refine ⟨rfl, rfl, rfl, fun e _ he => ?_⟩
  obtain ⟨rfl, hx⟩ := (entryFits_work hg).1 he
  exact (entryFits_idle rfl).2 (by rw [hx])

/-- A travelling head that halts keeps the hull of its travel (R77). -/
theorem Head.keepsEntry_halted (hg : (∃ g, a.status = .travelHole g) ∨ ∃ g, a.status = .travelMove g) :
    Head.KeepsEntry h a { a with status := .halted } := by
  refine ⟨rfl, rfl, rfl, fun e ha he => ?_⟩
  obtain ⟨-, hpos⟩ := headPlaced_iff.1 ha
  have hhull : ∃ x, inJig x = true ∧ e = hull h a.clearance a.position x := by
    rcases hg with ⟨g, hg⟩ | ⟨g, hg⟩
    · obtain ⟨rfl, -, hx⟩ := (entryFits_travelHole hg).1 he
      exact ⟨g.x, hx, rfl⟩
    · obtain ⟨rfl, -, hx⟩ := (entryFits_travelMove hg).1 he
      exact ⟨g.x, hx, rfl⟩
  obtain ⟨x, hx, rfl⟩ := hhull
  simpa [entryFits] using isHull_hull h a.clearance hpos hx

/-- A new set phase changes nothing of where the head works (R62). -/
theorem Head.keepsEntry_phase {g : HoleGrant} (hg : a.status = .work g) (phase : Option SetPhase) :
    Head.KeepsEntry h a { a with status := .work { g with phase := phase } } :=
  ⟨rfl, rfl, rfl, fun _ _ he =>
    (entryFits_work (g := { g with phase := phase }) rfl).2 ((entryFits_work hg).1 he)⟩

end

/-! ### The entries of a slot (R53) -/

section
variable {s t : State} {r : Rail} {h : Slot} {hd : Head}

theorem slotEntriesFit_none (hh : s.heads[h] = none) :
    slotEntriesFit s r h = true ↔ entriesOf (s.rails.list r) (.head h) = [] := by
  unfold slotEntriesFit
  rw [hh]
  cases entriesOf (s.rails.list r) (.head h) <;> simp

theorem slotEntriesFit_off (hh : s.heads[h] = some hd) (hr : hd.rail ≠ r) :
    slotEntriesFit s r h = true ↔ entriesOf (s.rails.list r) (.head h) = [] := by
  unfold slotEntriesFit
  rw [hh]
  match entriesOf (s.rails.list r) (.head h) with
  | [] => simp [hr.symm]
  | [e] => simp [hr.symm]
  | e :: e' :: l => simp

theorem slotEntriesFit_on (hh : s.heads[h] = some hd) (hr : hd.rail = r) :
    slotEntriesFit s r h = true
      ↔ ∃ e, entriesOf (s.rails.list r) (.head h) = [e] ∧ entryFits h hd e = true := by
  unfold slotEntriesFit
  rw [hh]
  match entriesOf (s.rails.list r) (.head h) with
  | [] => simp [hr]
  | [e] => simp [hr]
  | e :: e' :: l => simp

/-! ### One owner's entries change (R53, R56, R58) -/

theorem State.railKept_iff : s.railKept r ↔ Apart (s.rails.list r)
    ∧ (∀ h, slotEntriesFit s r h = true) ∧ ∀ f, fenceEntriesFit s r f = true := and_assoc.symm

/-- The entries and the record of one owner change on a rail, and those of the other owners stand. -/
theorem State.railKept_of_owner {o : Owner} (hs : s.railKept r) (hl : Apart (t.rails.list r))
    (hrest : ∀ o', o' ≠ o → entriesOf (t.rails.list r) o' = entriesOf (s.rails.list r) o')
    (hheads : ∀ h, .head h ≠ o → t.heads[h] = s.heads[h])
    (hfences : ∀ f, .fence f ≠ o → t.rails.fences[f] = s.rails.fences[f])
    (hslot : ∀ h, .head h = o → slotEntriesFit t r h = true)
    (hfence : ∀ f, .fence f = o → fenceEntriesFit t r f = true) : t.railKept r := by
  obtain ⟨-, hslots, hfits⟩ := railKept_iff.1 hs
  refine railKept_iff.2 ⟨hl, fun h => ?_, fun f => ?_⟩
  · by_cases e : .head h = o
    · exact hslot h e
    · have hold := hslots h
      unfold slotEntriesFit at hold ⊢
      rwa [hrest _ e, hheads h e]
  · by_cases e : .fence f = o
    · exact hfence f e
    · have hold := hfits f
      unfold fenceEntriesFit at hold ⊢
      rwa [hrest _ e, hfences f e]

theorem State.railsKept_iff :
    s.railsKept ↔ (∀ r, s.railKept r) ∧ ∀ h : Slot, headPlaced s.heads[h] = true :=
  ⟨fun ⟨ha, hb, hp⟩ => ⟨fun r => by cases r <;> assumption, hp⟩, fun ⟨hr, hp⟩ => ⟨hr .A, hr .B, hp⟩⟩

theorem heads_set_other {heads : Vector (Option Head) 8} {v : Option Head} {h' : Slot} (hne : h' ≠ h) :
    (heads.set h v)[h'] = heads[h'] := by
  have : h.val ≠ h'.val := fun e => hne (Fin.ext e.symm)
  simp [this]

theorem headPlaced_set {v : Option Head} (hs : ∀ h' : Slot, headPlaced s.heads[h'] = true)
    (hv : headPlaced v = true) (h' : Slot) : headPlaced (s.heads.set h v)[h'] = true := by
  by_cases e : h' = h
  · subst e
    simpa using hv
  · rw [heads_set_other e]
    exact hs h'

theorem RailMap.fences_setList (m : RailMap) (r : Rail) (l : List Entry) :
    (m.setList r l).fences = m.fences := by cases r <;> rfl

/-- A slot has no entry on a rail its head is not on. -/
theorem State.entriesOf_elsewhere (hs : s.railKept r) (hh : ∀ hd, s.heads[h] = some hd → hd.rail ≠ r) :
    entriesOf (s.rails.list r) (.head h) = [] := by
  obtain ⟨-, hslots, -⟩ := railKept_iff.1 hs
  cases e : s.heads[h] with
  | none => exact (slotEntriesFit_none e).1 (hslots h)
  | some hd => exact (slotEntriesFit_off e (hh hd e)).1 (hslots h)

/-- The entry of an attached head on its rail. -/
theorem State.entry_of_head (hs : s.railsKept) (hh : s.heads[h] = some hd) :
    ∃ e, entriesOf (s.rails.list hd.rail) (.head h) = [e] ∧ entryFits h hd e = true := by
  obtain ⟨-, hslots, -⟩ := railKept_iff.1 ((railsKept_iff.1 hs).1 hd.rail)
  exact (slotEntriesFit_on hh rfl).1 (hslots h)

theorem State.placed_of_head (hs : s.railsKept) (hh : s.heads[h] = some hd) :
    headPlaced (some hd) = true := hh ▸ (railsKept_iff.1 hs).2 h

/-- A head is written with an entry that fits it, where the slot had none or one on the same rail, and the
entry stands apart from those of the other owners (R48, R49, R51, R54, R55). -/
theorem State.railsKept_place {e : Entry} (hs : s.railsKept)
    (hheads : t.heads = s.heads.set h (some hd))
    (hrails : t.rails = s.rails.setList hd.rail (placeEntry e (s.rails.list hd.rail)))
    (hbefore : ∀ a, s.heads[h] = some a → a.rail = hd.rail) (hplaced : headPlaced (some hd) = true)
    (hfits : entryFits h hd e = true)
    (hclear : ∀ x ∈ s.rails.list hd.rail, x.owner ≠ .head h → x.hi ≤ e.lo ∨ e.hi ≤ x.lo) :
    t.railsKept := by
  obtain ⟨hkept, hpl⟩ := railsKept_iff.1 hs
  obtain ⟨howner, hbounds⟩ := entryFits_bounds hplaced hfits
  have hh : t.heads[h] = some hd := by simp [hheads]
  have hother : ∀ h', Owner.head h' ≠ .head h → t.heads[h'] = s.heads[h'] := fun h' hne => by
    rw [hheads]
    exact heads_set_other (fun e => hne (congrArg Owner.head e))
  have hfence : ∀ f : FenceId, t.rails.fences[f] = s.rails.fences[f] := fun f => by
    rw [hrails, RailMap.fences_setList]
  refine railsKept_iff.2 ⟨fun r => ?_, fun h' => hheads ▸ headPlaced_set hpl hplaced h'⟩
  obtain ⟨hapart, -⟩ := railKept_iff.1 (hkept r)
  by_cases hr : hd.rail = r
  · subst hr
    have hlist : t.rails.list hd.rail = placeEntry e (s.rails.list hd.rail) := by
      rw [hrails, RailMap.list_setList_self]
    refine railKept_of_owner (o := .head h) (hkept hd.rail) ?_ (fun o' hne => ?_) hother
      (fun f _ => hfence f) (fun h' e' => ?_) (fun f e' => nomatch e')
    · rw [hlist]
      exact hapart.placeEntry hbounds (howner ▸ hclear)
    · rw [hlist, entriesOf_placeEntry_other (howner ▸ hne)]
    · obtain rfl := Owner.head.inj e'
      exact (slotEntriesFit_on hh rfl).2 ⟨e, by rw [hlist, ← howner, entriesOf_placeEntry_self], hfits⟩
  · have hlist : t.rails.list r = s.rails.list r := by
      rw [hrails, RailMap.list_setList_other _ (Ne.symm hr)]
    refine railKept_of_owner (o := .head h) (hkept r) (hlist ▸ hapart) (fun o' _ => by rw [hlist]) hother
      (fun f _ => hfence f) (fun h' e' => ?_) (fun f e' => nomatch e')
    obtain rfl := Owner.head.inj e'
    rw [slotEntriesFit_off hh hr, hlist]
    exact entriesOf_elsewhere (hkept r) (fun a ha => (hbefore a ha).trans_ne hr)

/-- A slot becomes DETACHED and its entry is removed (R56). -/
theorem State.railsKept_remove (hs : s.railsKept) (hh : s.heads[h] = some hd)
    (hheads : t.heads = s.heads.set h none)
    (hrails : t.rails = s.rails.setList hd.rail (removeOwner (.head h) (s.rails.list hd.rail))) :
    t.railsKept := by
  obtain ⟨hkept, hpl⟩ := railsKept_iff.1 hs
  have hgone : t.heads[h] = none := by simp [hheads]
  refine railsKept_iff.2 ⟨fun r => ?_, fun h' => hheads ▸ headPlaced_set hpl rfl h'⟩
  obtain ⟨hapart, -⟩ := railKept_iff.1 (hkept r)
  have hlist : t.rails.list r = removeOwner (.head h) (s.rails.list r) := by
    by_cases hr : r = hd.rail
    · rw [hrails, hr, RailMap.list_setList_self]
    · have hnone := entriesOf_elsewhere (hkept r)
        (fun a ha => by rw [Option.some.inj (ha.symm.trans hh)]; exact Ne.symm hr)
      rw [hrails, RailMap.list_setList_other _ hr, removeOwner, List.filter_eq_self.2]
      simpa [entriesOf] using hnone
  refine railKept_of_owner (o := .head h) (hkept r) (hlist ▸ hapart.removeOwner _) (fun o' hne => ?_)
    (fun h' hne => ?_) (fun f _ => ?_) (fun h' e' => ?_) (fun f e' => nomatch e')
  · rw [hlist, entriesOf_removeOwner_other hne]
  · rw [hheads]
    exact heads_set_other (fun e => hne (congrArg Owner.head e))
  · rw [hrails, RailMap.fences_setList]
  · obtain rfl := Owner.head.inj e'
    rw [slotEntriesFit_none hgone, hlist, entriesOf_removeOwner_self]

/-- A fence's record is written and its entries follow on both rails (R58). -/
theorem State.railsKept_fence {f : FenceId} {v : Option Fence} (hs : s.railsKept)
    (hheads : t.heads = s.heads) (hfences : t.rails.fences = s.rails.fences.set f v)
    (hlist : ∀ r, t.rails.list r = match v with
      | some w => if r ∈ w.rails.rails then placeEntry (fenceEntry f w.lo w.hi) (s.rails.list r)
          else removeOwner (.fence f) (s.rails.list r)
      | none => removeOwner (.fence f) (s.rails.list r))
    (hclear : ∀ w, v = some w → (0 ≤ w.lo ∧ w.lo < w.hi ∧ w.hi ≤ Config.jigMax)
      ∧ ∀ r ∈ w.rails.rails, ∀ x ∈ s.rails.list r, x.owner ≠ .fence f → x.hi ≤ w.lo ∨ w.hi ≤ x.lo) :
    t.railsKept := by
  obtain ⟨hkept, hpl⟩ := railsKept_iff.1 hs
  have hself : t.rails.fences[f] = v := by simp [hfences]
  refine railsKept_iff.2 ⟨fun r => ?_, fun h' => hheads ▸ hpl h'⟩
  obtain ⟨hapart, -⟩ := railKept_iff.1 (hkept r)
  have hrest : ∀ o', o' ≠ .fence f → entriesOf (t.rails.list r) o' = entriesOf (s.rails.list r) o' := by
    intro o' hne
    rw [hlist]
    split
    · split
      · exact entriesOf_placeEntry_other hne
      · exact entriesOf_removeOwner_other hne
    · exact entriesOf_removeOwner_other hne
  refine railKept_of_owner (o := .fence f) (hkept r) ?_ hrest (fun h' _ => by rw [hheads])
    (fun f' hne => ?_) (fun h' e' => nomatch e') (fun f' e' => ?_)
  · rw [hlist]
    cases v with
    | none => exact hapart.removeOwner _
    | some w =>
      obtain ⟨hbounds, hclear⟩ := hclear w rfl
      simp only
      split
      · exact hapart.placeEntry hbounds (hclear r ‹_›)
      · exact hapart.removeOwner _
  · have : f.val ≠ f'.val := fun e => hne (congrArg Owner.fence (Fin.ext e.symm))
    simp [hfences, this]
  · obtain rfl := Owner.fence.inj e'
    unfold fenceEntriesFit
    rw [hself, hlist]
    cases v with
    | none => simp [entriesOf_removeOwner_self]
    | some w =>
      by_cases hr : r ∈ w.rails.rails
      · have hentry : (fenceEntry f' w.lo w.hi).owner = .fence f' := rfl
        simp [hr, ← hentry, entriesOf_placeEntry_self]
      · simp [hr, entriesOf_removeOwner_self]

end

end Sys2Proof.Machine
end

section
/-! SUPPORT. The operations that leave the reservations as they are: no rail changes, and every head goes on
with the entry it had (R53). -/

namespace Sys2Proof.Machine

/-- The reservations stand, and every head goes on with the entry it had. -/
def State.KeepsEntries (s t : State) : Prop :=
  t.rails = s.rails ∧ ∀ h : Slot, Option.Rel (Head.KeepsEntry h) s.heads[h] t.heads[h]

/-- The head of a slot keeps its entry when it takes a status. -/
def State.MayTurn (s : State) (h : Slot) (st : HeadStatus) : Prop :=
  ∀ hd, s.heads[h] = some hd → Head.KeepsEntry h hd { hd with status := st }

variable {s t u : State} {h : Slot} {hd : Head} {st : HeadStatus}

/-! ### The relation -/

theorem State.KeepsEntries.same (hr : t.rails = s.rails) (hh : t.heads = s.heads) :
    s.KeepsEntries t := by
  refine ⟨hr, fun h => ?_⟩
  rw [hh]
  cases s.heads[h] with
  | none => exact .none
  | some hd => exact .some (.refl h hd)

theorem State.KeepsEntries.refl (s : State) : s.KeepsEntries s := .same rfl rfl

theorem State.KeepsEntries.trans (hst : s.KeepsEntries t) (htu : t.KeepsEntries u) :
    s.KeepsEntries u := by
  refine ⟨htu.1.trans hst.1, fun h => ?_⟩
  have hab := hst.2 h
  have hbd := htu.2 h
  generalize s.heads[h] = a at hab
  generalize t.heads[h] = b at hab hbd
  generalize u.heads[h] = d at hbd
  cases hab with
  | none => exact hbd
  | some hab => cases hbd with
    | some hbd => exact .some (hab.trans hbd)

theorem State.KeepsEntries.foldl {α : Type} {f : State → α → State}
    (hf : ∀ (u : State) (a : α), u.KeepsEntries (f u a)) (l : List α) (s : State) :
    s.KeepsEntries (l.foldl f s) := by
  induction l generalizing s with
  | nil => exact .refl s
  | cons a l ih => exact (hf s a).trans (ih (f s a))

/-- One head is written, and keeps its entry. -/
theorem State.KeepsEntries.write {f : Head → Head} (hr : t.rails = s.rails)
    (hh : t.heads = s.heads.set h (s.heads[h].map f))
    (hf : ∀ hd, s.heads[h] = some hd → Head.KeepsEntry h hd (f hd)) : s.KeepsEntries t := by
  refine ⟨hr, fun h' => ?_⟩
  by_cases e : h' = h
  · subst e
    have hself : t.heads[h'] = s.heads[h'].map f := by simp [hh]
    rw [hself]
    cases e : s.heads[h'] with
    | none => exact .none
    | some hd => exact .some (hf hd e)
  · have hother : t.heads[h'] = s.heads[h'] := by rw [hh, heads_set_other e]
    rw [hother]
    cases s.heads[h'] with
    | none => exact .none
    | some hd => exact .some (.refl h' hd)

theorem State.KeepsEntries.of_none (hk : s.KeepsEntries t) (hh : s.heads[h] = none) :
    t.heads[h] = none := by
  have hrel := hk.2 h
  rw [hh] at hrel
  generalize t.heads[h] = b at hrel ⊢
  cases hrel
  rfl

theorem State.KeepsEntries.of_some (hk : s.KeepsEntries t) (hh : s.heads[h] = some hd) :
    ∃ b, t.heads[h] = some b ∧ Head.KeepsEntry h hd b := by
  have hrel := hk.2 h
  rw [hh] at hrel
  generalize t.heads[h] = b at hrel ⊢
  cases hrel with
  | some hab => exact ⟨_, rfl, hab⟩

/-- The laws of the Rail Map hold on where every head keeps its entry. -/
theorem State.KeepsEntries.railsKept (hk : s.KeepsEntries t) (hs : s.railsKept) : t.railsKept := by
  obtain ⟨hkept, hplaced⟩ := railsKept_iff.1 hs
  refine railsKept_iff.2 ⟨fun r => ?_, fun h => ?_⟩
  · obtain ⟨hapart, hslots, hfences⟩ := railKept_iff.1 (hkept r)
    refine railKept_iff.2 ⟨hk.1 ▸ hapart, fun h => ?_, fun f => ?_⟩
    · have hslot := hslots h
      cases ha : s.heads[h] with
      | none =>
        rw [slotEntriesFit_none (hk.of_none ha), hk.1]
        exact (slotEntriesFit_none ha).1 hslot
      | some a =>
        obtain ⟨b, hb, hrail, -, -, hfit⟩ := hk.of_some ha
        by_cases hr : a.rail = r
        · rw [slotEntriesFit_on hb (hrail.trans hr), hk.1]
          obtain ⟨e, he, hfits⟩ := (slotEntriesFit_on ha hr).1 hslot
          exact ⟨e, he, hfit e (placed_of_head hs ha) hfits⟩
        · rw [slotEntriesFit_off hb (fun e => hr (hrail.symm.trans e)), hk.1]
          exact (slotEntriesFit_off ha hr).1 hslot
    · have hold := hfences f
      unfold fenceEntriesFit at hold ⊢
      rwa [hk.1]
  · cases ha : s.heads[h] with
    | none => rw [hk.of_none ha]; rfl
    | some a =>
      obtain ⟨b, hb, hab⟩ := hk.of_some ha
      rw [hb, hab.placed]
      exact placed_of_head hs ha

/-! ### The statuses a head may take -/

theorem State.MayTurn.of_heads (hu : u.heads = s.heads) (ht : s.MayTurn h st) : u.MayTurn h st :=
  fun hd hh => ht hd (hu ▸ hh)

theorem State.mayTurn_stale (s : State) (h : Slot) : s.MayTurn h .stale := fun hd _ => hd.keepsEntry_stale h

theorem State.mayTurn_faulted (s : State) (h : Slot) : s.MayTurn h .faulted :=
  fun hd _ => hd.keepsEntry_faulted h

theorem State.mayTurn_idle {g : HoleGrant} (hh : s.heads[h] = some hd) (hg : hd.status = .work g) :
    s.MayTurn h .idle := fun a ha => by
  obtain rfl := Option.some.inj (hh.symm.trans ha)
  exact Head.keepsEntry_idle hg

theorem State.mayTurn_halted (hh : s.heads[h] = some hd)
    (hg : (∃ g, hd.status = .travelHole g) ∨ ∃ g, hd.status = .travelMove g) :
    s.MayTurn h .halted := fun a ha => by
  obtain rfl := Option.some.inj (hh.symm.trans ha)
  exact Head.keepsEntry_halted hg

/-! ### The rails after an operation -/

section
variable (s : State)

@[simp] theorem State.makePending_rails (p : PortId) (k : NoticeKind) :
    (s.makePending p k).rails = s.rails := by rw [makePending_eq]
@[simp] theorem State.noteTrouble_rails (a b : HeadState) : (s.noteTrouble a b).rails = s.rails := by
  rw [noteTrouble_eq]
@[simp] theorem State.judgeFreeze_rails : s.judgeFreeze.rails = s.rails := rfl
@[simp] theorem State.startTimer_rails (h : Slot) (st : TimerStage) (n : Nat) :
    (s.startTimer h st n).rails = s.rails := rfl
@[simp] theorem State.changeHole_rails (i : Nat) (f : Hole → Hole) :
    (s.changeHole i f).rails = s.rails := rfl
@[simp] theorem State.testComplete_rails : s.testComplete.rails = s.rails := rfl
@[simp] theorem State.writeLog_rails (i : Nat) (e : LogEvent) (a : Bool) :
    (s.writeLog i e a).rails = s.rails := by rw [writeLog_record]
@[simp] theorem State.raiseForHole_rails (c : DevClass) (i : Nat) (h : Slot) (a b : Int) :
    (s.raiseForHole c i h a b).rails = s.rails := by rw [raiseForHole_eq]
@[simp] theorem State.raiseUnbound_rails (c : DevClass) (a b : Int) :
    (s.raiseUnbound c a b).rails = s.rails := by rw [raiseUnbound_eq]
@[simp] theorem State.endHoleGrant_rails (h : Slot) (g : HoleGrant) (spent : Bool) (st : HeadStatus) :
    (s.endHoleGrant h g spent st).rails = s.rails := by rw [endHoleGrant_eq]
@[simp] theorem State.sendNotices_rails : s.sendNotices.rails = s.rails := by rw [sendNotices_eq]

theorem State.raiseForHole_keeps (c : DevClass) (i : Nat) (h : Slot) (a b : Int) :
    s.KeepsEntries (s.raiseForHole c i h a b) := .same (by simp) (by simp)

theorem State.makePending_keeps (p : PortId) (k : NoticeKind) : s.KeepsEntries (s.makePending p k) :=
  .same (by simp) (by simp)

theorem State.writeLog_keeps (i : Nat) (e : LogEvent) (a : Bool) :
    s.KeepsEntries (s.writeLog i e a) := .same (by simp) (by simp)

/-- A head in trouble is announced and its rail judged (R87, R101). -/
theorem State.judged_keeps (a b : HeadState) : s.KeepsEntries (s.judgeFreeze.noteTrouble a b) :=
  .same (by simp) (by simp)

theorem State.setLastHold_keeps (h : Slot) (i : Nat) (c : DevClass) :
    s.KeepsEntries (s.setLastHold h i c) := by
  rw [setLastHold_eq]
  exact .write (f := fun hd => { hd with lastHold := some ⟨i, c, s.clock⟩ }) rfl rfl
    (fun hd _ => (Head.KeepsEntry.refl h hd).lastHold _)

end

/-! ### The end of a grant (R78) -/

theorem State.setStatus_keeps (ht : s.MayTurn h st) : s.KeepsEntries (s.setStatus h st) := by
  rw [setStatus_eq]
  exact .write (f := fun hd => { hd with status := st }) rfl rfl ht

theorem State.endMoveGrant_keeps (ht : s.MayTurn h st) : s.KeepsEntries (s.endMoveGrant h st) := by
  rw [endMoveGrant_eq]
  exact .write (f := fun hd => { hd with status := st }) rfl rfl ht

theorem State.endHoleGrant_keeps (g : HoleGrant) (spent : Bool) (ht : s.MayTurn h st) :
    s.KeepsEntries (s.endHoleGrant h g spent st) := by
  rw [endHoleGrant_eq]
  exact .write (f := fun hd => { hd with status := st }) rfl rfl ht

theorem State.endWithHold_keeps (a : Head) (g : HoleGrant) (c : DevClass) (ht : s.MayTurn h st) :
    s.KeepsEntries (s.endWithHold h a g c st) := by
  have hend : (s.changeHole g.hole (fun x => x.hold a.kind.work c)).KeepsEntries _ :=
    endHoleGrant_keeps g false ht
  exact (hend.trans (writeLog_keeps ..)).trans (setLastHold_keeps ..)

/-- A raising for a head's hole, then the grant's end with the hole held (R15). -/
theorem State.raiseAndHold_keeps (a : Head) (g : HoleGrant) (c : DevClass) (x y : Int)
    (ht : s.MayTurn h st) :
    s.KeepsEntries ((s.raiseForHole c g.hole h x y).endWithHold h a g c st) :=
  (s.raiseForHole_keeps ..).trans (endWithHold_keeps a g c (ht.of_heads (by simp)))

theorem State.endWithReport_keeps (a : Head) (g : HoleGrant) (spent : Bool) (held : Option DevClass)
    (done : HoleState) (event : LogEvent) (ht : s.MayTurn h .idle) :
    s.KeepsEntries (s.endWithReport h a g spent held done event) := by
  have hend : ∀ f, s.KeepsEntries ((s.changeHole g.hole f).endHoleGrant h g spent .idle) := fun f =>
    endHoleGrant_keeps (s := s.changeHole g.hole f) g spent ht
  unfold endWithReport
  split
  · exact ((hend _).trans (writeLog_keeps ..)).trans (setLastHold_keeps ..)
  · have hlogged : s.KeepsEntries (((s.changeHole g.hole (fun x => x.goto done none)).endHoleGrant h g
        spent .idle).writeLog g.hole event false) := (hend _).trans (writeLog_keeps ..)
    simp only
    split
    · exact hlogged.trans (.same rfl rfl)
    · exact hlogged

/-! ### Thermal Unit -/

theorem State.raiseSubst_keeps (s : State) (ks : List Nat) : s.KeepsEntries (s.raiseSubst ks) :=
  .foldl (fun _ _ => .same (raiseUnbound_rails ..) (raiseUnbound_heads ..)) ks s

theorem State.changeSegments_keeps (s : State) (f : Segment → Segment) :
    s.KeepsEntries (s.changeSegments f) :=
  .trans (t := s.setThermal (settleSegments (s.thermal.map f))) (.same rfl rfl) (raiseSubst_keeps ..)

theorem State.expireHold_keeps (s : State) (k : Nat) : s.KeepsEntries (s.expireHold k) := by
  have hset : ∀ l, s.KeepsEntries (s.setThermal l) := fun _ => .same rfl rfl
  exact (hset (settleSegments (s.thermal.modify k _))).trans (raiseSubst_keeps ..)

theorem State.expireDueHolds_keeps (s : State) : s.KeepsEntries s.expireDueHolds := by
  refine .foldl (fun u k => ?_) _ s
  split
  · exact u.expireHold_keeps k
  · exact .refl u

/-! ### Clamp drops, edges and terminals (R80, R117, R150 to R152) -/

theorem State.judgeDrop_keeps (s : State) (bay : Nat) (h : Slot) : s.KeepsEntries (s.judgeDrop bay h) := by
  unfold judgeDrop
  split
  · exact .refl s
  · rename_i hd hh
    split
    · rename_i g hg
      split
      · simp only
        split
        · exact raiseForHole_keeps ..
        · exact (raiseAndHold_keeps hd g .clampLost g.bay 0 (mayTurn_idle hh hg)).trans
            (makePending_keeps ..)
      · exact .refl s
    · exact .refl s

theorem State.clampDrop_keeps (s : State) (bay : Nat) : s.KeepsEntries (s.clampDrop bay) :=
  .foldl (fun u h => u.judgeDrop_keeps bay h) _ s

theorem State.setPhase_keeps (s : State) (h : Slot) (phase : SetPhase) :
    s.KeepsEntries (s.setPhase h phase) := by
  unfold setPhase
  split
  · rename_i hd hh
    split
    · rename_i g hg
      refine .write (h := h) (f := fun hd => { hd with status := .work { g with phase := some phase } })
        rfl ?_ (fun a ha => ?_)
      · rw [setHead_heads, hh, Option.map_some]
      · obtain rfl := Option.some.inj (hh.symm.trans ha)
        exact Head.keepsEntry_phase hg _
    · exact .refl s
  · exact .refl s

theorem State.ramCapture_keeps (s : State) (h : Slot) : s.KeepsEntries (s.ramCapture h) := by
  unfold ramCapture
  split
  · split
    · split
      · exact s.setPhase_keeps h _
      · exact .refl s
    · exact .refl s
  · exact .refl s

theorem State.handOnEdge_keeps (s : State) (r : Terminal) (active : Bool) :
    s.KeepsEntries (s.handOnEdge r active) := by
  unfold handOnEdge
  split
  · split
    · exact .refl s
    · exact s.clampDrop_keeps _
  · split
    · exact s.ramCapture_keeps _
    · exact .refl s
  · exact .refl s

theorem State.latchEdge_keeps (s : State) (n : TermId) : s.KeepsEntries (s.latchEdge n) := by
  unfold latchEdge
  simp only
  split
  · have hterm : ∀ v, s.KeepsEntries (s.setTerminal n v) := fun _ => .same rfl rfl
    split
    · exact hterm _
    · exact (hterm _).trans (makePending_keeps ..)
  · exact .refl s

theorem State.acceptEdge_keeps (s : State) (n : TermId) (active : Bool) :
    s.KeepsEntries (s.acceptEdge n active) := by
  have hedge : s.KeepsEntries ((s.setTerminal n
      { s.terminals[n] with level := active, candidate := none }).handOnEdge s.terminals[n] active) :=
    .trans (t := s.setTerminal n _) (.same rfl rfl) (handOnEdge_keeps ..)
  unfold acceptEdge
  simp only
  split
  · exact hedge.trans (latchEdge_keeps ..)
  · exact hedge

theorem State.acceptCandidate_keeps (s : State) (n : TermId) : s.KeepsEntries (s.acceptCandidate n) := by
  unfold acceptCandidate
  split
  · exact s.acceptEdge_keeps n _
  · exact .refl s

theorem State.acceptDue_keeps (s : State) : s.KeepsEntries s.acceptDue := by
  refine .foldl (fun u n => ?_) _ s
  split
  · exact u.acceptCandidate_keeps n
  · exact .refl u

theorem State.judgeRaw_keeps (s : State) (n : TermId) (active : Bool) :
    s.KeepsEntries (s.judgeRaw n active) := by
  unfold judgeRaw
  simp only
  split
  · exact .same rfl rfl
  · split
    · exact .trans (t := s.setTerminal n _) (.same rfl rfl) (acceptEdge_keeps ..)
    · exact .same rfl rfl

theorem State.changePin_keeps (s : State) (n : TermId) (high : Bool) :
    s.KeepsEntries (s.changePin n high) := by
  have hpin : s.KeepsEntries (s.setPin n high) := .same rfl rfl
  unfold changePin
  simp only
  split
  · exact hpin.trans (judgeRaw_keeps ..)
  · exact hpin

theorem State.takeSample_keeps (s : State) (n : TermId) (code : ProbeCode) :
    s.KeepsEntries (s.takeSample n code) := by
  have hterm : ∀ v, s.KeepsEntries (s.setTerminal n v) := fun _ => .same rfl rfl
  unfold takeSample
  simp only
  split
  · split
    · exact (hterm _).trans (changeSegments_keeps ..)
    · exact hterm _
  · split
    · exact (hterm _).trans (changeSegments_keeps ..)
    · exact hterm _

theorem State.configure_keeps (s : State) (f : TermFields) : s.KeepsEntries (s.configure f) := by
  have hterm : ∀ v, s.KeepsEntries (s.setTerminal f.terminal v) := fun _ => .same rfl rfl
  unfold configure
  simp only
  refine (hterm (s.terminals[f.terminal].configured f s.pinHigh[f.terminal] s.clock)).trans ?_
  unfold leaveMode
  split
  · split
    · split
      · exact clampDrop_keeps ..
      · exact .refl _
    · exact .refl _
  · split
    · exact changeSegments_keeps ..
    · exact .refl _
  · exact .refl _

/-! ### The break, the timer expiry and the ports (R82, R86, R169, R170) -/

theorem State.linkBreak_keeps (s : State) (h : Slot) : s.KeepsEntries (s.linkBreak h) := by
  have ht := s.mayTurn_faulted h
  unfold linkBreak
  split
  · exact .refl s
  · simp only
    split
    · exact .refl s
    · exact .refl s
    · exact (raiseAndHold_keeps _ _ _ _ _ ht).trans (judged_keeps ..)
    · exact (raiseAndHold_keeps _ _ _ _ _ ht).trans (judged_keeps ..)
    · exact (endMoveGrant_keeps ht).trans (judged_keeps ..)
    · exact (setStatus_keeps ht).trans (judged_keeps ..)
    · exact (setStatus_keeps ht).trans (judged_keeps ..)

theorem State.setPort_keeps (s : State) (p : PortId) (q : Port) : s.KeepsEntries (s.setPort p q) :=
  .same rfl rfl

theorem State.setPin_keeps (s : State) (n : TermId) (high : Bool) : s.KeepsEntries (s.setPin n high) :=
  .same rfl rfl

/-- The level of a line is followed while RESET_N is low too. -/
theorem State.lineLevel_keeps (s : State) (p : PortId) (low : Bool) : s.KeepsEntries (s.lineLevel p low) :=
  s.setPort_keeps p _

theorem State.takeBreak_keeps (s : State) (p : PortId) : s.KeepsEntries (s.takeBreak p) := by
  have hport : s.KeepsEntries (s.setPort p s.ports[p].afterBreak) := s.setPort_keeps p _
  unfold takeBreak
  simp only
  split
  · exact hport.trans (linkBreak_keeps _ _)
  · exact hport

theorem State.expireTimer_keeps (s : State) (h : Slot) : s.KeepsEntries (s.expireTimer h) := by
  have ht := s.mayTurn_stale h
  unfold expireTimer
  split
  · exact .refl s
  · simp only
    split
    · exact ((raiseAndHold_keeps _ _ _ _ _ ht).trans (makePending_keeps ..)).trans (judged_keeps ..)
    · exact (endMoveGrant_keeps ht).trans (judged_keeps ..)

theorem State.receiveCharacter_keeps (s : State) (p : PortId) (mark : Bool) (data : Byte)
    (stopHigh : Bool) : s.KeepsEntries (s.receiveCharacter p mark data stopHigh) := by
  unfold receiveCharacter
  simp only
  split
  · exact .same (by simp) (by simp)
  · exact s.setPort_keeps p _

theorem State.tick_keeps (s : State) : s.KeepsEntries s.tick := by
  unfold tick
  split
  · exact .refl s
  · simp only
    split <;> exact .same rfl rfl

end Sys2Proof.Machine
end

section
/-! SUPPORT. The rules of the messages that leave the reservations as they are: no branch of a rule of the
Plan Store, the Heat Queue, the Deviation Unit, the Terminals or the parameters writes a rail, and a head that
ends its work or takes a rivet keeps its entry. -/

namespace Sys2Proof.Machine

variable (s : State)

/-! ### Heads (R72, R75 to R77) -/

theorem ruleProgress_keeps (h : Slot) : s.KeepsEntries (ruleProgress h s).1 := by
  unfold ruleProgress
  repeat' split
  all_goals exact .same rfl rfl

theorem ruleAbandon_keeps (h : Slot) : s.KeepsEntries (ruleAbandon h s).1 := by
  have hnote : ∀ (u : State) (a b : HeadState), u.KeepsEntries (u.noteTrouble a b) :=
    fun _ _ _ => .same (by simp) (by simp)
  have hend : ∀ (hd : Head) (g : HoleGrant) (st : HeadStatus), s.MayTurn h st →
      s.KeepsEntries (s.abandonHole h hd g st) := fun hd g st ht =>
    State.endHoleGrant_keeps (s := s.changeHole g.hole (fun x => x.goto hd.kind.returned none)) g false ht
  unfold ruleAbandon
  split
  · exact .refl s
  · rename_i hd hh
    split
    · rename_i g hg
      exact (hend hd g .halted (State.mayTurn_halted hh (.inl ⟨g, hg⟩))).trans (hnote ..)
    · rename_i g hg
      exact (State.endMoveGrant_keeps (State.mayTurn_halted hh (.inr ⟨g, hg⟩))).trans (hnote ..)
    · rename_i g hg
      exact hend hd g .idle (State.mayTurn_idle hh hg)
    · exact .refl s

theorem State.raiseIf_keeps {p : Prop} [Decidable p] (c : DevClass) (i : Nat) (h : Slot) (a b : Int) :
    s.KeepsEntries (if p then s.raiseForHole c i h a b else s) := by
  split
  · exact raiseForHole_keeps ..
  · exact .refl s

/-- A state reached without a change of a head lets a head take the statuses it could before. -/
theorem State.MayTurn.raiseIf {u : State} {p : Prop} [Decidable p] {h : Slot} {st : HeadStatus}
    (ht : u.MayTurn h st) (c : DevClass) (i : Nat) (h' : Slot) (a b : Int) :
    (if p then u.raiseForHole c i h' a b else u).MayTurn h st := by
  split
  · exact ht.of_heads (by simp)
  · exact ht

theorem State.drillReport_keeps {h : Slot} (hd : Head) (g : HoleGrant) (hole : Hole) (d k : Nat)
    (ht : s.MayTurn h .idle) : s.KeepsEntries (s.drillReport h hd g hole d k).1 := by
  have hwrite : ∀ f, s.KeepsEntries (s.changeHole g.hole f) := fun _ => .same rfl rfl
  have hturn : ∀ f, (s.changeHole g.hole f).MayTurn h .idle := fun _ => ht
  unfold drillReport
  exact (((hwrite _).trans (raiseIf_keeps ..)).trans (raiseIf_keeps ..)).trans
    (endWithReport_keeps _ _ _ _ _ _ (((hturn _).raiseIf _ _ _ _ _).raiseIf _ _ _ _ _))

theorem ruleDrillDone_keeps (h : Slot) (b : List Byte) : s.KeepsEntries (ruleDrillDone h b s).1 := by
  unfold ruleDrillDone
  split
  · exact .refl s
  · rename_i hd hh
    split
    · rename_i g hg
      split_ifs
      · exact .refl s
      · exact .refl s
      · split
        · exact .refl s
        · exact s.drillReport_keeps hd g _ _ _ (State.mayTurn_idle hh hg)
    · exact .refl s

theorem State.setReport_keeps {h : Slot} (hd : Head) (g : HoleGrant) (r : Rivet) (ram : Option Nat)
    (ht : s.MayTurn h .idle) : s.KeepsEntries (s.setReport h hd g r ram).1 := by
  have hwrite : ∀ f, s.KeepsEntries (s.changeHole g.hole f) := fun _ => .same rfl rfl
  have hturn : ∀ f, (s.changeHole g.hole f).MayTurn h .idle := fun _ => ht
  have hraised : ∀ f c a b, ((s.changeHole g.hole f).raiseForHole c g.hole h a b).MayTurn h .idle :=
    fun _ _ _ _ => ht.of_heads (by simp)
  unfold setReport
  cases ram with
  | none =>
    exact ((hwrite _).trans (raiseForHole_keeps ..)).trans (endWithReport_keeps _ _ _ _ _ _ (hraised _ _ _ _))
  | some a =>
    by_cases hcold : s.budgetMs r.cls < a
    · simp only [if_pos hcold]
      exact ((hwrite _).trans (raiseForHole_keeps ..)).trans
        (endWithReport_keeps _ _ _ _ _ _ (hraised _ _ _ _))
    · simp only [if_neg hcold]
      exact (hwrite _).trans (endWithReport_keeps _ _ _ _ _ _ (hturn _))

theorem ruleSetDone_keeps (h : Slot) : s.KeepsEntries (ruleSetDone h s).1 := by
  unfold ruleSetDone
  split
  · exact .refl s
  · rename_i hd hh
    split
    · rename_i g hg
      have ht := State.mayTurn_idle hh hg
      split
      · exact .refl s
      · split
        · exact s.setReport_keeps hd g _ _ ht
        · exact s.setReport_keeps hd g _ _ ht
        · exact .refl s
    · exact .refl s

theorem State.holdAtLimit_keeps (h : Slot) (hd : Head) (c : Eligible) :
    s.KeepsEntries (s.holdAtLimit h hd c).1 := by
  have hwrite : ∀ f, s.KeepsEntries (s.changeHole c.index f) := fun _ => .same rfl rfl
  exact ((hwrite _).trans (writeLog_keeps ..)).trans (setLastHold_keeps ..)

/-! ### Heat Queue (R106 to R114) -/

theorem State.setHeat_keeps (q : HeatQueue) : s.KeepsEntries (s.setHeat q) := .same rfl rfl

theorem State.expireClass_keeps (c : RivetClass) : s.KeepsEntries (s.expireClass c) :=
  .foldl (f := fun acc v => acc.setHeat (acc.heat.expire v)) (fun _ _ => .same rfl rfl) _ s

theorem ruleFeed_keeps (h : Slot) : s.KeepsEntries (ruleFeed h s).1 := by
  unfold ruleFeed
  split
  · exact .refl s
  · split
    · split_ifs
      · exact .refl s
      · exact .refl s
      · split
        · exact .refl s
        · unfold State.feedHead
          split <;> exact (s.setHeat_keeps _).trans (State.setPhase_keeps ..)
    · exact .refl s

theorem State.handOver_keeps (h : Slot) (r : Rivet) : s.KeepsEntries (s.handOver h r) := by
  have hend : ∀ (u : State) (n : Nat),
      u.KeepsEntries ((u.startTimer h .work n).makePending (headPort h) .feedGiven) :=
    fun _ _ => .same (by simp) (by simp)
  exact ((s.setHeat_keeps _).trans (setPhase_keeps ..)).trans (hend ..)

theorem ruleRivetOut_keeps (b : List Byte) : s.KeepsEntries (ruleRivetOut b s).1 := by
  unfold ruleRivetOut
  simp only
  split
  · exact .refl s
  · split
    · exact .refl s
    · split_ifs
      · exact .refl s
      · exact .same (by simp [State.rejectTemp]) (by simp [State.rejectTemp])
      · unfold State.placeRivet
        simp only
        split
        · exact s.handOver_keeps _ _
        · split_ifs <;> exact s.setHeat_keeps _

/-! ### Plan Store (Chapter 1) -/

theorem rulePlanBegin_keeps (b : List Byte) : s.KeepsEntries (rulePlanBegin b s).1 := by
  unfold rulePlanBegin
  split_ifs <;> exact .same rfl rfl

theorem rulePlanSegment_keeps (b : List Byte) : s.KeepsEntries (rulePlanSegment b s).1 := by
  unfold rulePlanSegment
  simp only
  repeat' split
  all_goals exact .same rfl rfl

theorem rulePlanBay_keeps (b : List Byte) : s.KeepsEntries (rulePlanBay b s).1 := by
  unfold rulePlanBay
  simp only
  repeat' split
  all_goals exact .same rfl rfl

theorem rulePlanHole_keeps (b : List Byte) : s.KeepsEntries (rulePlanHole b s).1 := by
  unfold rulePlanHole
  repeat' split
  all_goals exact .same rfl rfl

theorem rulePlanSeal_keeps : s.KeepsEntries (rulePlanSeal s).1 := by
  have htake : ∀ (p : PlanStore) (l : List Segment), s.KeepsEntries ((s.setPlan p).setThermal l) :=
    fun _ _ => .same rfl rfl
  unfold rulePlanSeal
  split
  · exact .refl s
  · split
    · exact .refl s
    · exact (htake _ _).trans (State.raiseSubst_keeps ..)

theorem rulePlanAbort_keeps : s.KeepsEntries (rulePlanAbort s).1 := by
  unfold rulePlanAbort
  split <;> exact .same rfl rfl

theorem rulePlanRead_keeps (b : List Byte) : s.KeepsEntries (rulePlanRead b s).1 := by
  unfold rulePlanRead
  split_ifs <;> exact .refl s

theorem ruleDatum_keeps (b : List Byte) : s.KeepsEntries (ruleDatum b s).1 := by
  unfold ruleDatum
  split_ifs <;> exact .same rfl rfl

theorem ruleHoleReleaseRedo_keeps (b : List Byte) : s.KeepsEntries (ruleHoleReleaseRedo b s).1 := by
  unfold ruleHoleReleaseRedo
  repeat' split
  all_goals exact .same rfl rfl

theorem State.acceptHole_keeps (i : Nat) (x : Hole) (event : LogEvent) :
    s.KeepsEntries (s.acceptHole i x event) := by
  unfold acceptHole
  simp only
  split
  · exact .same (by simp) (by simp)
  · exact .same (by simp) (by simp)

theorem ruleHoleReleaseAccept_keeps (b : List Byte) : s.KeepsEntries (ruleHoleReleaseAccept b s).1 := by
  unfold ruleHoleReleaseAccept
  repeat' split
  any_goals exact .refl s
  exact s.acceptHole_keeps ..

theorem ruleHoleExcuse_keeps (b : List Byte) : s.KeepsEntries (ruleHoleExcuse b s).1 := by
  have hend : s.KeepsEntries (s.excuseHole (u16At b 0)) :=
    .same (by simp [State.excuseHole]) (by simp [State.excuseHole])
  unfold ruleHoleExcuse
  repeat' split
  any_goals exact .refl s
  exact hend

theorem ruleFrameEnd_keeps : s.KeepsEntries (ruleFrameEnd s).1 := by
  unfold ruleFrameEnd
  split_ifs <;> exact .same rfl rfl

/-! ### Deviation Unit, Completion Log, Terminals and queries -/

theorem ruleDevMode_keeps (b : List Byte) : s.KeepsEntries (ruleDevMode b s).1 := by
  unfold ruleDevMode
  repeat' split
  all_goals exact .same rfl rfl

theorem ruleDevClear_keeps (b : List Byte) : s.KeepsEntries (ruleDevClear b s).1 := by
  unfold ruleDevClear
  split <;> exact .same rfl rfl

theorem ruleLogRead_keeps (b : List Byte) : s.KeepsEntries (ruleLogRead b s).1 := by
  unfold ruleLogRead
  simp only
  split <;> exact .same rfl rfl

theorem ruleGetParam_keeps (b : List Byte) : s.KeepsEntries (ruleGetParam b s).1 := by
  unfold ruleGetParam
  split <;> exact .refl s

theorem ruleLineQuery_keeps (b : List Byte) : s.KeepsEntries (ruleLineQuery b s).1 := by
  unfold ruleLineQuery
  split <;> exact .refl s

theorem ruleTermConfig_keeps (b : List Byte) : s.KeepsEntries (ruleTermConfig b s).1 := by
  unfold ruleTermConfig
  split
  · exact .refl s
  · split_ifs
    · exact .refl s
    · exact .refl s
    · exact .refl s
    · exact s.configure_keeps _

theorem ruleTermWrite_keeps (b : List Byte) : s.KeepsEntries (ruleTermWrite b s).1 := by
  unfold ruleTermWrite
  split <;> exact .same rfl rfl

theorem ruleTermAck_keeps (b : List Byte) : s.KeepsEntries (ruleTermAck b s).1 := by
  unfold ruleTermAck
  split
  · exact .refl s
  · exact .foldl (f := fun acc n => acc.setTerminal n { acc.terminals[n] with pending := false })
      (fun _ _ => .same rfl rfl) _ s

theorem ruleTermRead_keeps (b : List Byte) : s.KeepsEntries (ruleTermRead b s).1 := by
  unfold ruleTermRead
  split <;> exact .refl s

/-! ### Writes of a parameter (R178) -/

theorem State.setParams_keeps (q : Params) : s.KeepsEntries (s.setParams q) := .same rfl rfl

theorem State.writeParam_keeps (b : List Byte) {effect : Nat → State}
    (he : ∀ v, s.KeepsEntries (effect v)) : s.KeepsEntries (s.writeParam b effect).1 := by
  unfold writeParam
  split
  · exact .refl s
  · exact he _

theorem ruleSetParam_keeps (b : List Byte) : s.KeepsEntries (ruleSetParam b s).1 :=
  s.writeParam_keeps b (fun _ => s.setParams_keeps _)

theorem ruleSetProbeHold_keeps (b : List Byte) : s.KeepsEntries (ruleSetProbeHold b s).1 :=
  s.writeParam_keeps b (fun _ => (s.setParams_keeps _).trans (State.expireDueHolds_keeps _))

theorem ruleSetStaleAction_keeps (b : List Byte) : s.KeepsEntries (ruleSetStaleAction b s).1 :=
  s.writeParam_keeps b (fun _ => .same rfl rfl)

theorem ruleSetHeatMin_keeps (b : List Byte) : s.KeepsEntries (ruleSetHeatMin b s).1 :=
  s.writeParam_keeps b (fun _ => s.setParams_keeps _)

theorem ruleSetHeatMax_keeps (b : List Byte) : s.KeepsEntries (ruleSetHeatMax b s).1 :=
  s.writeParam_keeps b (fun _ => s.setParams_keeps _)

theorem ruleSetBudget_keeps (b : List Byte) : s.KeepsEntries (ruleSetBudget b s).1 :=
  s.writeParam_keeps b (fun _ => (s.setParams_keeps _).trans (State.expireClass_keeps _ _))

theorem ruleSetDebounceMs_keeps (b : List Byte) : s.KeepsEntries (ruleSetDebounceMs b s).1 :=
  s.writeParam_keeps b (fun _ => (s.setParams_keeps _).trans (State.acceptDue_keeps _))

end Sys2Proof.Machine
end

section
/-! SUPPORT. What the messages that place and remove reservations do: ATTACH, DETACH, HEAD_EVICT, HALT_AT,
HEAD_RECOVER and the fences (R48, R54 to R58, R64, R83 to R85). -/

namespace Sys2Proof.Machine

variable {s : State} {h : Slot} {hd : Head} {b : List Byte}

/-! ### ATTACH (R48, R64) -/

/-- ATTACH of a DETACHED slot with its fields in range comes to the overlap test (R64). -/
theorem ruleAttach_detached {kind : HeadKind} {rail : Rail} (hh : s.heads[h] = none)
    (hkind : headKindOfCode (u8At b 0) = some kind) (hrail : railOfCode (u8At b 1) = some rail)
    (hx : inJig (i32At b 2) = true) : ruleAttach h b s = s.attachHead h kind rail (i32At b 2) := by
  simp only [ruleAttach, hh, hkind, hrail, hx, if_true]

theorem State.attachHead_clear {kind : HeadKind} {rail : Rail} {x c : Int}
    (hclearance : (clearanceFor s.params kind : Int) = c)
    (hc : conflict (s.rails.list rail) (.head h) (footprint h c x).lo (footprint h c x).hi = none) :
    s.attachHead h kind rail x = ((s.placeOn rail (footprint h c x)).setHead h
      (some ⟨kind, rail, c, x, .idle, none⟩), ⟨.ok, 0, .clearance c⟩) := by
  subst hclearance
  unfold attachHead
  simp only [show ∀ c, (footprint h c x).owner = .head h from fun _ => rfl, hc]

theorem State.attachHead_blocked {kind : HeadKind} {rail : Rail} {x c : Int} {w : Owner}
    (hclearance : (clearanceFor s.params kind : Int) = c)
    (hc : conflict (s.rails.list rail) (.head h) (footprint h c x).lo (footprint h c x).hi = some w) :
    s.attachHead h kind rail x = (s, ⟨.overlap, 0, .blockedBy w⟩) := by
  subst hclearance
  unfold attachHead
  simp only [show ∀ c, (footprint h c x).owner = .head h from fun _ => rfl, hc]
  rfl

/-- Settles O23: the rule places the footprint when the overlap test finds it clear, and names the owner it
finds else. -/
theorem attachPlacesTheFootprint : Obligations.AttachPlacesTheFootprint := by
  intro h b s kind rail hready hl hh hkind hrail h0 h1 c e
  have hclearance : (clearanceFor s.params kind : Int) = c := by cases kind <;> rfl
  have hrule := ruleAttach_detached (s := s.dequeued (headPort h)) hh hkind hrail (inJig_iff.2 ⟨h0, h1⟩)
  refine ⟨fun hfree => ?_, fun w hw => ?_⟩
  · have hclear : conflict (s.rails.list rail) (.head h) e.lo e.hi = none :=
      conflict_eq_none.2 fun f hf hne hov => by
        have := hfree f hf hne
        omega
    exact head_answered (n := 6) hready (by decide) hl
      (hrule.trans (State.attachHead_clear hclearance hclear)) rfl
  · exact head_answered (n := 6) (s' := s.dequeued (headPort h)) hready (by decide) hl
      (hrule.trans (State.attachHead_blocked hclearance hw)) rfl

/-! ### The freeze and the HEAD_STATE notice (R87, R100, R101) -/

theorem State.freezingSlots_nonempty (s : State) (r : Rail) :
    (!(s.freezingSlots r).isEmpty) = troubledOn s.heads r := by
  have hfreezes : ∀ hd : Head, hd.status.freezes = (hd.status == .stale || hd.status == .faulted) :=
    fun hd => by cases hd.status <;> rfl
  rw [Bool.eq_iff_iff, troubledOn, any_heads_iff, Bool.not_eq_true', List.isEmpty_eq_false_iff_exists_mem]
  refine exists_congr fun h => ?_
  rw [freezingSlots, List.mem_filter]
  cases s.heads[h] <;> simp [indices, hfreezes]

/-- A judged state has its rails frozen as R100 says. -/
theorem State.freezeFits_judgeFreeze (s : State) : s.judgeFreeze.freezeFits := by
  constructor
  · exact congrArg (s.params.staleFreeze && ·) (s.freezingSlots_nonempty .A)
  · exact congrArg (s.params.staleFreeze && ·) (s.freezingSlots_nonempty .B)

theorem HeadStatus.inTrouble_iff {st : HeadStatus} :
    st.inTrouble = true ↔ st = .halted ∨ st = .stale ∨ st = .faulted := by
  cases st <;> simp [inTrouble]

/-- A head that leaves its trouble is announced on P8 (R87). -/
theorem State.noteTrouble_leaving (s : State) {after : HeadState} (ht : hd.status.inTrouble = true)
    (ha : after = .idle ∨ after = .detached) :
    s.noteTrouble (headStateOf (some hd)) after = s.makePending supervisorPort .headState := by
  rcases HeadStatus.inTrouble_iff.1 ht with e | e | e <;> rcases ha with rfl | rfl <;>
    simp [noteTrouble, headStateOf, e]

/-! ### DETACH and HEAD_EVICT (R56, R64, R85) -/

theorem ruleDetach_idle (hh : s.heads[h] = some hd) (hst : hd.status = .idle) :
    ruleDetach h s = (s.detachHead h hd.rail, ⟨.ok, 0, .none⟩) := by
  simp only [ruleDetach, hh, hst]
  rfl

theorem ruleHeadEvict_trouble (hb : u8At b 0 = h.val) (hh : s.heads[h] = some hd)
    (ht : hd.status.inTrouble = true) : ruleHeadEvict b s
      = ((s.detachHead h hd.rail).judgeFreeze.makePending supervisorPort .headState, ⟨.ok, 0, .none⟩) := by
  simp only [ruleHeadEvict, indexAt_of_eq hb, hh, ht, Bool.not_true, Bool.false_eq_true, if_false,
    State.noteTrouble_leaving _ ht (.inr rfl)]
  rfl

/-! ### A reply beside a change of the pending sets (R172, R173) -/

/-- Changes of two ports, or two changes of one that do not depend on each other, may be made in either
order. -/
theorem ports_set_comm (v : Vector Port 10) (p q : PortId) {f g : Port → Port}
    (hfg : ∀ x, f (g x) = g (f x)) : (v.set q (g v[q])).set p (f (v.set q (g v[q]))[p])
      = (v.set p (f v[p])).set q (g (v.set p (f v[p]))[q]) := by
  by_cases e : p = q
  · subst e
    simp [hfg]
  · have hpq : p.val ≠ q.val := fun h => e (Fin.ext h)
    simp only [Fin.getElem_fin, Vector.getElem_set_ne _ _ hpq, Vector.getElem_set_ne _ _ hpq.symm]
    exact Vector.set_comm _ _ hpq.symm

theorem State.appendReply_clearPending (s : State) (p q : PortId) (k : NoticeKind) (kind : Byte)
    (r : Reply) :
    (s.clearPending q k).appendReply p kind r = (s.appendReply p kind r).clearPending q k :=
  congrArg (fun v => { s with ports := v }) (ports_set_comm s.ports p q
    (f := fun x => { x with transmitQueue := x.transmitQueue ++ [.reply kind r] })
    (g := fun x => { x with notices := x.notices.filter (fun n => !(n == k)) }) (fun _ => rfl))

theorem State.appendReply_makePending (s : State) (p q : PortId) (k : NoticeKind) (kind : Byte)
    (r : Reply) :
    (s.makePending q k).appendReply p kind r = (s.appendReply p kind r).makePending q k := by
  rw [makePending_eq, makePending_eq]
  exact congrArg (fun v => { s with ports := v }) (ports_set_comm s.ports p q
    (f := fun x => { x with transmitQueue := x.transmitQueue ++ [.reply kind r] })
    (g := fun x => { x with notices := if k ∈ x.notices then x.notices else x.notices ++ [k] })
    (fun _ => rfl))

theorem State.appendReply_ports {u : State} {p : PortId} (hu : u.ports = (s.dequeued p).ports)
    (kind : Byte) (r : Reply) : (u.appendReply p kind r).ports = repliedPorts s.ports p kind r := by
  simp [appendReply, setPort, hu, dequeued, repliedPorts, Port.dequeue]

theorem State.settled_clearPending (hs : s.settled) (q : PortId) (k : NoticeKind) :
    (s.clearPending q k).settled := by
  intro p
  have hp := hs p
  by_cases e : q = p
  · subst e
    simp only [clearPending, setPort, Fin.getElem_fin, Vector.getElem_set_self] at hp ⊢
    intro ht
    rw [hp ht]
    rfl
  · have hqp : q.val ≠ p.val := fun h => e (Fin.ext h)
    simpa [clearPending, setPort, hqp] using hp

theorem State.settled_makePending (hs : s.settled) {q : PortId} (hq : s.ports[q].transmitQueue ≠ [])
    (k : NoticeKind) : (s.makePending q k).settled := by
  rw [makePending_eq]
  intro p
  by_cases e : q = p
  · subst e
    simp only [pendedPorts, Fin.getElem_fin, Vector.getElem_set_self] at hq ⊢
    exact fun ht => absurd ht hq
  · rw [pendedPorts_other _ _ (Ne.symm e)]
    exact hs p

theorem unpendedPorts_other (v : Vector Port 10) {p q : PortId} (k : NoticeKind) (hq : q ≠ p) :
    (unpendedPorts v p k)[q] = v[q] := by
  have : p.val ≠ q.val := fun e => hq (Fin.ext e.symm)
  simp [unpendedPorts, this]

/-- A taking that leaves every port settled is the rule's result with its reply. -/
theorem takeMessage_settled {rule : State → Taken} {s' : State} {p : PortId} {kind : Byte} {r : Reply}
    (ht : s.takes p ⟨kind, b⟩ = true) (hk : kindKnown p kind = true)
    (hl : lengthFits p kind b = true) (hr : rule (s.dequeued p) = (s', r))
    (hs : (s'.appendReply p kind r).settled) :
    takeMessage p kind b rule s = .next (s'.appendReply p kind r) := by
  rw [takeMessage_ruled ht hk hl hr, State.sendNotices_of_settled hs]

/-- Settles O25: each message frees the slot, and takes away the HOLD notice beside its reply. -/
theorem detachAndEvictFreeTheSlot : Obligations.DetachAndEvictFreeTheSlot := by
  constructor
  · intro h s hd hready hh hst
    let u := ((s.dequeued (headPort h)).removeEntry hd.rail h).setHead h none
    have hrule : ruleDetach h (s.dequeued (headPort h)) = (u.clearPending (headPort h) .hold, _) :=
      ruleDetach_idle (s := s.dequeued (headPort h)) hh hst
    have hports := State.appendReply_ports (u := u) rfl kindDetach ⟨.ok, 0, .none⟩
    have hsettled := State.settled_clearPending (settled_replied hready.2 _ _ _ hports) (headPort h) .hold
    have hnext := takeMessage_settled hready.1 (kindKnown_head h (by decide))
      (lengthFits_head h (n := 0) (by decide) rfl) hrule
      (by rw [State.appendReply_clearPending]; exact hsettled)
    rw [State.appendReply_clearPending, State.clearPending_eq, hports] at hnext
    exact hnext
  · intro h b s hd hready hl hb hh hst
    let u := ((s.dequeued supervisorPort).removeEntry hd.rail h).setHead h none
    have hrule : ruleHeadEvict b (s.dequeued supervisorPort)
        = ((u.clearPending (headPort h) .hold).judgeFreeze.makePending supervisorPort .headState, _) :=
      ruleHeadEvict_trouble (s := s.dequeued supervisorPort) hb hh (HeadStatus.inTrouble_iff.2 hst)
    let w := u.judgeFreeze.appendReply supervisorPort kindHeadEvict ⟨.ok, 0, .none⟩
    have hports : w.ports = repliedPorts s.ports supervisorPort kindHeadEvict ⟨.ok, 0, .none⟩ :=
      State.appendReply_ports (u := u.judgeFreeze) rfl _ _
    have hreply : ((u.clearPending (headPort h) .hold).judgeFreeze.makePending supervisorPort
          .headState).appendReply supervisorPort kindHeadEvict ⟨.ok, 0, .none⟩
        = (w.clearPending (headPort h) .hold).makePending supervisorPort .headState := by
      rw [State.appendReply_makePending]
      exact congrArg (fun x => State.makePending x supervisorPort .headState)
        (State.appendReply_clearPending u.judgeFreeze ..)
    have hqueue : (w.clearPending (headPort h) .hold).ports[supervisorPort].transmitQueue ≠ [] := by
      rw [State.clearPending_eq, unpendedPorts_other _ _ (headPort_ne_supervisorPort h).symm, hports,
        Fin.getElem_fin, repliedPorts_self]
      simp
    have hsettled := State.settled_makePending (State.settled_clearPending
      (settled_replied hready.2 _ _ _ hports) (headPort h) .hold) hqueue .headState
    have hnext := takeMessage_settled hready.1 (kindKnown_supervisor (n := 1) (by decide))
      (lengthFits_supervisor (n := 1) (by decide) hl) hrule (by rw [hreply]; exact hsettled)
    rw [hreply, State.makePending_eq, State.clearPending_eq, hports] at hnext
    have hframe : w = { s with heads := w.heads, rails := w.rails, ports := w.ports,
                               freezeA := w.freezeA, freezeB := w.freezeB } := rfl
    refine ⟨_, hnext, rfl, rfl, u.freezeFits_judgeFreeze, rfl, ?_⟩
    clear_value w
    rw [hframe]

/-! ### HALT_AT and HEAD_RECOVER (R54, R55, R83, R84) -/

theorem State.spanContains_iff {e : Entry} {lo hi x : Int} (he : s.rails.entryOf hd.rail h = some e)
    (hspan : e.span = some (lo, hi)) : s.spanContains h hd x = true ↔ lo ≤ x ∧ x ≤ hi := by
  simp [spanContains, he, hspan]

theorem ruleHaltAt_within (hh : s.heads[h] = some hd) (hst : hd.status = .halted ∨ hd.status = .stale)
    (hspan : s.spanContains h hd (i32At b 0) = true) :
    ruleHaltAt h b s = (s.putDown h hd (i32At b 0), ⟨.ok, 0, .none⟩) := by
  simp only [ruleHaltAt, hh, if_pos hst, hspan, if_true]
  rfl

theorem ruleHaltAt_outside (hh : s.heads[h] = some hd) (hst : hd.status = .halted ∨ hd.status = .stale)
    (hspan : s.spanContains h hd (i32At b 0) = false) :
    ruleHaltAt h b s = (s, ⟨.badField, 0, .none⟩) := by
  simp only [ruleHaltAt, hh, if_pos hst, hspan, Bool.false_eq_true, if_false]
  exact refuse_eq (by decide) _ _

theorem ruleHeadRecover_clear (hb : u8At b 0 = h.val) (hx : inJig (i32At b 1) = true)
    (hh : s.heads[h] = some hd) (ht : hd.status.inTrouble = true)
    (hc : conflict (s.rails.list hd.rail) (.head h) (footprint h hd.clearance (i32At b 1)).lo
      (footprint h hd.clearance (i32At b 1)).hi = none) :
    ruleHeadRecover b s = (s.putDown h hd (i32At b 1), ⟨.ok, 0, .none⟩) := by
  simp only [ruleHeadRecover, indexAt_of_eq hb, hx, if_true, State.recoverHead, hh, ht, Bool.not_true,
    Bool.false_eq_true, if_false]
  rw [show (footprint h hd.clearance (i32At b 1)).owner = .head h from rfl, hc]
  rfl

/-- A head in trouble is put down: the freeze is judged and HEAD_STATE made pending (R87, R101). -/
theorem State.putDown_eq (s : State) (x : Int) (ht : hd.status.inTrouble = true) :
    s.putDown h hd x
      = ((s.standAt h hd x .idle).judgeFreeze).makePending supervisorPort .headState :=
  State.noteTrouble_leaving _ ht (.inl rfl)

/-- A message that puts a head in trouble down is answered OK. -/
theorem putDown_answered {rule : State → Taken} {p : PortId} {kind : Byte} {x : Int}
    (ht : s.takes p ⟨kind, b⟩ = true) (hk : kindKnown p kind = true) (hl : lengthFits p kind b = true)
    (htrouble : hd.status.inTrouble = true)
    (hr : rule (s.dequeued p) = ((s.dequeued p).putDown h hd x, ⟨.ok, 0, .none⟩)) :
    ∃ t : State, takeMessage p kind b rule s = .next t
      ∧ t.heads = s.heads.set h (some { hd with position := x, status := .idle })
      ∧ t.rails = s.rails.setList hd.rail
          (placeEntry (footprint h hd.clearance x) (s.rails.list hd.rail))
      ∧ t.freezeFits ∧ t.announced supervisorPort .headState
      ∧ AnsweredAt s t p kind ⟨.ok, 0, .none⟩
      ∧ t = { s with heads := t.heads, rails := t.rails, ports := t.ports,
                     freezeA := t.freezeA, freezeB := t.freezeB } := by
  let u := ((s.dequeued p).standAt h hd x .idle).judgeFreeze
  have hnoted := u.makePending_announced supervisorPort .headState
  rw [State.putDown_eq _ _ htrouble] at hr
  rw [State.makePending_eq] at hr hnoted
  obtain ⟨w, hnext, hans, -, hann⟩ := message_answered ht hk hl hr (onlyPending_pended _ _ _)
  exact ⟨_, hnext, rfl, rfl, State.freezeFits_judgeFreeze _, hann _ _ hnoted, hans, rfl⟩

/-- Settles O26: HALT_AT by the span of the entry, HEAD_RECOVER by the overlap test. -/
theorem troubledHeadIsPutDown : Obligations.TroubledHeadIsPutDown := by
  constructor
  · intro h b s hd e lo hi hready hl hh hst he hspan
    have hiff := State.spanContains_iff (s := s.dequeued (headPort h)) (x := i32At b 0) he hspan
    refine ⟨fun hlo hhi => ?_, fun hout => ?_⟩
    · exact putDown_answered hready.1 (kindKnown_head h (by decide))
        (lengthFits_head h (n := 4) (by decide) hl) (HeadStatus.inTrouble_iff.2 (hst.imp_right .inl))
        (ruleHaltAt_within (s := s.dequeued (headPort h)) hh hst (hiff.2 ⟨hlo, hhi⟩))
    · have hspan : (s.dequeued (headPort h)).spanContains h hd (i32At b 0) = false := by
        rw [← Bool.not_eq_true, hiff]
        omega
      exact head_answered (n := 4) (s' := s.dequeued (headPort h)) hready (by decide) hl
        (ruleHaltAt_outside hh hst hspan) rfl
  · intro h b s hd hready hl hb h0 h1 hh hst hc
    have ht := HeadStatus.inTrouble_iff.2 hst
    exact putDown_answered hready.1 (kindKnown_supervisor (n := 5) (by decide))
      (lengthFits_supervisor (n := 5) (by decide) hl) ht
      (ruleHeadRecover_clear (s := s.dequeued supervisorPort) hb (inJig_iff.2 ⟨h0, h1⟩) hh ht hc)

/-! ### The fences (R58) -/

/-- After FENCE_SET a rail the fence covers has its new entry, and the other has none of it. -/
theorem RailMap.list_setFence (m : RailMap) (id : FenceId) (rails : FenceRails) (lo hi : Int) (r : Rail) :
    (m.setFence id rails lo hi).list r = if r ∈ rails.rails then
        placeEntry (fenceEntry id lo hi) (m.list r) else removeOwner (.fence id) (m.list r) := by
  cases rails <;> cases r <;> rfl

theorem RailMap.fences_setFence (m : RailMap) (id : FenceId) (rails : FenceRails) (lo hi : Int) :
    (m.setFence id rails lo hi).fences = m.fences.set id (some ⟨rails, lo, hi⟩) := by
  cases rails <;> rfl

theorem RailMap.list_clearFence (m : RailMap) (id : FenceId) (r : Rail) :
    (m.clearFence id).list r = removeOwner (.fence id) (m.list r) := by cases r <;> rfl

theorem RailMap.fenceConflict_eq_none {m : RailMap} {id : FenceId} {lo hi : Int} {rails : List Rail} :
    m.fenceConflict id lo hi rails = none
      ↔ ∀ r ∈ rails, conflict (m.list r) (.fence id) lo hi = none := List.findSome?_eq_none_iff

theorem FenceRails.mem_rails_A {rails : FenceRails} : Rail.A ∈ rails.rails ↔ rails ≠ .onlyB := by
  cases rails <;> simp [FenceRails.rails]

theorem FenceRails.mem_rails_B {rails : FenceRails} : Rail.B ∈ rails.rails ↔ rails ≠ .onlyA := by
  cases rails <;> simp [FenceRails.rails]

/-- A conflict on rail A is the first that FENCE_SET finds (R58, check 2). -/
theorem RailMap.fenceConflict_onA {m : RailMap} {id : FenceId} {lo hi : Int} {rails : FenceRails}
    {w : Owner} (hA : rails ≠ .onlyB) (hw : conflict m.listA (.fence id) lo hi = some w) :
    m.fenceConflict id lo hi rails.rails = some w := by
  cases rails with
  | onlyA => simp [fenceConflict, FenceRails.rails, RailMap.list, hw]
  | onlyB => exact absurd rfl hA
  | both => simp [fenceConflict, FenceRails.rails, RailMap.list, hw]

/-- A conflict on rail B is found where rail A is clear or not covered (R58, check 2). -/
theorem RailMap.fenceConflict_onB {m : RailMap} {id : FenceId} {lo hi : Int} {rails : FenceRails}
    {w : Owner} (hA : rails ≠ .onlyB → conflict m.listA (.fence id) lo hi = none)
    (hB : rails ≠ .onlyA) (hw : conflict m.listB (.fence id) lo hi = some w) :
    m.fenceConflict id lo hi rails.rails = some w := by
  cases rails with
  | onlyA => exact absurd rfl hB
  | onlyB => simp [fenceConflict, FenceRails.rails, RailMap.list, hw]
  | both => simp [fenceConflict, FenceRails.rails, RailMap.list, hA (by simp), hw]

section
variable {id : FenceId} {rails : FenceRails}

theorem ruleFenceSet_clear (hid : u8At b 0 = id.val) (hrails : fenceRailsOfCode (u8At b 1) = some rails)
    (hlo : inJig (i32At b 2) = true) (hhi : inJig (i32At b 6) = true) (hlt : i32At b 2 < i32At b 6)
    (hc : s.rails.fenceConflict id (i32At b 2) (i32At b 6) rails.rails = none) :
    ruleFenceSet b s
      = (s.setRails (s.rails.setFence id rails (i32At b 2) (i32At b 6)), ⟨.ok, 0, .none⟩) := by
  simp only [ruleFenceSet, indexAt_of_eq hid, hrails, hlo, hhi, hlt, hc, decide_true, Bool.and_true,
    if_true]
  rfl

theorem ruleFenceSet_blocked {w : Owner} (hid : u8At b 0 = id.val)
    (hrails : fenceRailsOfCode (u8At b 1) = some rails)
    (hlo : inJig (i32At b 2) = true) (hhi : inJig (i32At b 6) = true) (hlt : i32At b 2 < i32At b 6)
    (hc : s.rails.fenceConflict id (i32At b 2) (i32At b 6) rails.rails = some w) :
    ruleFenceSet b s = (s, ⟨.overlap, 0, .blockedBy w⟩) := by
  simp only [ruleFenceSet, indexAt_of_eq hid, hrails, hlo, hhi, hlt, hc, decide_true, Bool.and_true,
    if_true]
  rfl

theorem ruleFenceClear_present {v : Fence} (hid : u8At b 0 = id.val) (hv : s.rails.fences[id] = some v) :
    ruleFenceClear b s = (s.setRails (s.rails.clearFence id), ⟨.ok, 0, .none⟩) := by
  simp only [ruleFenceClear, indexAt_of_eq hid, hv]
  rfl

theorem ruleFenceClear_absent (hid : u8At b 0 = id.val) (hv : s.rails.fences[id] = none) :
    ruleFenceClear b s = (s, ⟨.badState, 0, .none⟩) := by
  simp only [ruleFenceClear, indexAt_of_eq hid, hv]
  exact refuse_eq (by decide) _ _

theorem removeOwner_eq (o : Owner) (l : List Entry) :
    removeOwner o l = l.filter (fun x => x.owner ≠ o) := by
  refine List.filter_congr fun x _ => ?_
  by_cases e : x.owner = o <;> simp [e]

/-- The Rail Map after FENCE_SET, list by list (R58). -/
theorem RailMap.setFence_eq (m : RailMap) (id : FenceId) (rails : FenceRails) (lo hi : Int) :
    m.setFence id rails lo hi =
      { listA := if rails ≠ .onlyB then
          insertEntry (fenceEntry id lo hi) (m.listA.filter (fun x => x.owner ≠ .fence id))
          else m.listA.filter (fun x => x.owner ≠ .fence id)
        listB := if rails ≠ .onlyA then
          insertEntry (fenceEntry id lo hi) (m.listB.filter (fun x => x.owner ≠ .fence id))
          else m.listB.filter (fun x => x.owner ≠ .fence id)
        fences := m.fences.set id (some ⟨rails, lo, hi⟩) } := by
  simp only [← removeOwner_eq]
  cases rails <;> rfl

end

/-- Settles O55: FENCE_SET by the test of its interval on each rail it covers, FENCE_CLEAR by the record. -/
theorem fencesAreSetAndCleared : Obligations.FencesAreSetAndCleared := by
  constructor
  · intro b s id rails hready hl hid hrails h0 hlt h1 onA onB e clear without refused
    have hlo : inJig (i32At b 2) = true := inJig_iff.2 ⟨h0, by omega⟩
    have hhi : inJig (i32At b 6) = true := inJig_iff.2 ⟨by omega, h1⟩
    have hblocked : ∀ w, s.rails.fenceConflict id (i32At b 2) (i32At b 6) rails.rails = some w →
        exec (.fenceSet b) s = .next (refused w) := fun w hw =>
      supervisor_refused (n := 10) hready (by decide) hl
        (ruleFenceSet_blocked (s := s.dequeued supervisorPort) hid hrails hlo hhi hlt hw)
    refine ⟨fun hA hB => ?_, fun w hA hw => hblocked w (RailMap.fenceConflict_onA hA hw),
      fun w hA hB hw => hblocked w (RailMap.fenceConflict_onB hA hB hw)⟩
    have hclear : s.rails.fenceConflict id (i32At b 2) (i32At b 6) rails.rails = none :=
      RailMap.fenceConflict_eq_none.2 fun r hr => by
        cases r with
        | A => exact hA (FenceRails.mem_rails_A.1 hr)
        | B => exact hB (FenceRails.mem_rails_B.1 hr)
    have hrule := ruleFenceSet_clear (s := s.dequeued supervisorPort) hid hrails hlo hhi hlt hclear
    rw [RailMap.setFence_eq] at hrule
    exact supervisor_answered (n := 10) hready (by decide) hl hrule rfl
  · intro b s id hready hl hid without
    cases hv : s.rails.fences[id] with
    | none =>
      exact supervisor_refused (n := 1) hready (by decide) hl
        (ruleFenceClear_absent (s := s.dequeued supervisorPort) hid hv)
    | some v =>
      have hrule := ruleFenceClear_present (s := s.dequeued supervisorPort) hid hv
      simp only [RailMap.clearFence, RailMap.removeFence, removeOwner_eq] at hrule
      exact supervisor_answered (n := 1) hready (by decide) hl hrule rfl

end Sys2Proof.Machine
end

section
/-! SUPPORT. Every step keeps the reservations apart: the rules that place and remove them, then the table of
commands (R45, R46, R53). -/

namespace Sys2Proof.Machine

variable {s t : State} {h : Slot} {hd : Head}

/-! ### The rules that place and remove entries (R48 to R58) -/

theorem clearanceFor_range (hp : s.params.kept) (kind : HeadKind) :
    10000 ≤ (clearanceFor s.params kind : Int) := by
  obtain ⟨-, -, -, hdrill, hset, -⟩ := hp
  cases kind <;> simp only [clearanceFor] <;> omega

theorem ruleAttach_railsKept (h : Slot) (b : List Byte) (hp : s.params.kept) (hs : s.railsKept) :
    (ruleAttach h b s).1.railsKept := by
  unfold ruleAttach
  split
  · exact hs
  · rename_i hh
    split
    · rename_i kind rail _ _
      split
      · rename_i hx
        unfold State.attachHead
        simp only
        split
        · exact hs
        · rename_i hc
          refine State.railsKept_place hs rfl rfl (fun a ha => nomatch hh.symm.trans ha)
            (headPlaced_iff.2 ⟨clearanceFor_range hp kind, hx⟩) ((entryFits_idle rfl).2 rfl) ?_
          exact fun x hx hne => apart_of_clear hc hx hne
      · exact hs
    · exact hs

theorem State.detachHead_railsKept (hs : s.railsKept) (hh : s.heads[h] = some hd) :
    (s.detachHead h hd.rail).railsKept := railsKept_remove hs hh rfl rfl

theorem ruleDetach_railsKept (h : Slot) (hs : s.railsKept) : (ruleDetach h s).1.railsKept := by
  unfold ruleDetach
  split
  · exact hs
  · rename_i hd hh
    split
    · exact State.detachHead_railsKept hs hh
    · exact hs

theorem ruleHeadEvict_railsKept (b : List Byte) (hs : s.railsKept) : (ruleHeadEvict b s).1.railsKept := by
  unfold ruleHeadEvict
  split
  · exact hs
  · split
    · exact hs
    · rename_i hd hh
      split
      · exact hs
      · exact (State.judged_keeps _ _ _).railsKept (State.detachHead_railsKept hs hh)

/-- A head takes a travel whose hull is clear (R49, R71). -/
theorem State.travel_railsKept {x : Int} {status : HeadStatus} (hs : s.railsKept)
    (hh : s.heads[h] = some hd) (hc : s.hullConflict h hd x = none)
    (hfits : entryFits h { hd with status := status } (hull h hd.clearance hd.position x) = true)
    (hrails : t.rails = (s.placeOn hd.rail (hull h hd.clearance hd.position x)).rails)
    (hheads : t.heads = s.heads.set h (some { hd with status := status })) : t.railsKept := by
  refine railsKept_place (hd := { hd with status := status }) hs hheads hrails (fun a ha => ?_)
    (placed_of_head (hd := hd) hs hh) hfits (fun x hx hne => apart_of_clear hc hx hne)
  rw [Option.some.inj (ha.symm.trans hh)]

theorem State.commitMove_railsKept {x : Int} (hs : s.railsKept) (hh : s.heads[h] = some hd)
    (hx : inJig x = true) (hc : s.hullConflict h hd x = none) : (s.commitMove h hd x).1.railsKept := by
  let g : MoveGrant := ⟨x, hd.position, travelLimit s.params hd.position x⟩
  have hfits := entryFits_travelMove (h := h) (hd := { hd with status := .travelMove g })
    (e := hull h hd.clearance hd.position x) (g := g) rfl
  exact travel_railsKept hs hh hc (hfits.2 ⟨rfl, rfl, hx⟩) rfl rfl

theorem ruleMove_railsKept (h : Slot) (b : List Byte) (hs : s.railsKept) :
    (ruleMove h b s).1.railsKept := by
  unfold ruleMove
  split
  · exact hs
  · rename_i hd hh
    split
    · exact hs
    · unfold State.moveTo
      split
      · exact hs
      · rename_i hx
        have hx : inJig (i32At b 0) = true := by simpa using hx
        split
        · exact hs
        · rename_i hc
          exact State.commitMove_railsKept hs hh hx hc

/-- Check 11: the target of a hole that may be granted lies in the jig. -/
theorem State.checkHole_inJig {i : Nat} {c : Eligible} (hc : s.checkHole hd i = .ok c) :
    inJig c.target.x = true := by
  unfold checkHole at hc
  split at hc
  · cases hc
  · simp only at hc
    split_ifs at hc
    split at hc
    · cases hc
    · unfold checkTarget at hc
      split_ifs at hc with hx
      split at hc
      · cases hc
      · split_ifs at hc
        obtain rfl := Except.ok.inj hc
        simpa using hx

theorem State.commitHole_railsKept {c : Eligible} (hs : s.railsKept) (hh : s.heads[h] = some hd)
    (hx : inJig c.target.x = true) (hc : s.hullConflict h hd c.target.x = none) :
    (s.commitHole h hd c).1.railsKept := by
  let g := s.grantRecord hd c
  have hfits := entryFits_travelHole (h := h) (hd := { hd with status := .travelHole g })
    (e := hull h hd.clearance hd.position c.target.x) (g := g) rfl
  exact travel_railsKept hs hh hc (hfits.2 ⟨rfl, rfl, hx⟩) rfl rfl

theorem State.grantHole_railsKept {c : Eligible} (hs : s.railsKept) (hh : s.heads[h] = some hd)
    (hx : inJig c.target.x = true) (hc : s.hullConflict h hd c.target.x = none) :
    (s.grantHole h hd c).1.railsKept := by
  have hraised := (s.raiseForHole_keeps .thermalLimit c.index h c.target.dRaw s.params.corrLimit).railsKept hs
  unfold grantHole
  split
  · simp only
    split
    · exact (holdAtLimit_keeps ..).railsKept hraised
    · exact commitHole_railsKept hraised (by simpa using hh) hx (by simpa [hullConflict] using hc)
  · exact commitHole_railsKept hs hh hx hc

theorem ruleTake_railsKept (h : Slot) (b : List Byte) (hs : s.railsKept) :
    (ruleTake h b s).1.railsKept := by
  unfold ruleTake
  split
  · exact hs
  · rename_i hd hh
    split
    · exact hs
    · unfold State.takeHole
      split
      · exact hs
      · split
        · exact hs
        · rename_i c hc
          split
          · exact hs
          · split
            · exact hs
            · exact State.grantHole_railsKept hs hh (State.checkHole_inJig hc) ‹_›

/-- Check 15: the hull to a candidate of NEXT is clear. -/
theorem State.candidates_clear {c : Eligible} (hc : c ∈ s.candidates h hd) :
    s.hullConflict h hd c.target.x = none := by
  unfold candidates at hc
  obtain ⟨i, -, hi⟩ := List.mem_filterMap.1 hc
  split at hi
  · cases hi
  · split at hi
    · cases hi
    · obtain rfl := Option.some.inj hi
      assumption

theorem ruleNext_railsKept (h : Slot) (hs : s.railsKept) : (ruleNext h s).1.railsKept := by
  unfold ruleNext
  split
  · exact hs
  · rename_i hd hh
    split
    · exact hs
    · unfold State.nextHole
      split
      · exact hs
      · split
        · exact hs
        · rename_i c hc
          have hmem := chooseCandidate_mem hc
          exact State.grantHole_railsKept hs hh (State.checkHole_inJig (State.mem_candidates hmem))
            (State.candidates_clear hmem)

/-- A head is put at a place where its footprint stands apart from the entries of the others. -/
theorem State.standAt_railsKept {x : Int} {status : HeadStatus} (hs : s.railsKept)
    (hh : s.heads[h] = some hd) (hx : inJig x = true)
    (hfits : entryFits h { hd with position := x, status := status } (footprint h hd.clearance x) = true)
    (hclear : ∀ y ∈ s.rails.list hd.rail, y.owner ≠ .head h →
      y.hi ≤ (footprint h hd.clearance x).lo ∨ (footprint h hd.clearance x).hi ≤ y.lo) :
    (s.standAt h hd x status).railsKept := by
  obtain ⟨hc, -⟩ := headPlaced_iff.1 (placed_of_head hs hh)
  refine railsKept_place (hd := { hd with position := x, status := status }) hs rfl rfl (fun a ha => ?_)
    (headPlaced_iff.2 ⟨hc, hx⟩) hfits hclear
  rw [Option.some.inj (ha.symm.trans hh)]

/-- A footprint within the head's own entry stands apart from the entries of the others (R51, R54). -/
theorem State.apart_within_entry {e : Entry} {x : Int} (hs : s.railsKept)
    (he : entriesOf (s.rails.list hd.rail) (.head h) = [e])
    (hlo : e.lo ≤ (footprint h hd.clearance x).lo) (hhi : (footprint h hd.clearance x).hi ≤ e.hi) :
    ∀ y ∈ s.rails.list hd.rail, y.owner ≠ .head h →
      y.hi ≤ (footprint h hd.clearance x).lo ∨ (footprint h hd.clearance x).hi ≤ y.lo := by
  intro y hy hne
  obtain ⟨hmem, howner⟩ := mem_of_entriesOf he
  obtain ⟨hapart, -⟩ := railKept_iff.1 ((railsKept_iff.1 hs).1 hd.rail)
  have := hapart.disjoint hmem hy (fun e => hne (e ▸ howner))
  omega

/-- A travelling head arrives: the hull narrows to the footprint at the travel's end (R51, R73). -/
theorem State.arrival_railsKept {x : Int} {status : HeadStatus} (hs : s.railsKept)
    (hh : s.heads[h] = some hd)
    (htravel : ∀ e, entryFits h hd e = true → e = hull h hd.clearance hd.position x ∧ inJig x = true)
    (hfits : entryFits h { hd with position := x, status := status } (footprint h hd.clearance x) = true) :
    (s.standAt h hd x status).railsKept := by
  obtain ⟨e, he, hfit⟩ := entry_of_head hs hh
  obtain ⟨rfl, hx⟩ := htravel e hfit
  obtain ⟨hlo, hhi⟩ := footprint_within_hull (p := hd.position) (x := x) (q := x) h hd.clearance
    (by omega) (by omega)
  exact standAt_railsKept hs hh hx hfits (apart_within_entry hs he hlo hhi)

theorem State.judgeArrival_keeps {g : HoleGrant} (ht : s.MayTurn h .idle) :
    s.KeepsEntries (s.judgeArrival h hd g).1 := by
  unfold judgeArrival
  split
  · exact .refl s
  · simp only
    split
    · exact raiseForHole_keeps ..
    · exact raiseAndHold_keeps _ _ _ _ _ ht

theorem ruleArrived_railsKept (h : Slot) (hs : s.railsKept) : (ruleArrived h s).1.railsKept := by
  unfold ruleArrived
  split
  · exact hs
  · rename_i hd hh
    have hsame : ∀ u v : State, v.rails = u.rails → v.heads = u.heads → u.railsKept → v.railsKept :=
      fun u v hr hh hu => (State.KeepsEntries.same hr hh).railsKept hu
    split
    · rename_i g hg
      refine hsame _ _ rfl rfl (State.arrival_railsKept (status := .idle) (x := g.x) hs hh (fun e he => ?_)
        ((entryFits_idle rfl).2 rfl))
      obtain ⟨rfl, -, hx⟩ := (entryFits_travelMove hg).1 he
      exact ⟨rfl, hx⟩
    · rename_i g hg
      have hstand := State.arrival_railsKept (status := .work g) (x := g.x) hs hh (fun e he => by
        obtain ⟨rfl, -, hx⟩ := (entryFits_travelHole hg).1 he
        exact ⟨rfl, hx⟩) ((entryFits_work rfl).2 ⟨rfl, rfl⟩)
      have hturn : ((s.standAt h hd g.x (.work g)).startTimer h .work
          (workLimit s.params hd.kind)).MayTurn h .idle :=
        State.mayTurn_idle (hd := { hd with position := g.x, status := .work g })
          (by simp [State.standAt]) rfl
      exact (State.judgeArrival_keeps hturn).railsKept (hsame _ _ rfl rfl hstand)
    · exact hs

theorem State.putDown_railsKept {x : Int} (hs : s.railsKept) (hh : s.heads[h] = some hd)
    (hx : inJig x = true) (hclear : ∀ y ∈ s.rails.list hd.rail, y.owner ≠ .head h →
      y.hi ≤ (footprint h hd.clearance x).lo ∨ (footprint h hd.clearance x).hi ≤ y.lo) :
    (s.putDown h hd x).railsKept :=
  (judged_keeps ..).railsKept (standAt_railsKept hs hh hx ((entryFits_idle rfl).2 rfl) hclear)

theorem RailMap.entryOf_eq (m : RailMap) (r : Rail) (h : Slot) :
    m.entryOf r h = (entriesOf (m.list r) (.head h)).head? := (List.head?_filter ..).symm

theorem State.spanContains_eq {e : Entry} {x : Int}
    (he : entriesOf (s.rails.list hd.rail) (.head h) = [e]) (hspan : s.spanContains h hd x = true) :
    ∃ lo hi, e.span = some (lo, hi) ∧ lo ≤ x ∧ x ≤ hi := by
  have hentry : s.rails.entryOf hd.rail h = some e := by rw [RailMap.entryOf_eq, he]; rfl
  cases hs : e.span with
  | none => simp [spanContains, hentry, hs] at hspan
  | some v => exact ⟨v.1, v.2, rfl, (spanContains_iff hentry hs).1 hspan⟩

theorem ruleHaltAt_railsKept (h : Slot) (b : List Byte) (hs : s.railsKept) :
    (ruleHaltAt h b s).1.railsKept := by
  unfold ruleHaltAt
  split
  · exact hs
  · rename_i hd hh
    split
    · split
      · rename_i hspan
        obtain ⟨e, he, hfit⟩ := State.entry_of_head hs hh
        obtain ⟨lo, hi, hv, hlo, hhi⟩ := State.spanContains_eq he hspan
        obtain ⟨hx, hfrom, hto⟩ := footprint_within_entry (State.placed_of_head hs hh) hfit hv hlo hhi
        exact State.putDown_railsKept hs hh hx (State.apart_within_entry hs he hfrom hto)
      · exact hs
    · exact hs

theorem ruleHeadRecover_railsKept (b : List Byte) (hs : s.railsKept) :
    (ruleHeadRecover b s).1.railsKept := by
  unfold ruleHeadRecover
  split
  · split
    · rename_i hx
      unfold State.recoverHead
      split
      · exact hs
      · rename_i hd hh
        split
        · exact hs
        · simp only
          split
          · exact hs
          · rename_i hc
            exact State.putDown_railsKept hs hh hx (fun y hy hne => apart_of_clear hc hy hne)
    · exact hs
  · exact hs

theorem ruleFenceSet_railsKept (b : List Byte) (hs : s.railsKept) : (ruleFenceSet b s).1.railsKept := by
  unfold ruleFenceSet
  simp only
  split
  · rename_i id rails _ _
    split
    · rename_i hr
      simp only [Bool.and_eq_true, inJig_iff, decide_eq_true_eq] at hr
      obtain ⟨⟨⟨hlo, -⟩, -, hhi⟩, hlt⟩ := hr
      split
      · exact hs
      · rename_i hc
        refine State.railsKept_fence (f := id) (v := some ⟨rails, i32At b 2, i32At b 6⟩) hs rfl
          (RailMap.fences_setFence ..) (fun r => RailMap.list_setFence ..) (fun w hw => ?_)
        obtain rfl := Option.some.inj hw
        refine ⟨⟨hlo, hlt, hhi⟩, fun r hr x hx hne => ?_⟩
        exact apart_of_clear (RailMap.fenceConflict_eq_none.1 hc r hr) hx hne
    · exact hs
  · exact hs

theorem ruleFenceClear_railsKept (b : List Byte) (hs : s.railsKept) :
    (ruleFenceClear b s).1.railsKept := by
  unfold ruleFenceClear
  split
  · exact hs
  · rename_i id _
    split
    · exact hs
    · exact State.railsKept_fence (f := id) (v := none) hs rfl rfl
        (fun r => RailMap.list_clearFence ..) (fun w hw => nomatch hw)

/-! ### Takings and events -/

/-- A rule that keeps the reservations apart where the parameters are in their ranges. -/
theorem takeMessage_apart {p : PortId} {kind : Byte} {b : List Byte} {rule : State → Taken}
    (hr : ∀ u : State, u.params.kept → u.railsKept → (rule u).1.railsKept) (hp : s.params.kept)
    (hs : s.railsKept) (h : takeMessage p kind b rule s = .next t) : t.railsKept := by
  rcases takeMessage_cases h with ht | ⟨-, ht⟩ <;> rw [ht]
  · exact hs
  · have hruled : (judgeMessage p ⟨kind, b⟩ rule (s.dequeued p)).1.railsKept := by
      unfold judgeMessage
      split_ifs
      · exact hs
      · exact hs
      · exact hr _ hp hs
    have hreply : ∀ (u : State) (r : Reply), u.KeepsEntries (u.appendReply p kind r).sendNotices :=
      fun _ _ => .same (by simp; rfl) (by simp; rfl)
    exact (hreply _ _).railsKept hruled

/-- A rule under which every head keeps its entry. -/
theorem takeMessage_keeps {p : PortId} {kind : Byte} {b : List Byte} {rule : State → Taken}
    (hr : ∀ u : State, u.KeepsEntries (rule u).1) (hp : s.params.kept) (hs : s.railsKept)
    (h : takeMessage p kind b rule s = .next t) : t.railsKept :=
  takeMessage_apart (fun u _ hu => (hr u).railsKept hu) hp hs h

theorem takeEvent_keeps {due : Bool} {effect : State → State}
    (he : ∀ u : State, u.KeepsEntries (effect u)) (hs : s.railsKept)
    (h : takeEvent due effect s = .next t) : t.railsKept := by
  rcases takeEvent_cases h with ht | ⟨-, -, ht⟩ <;> rw [ht]
  · exact hs
  · have hsend : ∀ u : State, u.KeepsEntries u.sendNotices := fun _ => .same (by simp) (by simp)
    exact ((he s).trans (hsend _)).railsKept hs

/-- An event of a line or a pin follows the level while RESET_N is low, and is taken otherwise. -/
theorem levelOrEvent_keeps {due : Bool} {effect : State → State} {u : State} (hu : s.KeepsEntries u)
    (he : ∀ v : State, v.KeepsEntries (effect v)) (hs : s.railsKept)
    (h : (if s.inReset then .next u else takeEvent due effect s) = Host.Outcome.next t) :
    t.railsKept := by
  split at h
  · exact Host.Outcome.next.inj h ▸ hu.railsKept hs
  · exact takeEvent_keeps he hs h

/-- A message that is a row's own is taken, and one of another row is ignored (log entry 7). -/
theorem ownRow_railsKept {own : Bool} {taken : Host.Outcome State Fault Refusal}
    (ht : taken = .next t → t.railsKept) (hs : s.railsKept)
    (h : (if own then taken else .next s) = Host.Outcome.next t) : t.railsKept := by
  split at h
  · exact ht h
  · exact Host.Outcome.next.inj h ▸ hs

theorem otherRow_railsKept {own : Bool} {taken : Host.Outcome State Fault Refusal}
    (ht : taken = .next t → t.railsKept) (hs : s.railsKept)
    (h : (if own then .next s else taken) = Host.Outcome.next t) : t.railsKept := by
  split at h
  · exact Host.Outcome.next.inj h ▸ hs
  · exact ht h

/-! ### The commands and the step -/

/-- At power-on no head is attached and no fence present: both rails are free (R45, R57). -/
theorem execPowerOn_railsKept (h : execPowerOn s = .next t) : t.railsKept := by
  obtain rfl := Host.Outcome.next.inj h
  have hreset : State.reset.railsKept := by decide
  exact (State.KeepsEntries.same (s := State.reset) rfl rfl).railsKept hreset

/-- Every command keeps the reservations apart: the rules of the Rail Map and of the travels by what they
place, every other row by the entries it leaves as they are. -/
theorem exec_railsKept (c : Instr) (hp : s.params.kept) (hs : s.railsKept) (h : exec c s = .next t) :
    t.railsKept := by
  cases c with
  | powerOn => exact execPowerOn_railsKept h
  | resetNAssert => exact Host.Outcome.next.inj h ▸ (State.KeepsEntries.same rfl rfl).railsKept hs
  | attach slot b => exact takeMessage_apart (fun _ hp => ruleAttach_railsKept slot b hp) hp hs h
  | detach slot b => exact takeMessage_apart (fun _ _ => ruleDetach_railsKept slot) hp hs h
  | next slot b => exact takeMessage_apart (fun _ _ => ruleNext_railsKept slot) hp hs h
  | take slot b => exact takeMessage_apart (fun _ _ => ruleTake_railsKept slot b) hp hs h
  | move slot b => exact takeMessage_apart (fun _ _ => ruleMove_railsKept slot b) hp hs h
  | arrived slot b => exact takeMessage_apart (fun _ _ => ruleArrived_railsKept slot) hp hs h
  | progress slot b => exact takeMessage_keeps (fun u => ruleProgress_keeps u slot) hp hs h
  | abandon slot b => exact takeMessage_keeps (fun u => ruleAbandon_keeps u slot) hp hs h
  | drillDone slot b => exact takeMessage_keeps (fun u => ruleDrillDone_keeps u slot b) hp hs h
  | feed slot b => exact takeMessage_keeps (fun u => ruleFeed_keeps u slot) hp hs h
  | setDone slot b => exact takeMessage_keeps (fun u => ruleSetDone_keeps u slot) hp hs h
  | haltAt slot b => exact takeMessage_apart (fun _ _ => ruleHaltAt_railsKept slot b) hp hs h
  | headQuery slot b => exact takeMessage_keeps .refl hp hs h
  | planBegin b => exact takeMessage_keeps (fun u => rulePlanBegin_keeps u b) hp hs h
  | planSegment b => exact takeMessage_keeps (fun u => rulePlanSegment_keeps u b) hp hs h
  | planBay b => exact takeMessage_keeps (fun u => rulePlanBay_keeps u b) hp hs h
  | planHole b => exact takeMessage_keeps (fun u => rulePlanHole_keeps u b) hp hs h
  | planSeal b => exact takeMessage_keeps rulePlanSeal_keeps hp hs h
  | planAbort b => exact takeMessage_keeps rulePlanAbort_keeps hp hs h
  | planRead b => exact takeMessage_keeps (fun u => rulePlanRead_keeps u b) hp hs h
  | datum b => exact takeMessage_keeps (fun u => ruleDatum_keeps u b) hp hs h
  | fenceSet b => exact takeMessage_apart (fun _ _ => ruleFenceSet_railsKept b) hp hs h
  | fenceClear b => exact takeMessage_apart (fun _ _ => ruleFenceClear_railsKept b) hp hs h
  | holeReleaseRedo b =>
    exact otherRow_railsKept (takeMessage_keeps (fun u => ruleHoleReleaseRedo_keeps u b) hp hs) hs h
  | holeReleaseAccept b =>
    exact ownRow_railsKept (takeMessage_keeps (fun u => ruleHoleReleaseAccept_keeps u b) hp hs) hs h
  | holeExcuse b => exact takeMessage_keeps (fun u => ruleHoleExcuse_keeps u b) hp hs h
  | headRecover b => exact takeMessage_apart (fun _ _ => ruleHeadRecover_railsKept b) hp hs h
  | headEvict b => exact takeMessage_apart (fun _ _ => ruleHeadEvict_railsKept b) hp hs h
  | devMode b => exact takeMessage_keeps (fun u => ruleDevMode_keeps u b) hp hs h
  | devClear b => exact takeMessage_keeps (fun u => ruleDevClear_keeps u b) hp hs h
  | devRead b => exact takeMessage_keeps .refl hp hs h
  | logRead b => exact takeMessage_keeps (fun u => ruleLogRead_keeps u b) hp hs h
  | setParam b =>
    exact otherRow_railsKept (takeMessage_keeps (fun u => ruleSetParam_keeps u b) hp hs) hs h
  | setParamProbeHold b =>
    exact ownRow_railsKept (takeMessage_keeps (fun u => ruleSetProbeHold_keeps u b) hp hs) hs h
  | setParamStaleAction b =>
    exact ownRow_railsKept (takeMessage_keeps (fun u => ruleSetStaleAction_keeps u b) hp hs) hs h
  | setParamHeatMin b =>
    exact ownRow_railsKept (takeMessage_keeps (fun u => ruleSetHeatMin_keeps u b) hp hs) hs h
  | setParamHeatMax b =>
    exact ownRow_railsKept (takeMessage_keeps (fun u => ruleSetHeatMax_keeps u b) hp hs) hs h
  | setParamBudget b =>
    exact ownRow_railsKept (takeMessage_keeps (fun u => ruleSetBudget_keeps u b) hp hs) hs h
  | setParamLogThreshold b =>
    exact ownRow_railsKept (takeMessage_keeps (fun u => u.setParams_keeps _) hp hs) hs h
  | setParamDebounceMs b =>
    exact ownRow_railsKept (takeMessage_keeps (fun u => ruleSetDebounceMs_keeps u b) hp hs) hs h
  | getParam b => exact takeMessage_keeps (fun u => ruleGetParam_keeps u b) hp hs h
  | termConfig b => exact takeMessage_keeps (fun u => ruleTermConfig_keeps u b) hp hs h
  | termWrite b => exact takeMessage_keeps (fun u => ruleTermWrite_keeps u b) hp hs h
  | termRead b => exact takeMessage_keeps (fun u => ruleTermRead_keeps u b) hp hs h
  | termAck b => exact takeMessage_keeps (fun u => ruleTermAck_keeps u b) hp hs h
  | heaterClear b => exact takeMessage_keeps (fun u => u.setHeat_keeps _) hp hs h
  | frameEnd b => exact takeMessage_keeps ruleFrameEnd_keeps hp hs h
  | lineQuery b => exact takeMessage_keeps (fun u => ruleLineQuery_keeps u b) hp hs h
  | rivetOut b => exact takeMessage_keeps (fun u => ruleRivetOut_keeps u b) hp hs h
  | heaterQuery b => exact takeMessage_keeps .refl hp hs h
  | motionTimerExpiry slot => exact takeEvent_keeps (fun u => u.expireTimer_keeps slot) hs h
  | holdExpiry k => exact takeEvent_keeps (fun u => u.expireHold_keeps k) hs h
  | rivetExpiry serial => exact takeEvent_keeps (fun u => u.setHeat_keeps _) hs h
  | rawChange n high =>
    exact levelOrEvent_keeps (s.setPin_keeps n high) (fun u => u.changePin_keeps n high) hs h
  | acceptance n => exact takeEvent_keeps (fun u => u.acceptCandidate_keeps n) hs h
  | probeSample n code => exact takeEvent_keeps (fun u => u.takeSample_keeps n code) hs h
  | characterArrival p mark data stopHigh =>
    exact levelOrEvent_keeps (s.lineLevel_keeps p false)
      (fun u => u.receiveCharacter_keeps p mark data stopHigh) hs h
  | gapExpiry p => exact takeEvent_keeps (fun u => u.setPort_keeps p _) hs h
  | inBreak p => exact takeEvent_keeps (fun u => u.setPort_keeps p _) hs h
  | breakReturn p => exact levelOrEvent_keeps (s.lineLevel_keeps p false) (fun u => u.takeBreak_keeps p) hs h
  | frameSent p => exact takeEvent_keeps (fun u => u.setPort_keeps p _) hs h
  | unknownKindMessage p kind b => exact otherRow_railsKept (takeMessage_keeps .refl hp hs) hs h
  | frameTransmitStart p => exact takeEvent_keeps (fun u => u.setPort_keeps p _) hs h
  | receiveLineFall p =>
    exact levelOrEvent_keeps (s.lineLevel_keeps p true) (fun u => u.setPort_keeps p _) hs h

/-- Settles O17: a command keeps the reservations apart, and the passing of time leaves them as they are. -/
theorem stepKeepsTheReservationsApart : Obligations.StepKeepsTheReservationsApart := by
  intro s t hp hs h
  unfold step at h
  split at h
  · exact Host.Outcome.next.inj h ▸ s.tick_keeps.railsKept hs
  · rename_i c rest _
    exact exec_railsKept (s := { s with pending := rest }) c hp hs h

end Sys2Proof.Machine
end

section
/-! SUPPORT. PROGRESS of a head at work, and the commit of a MOVE with its travel limit (R68, R71, R72, R91). -/

namespace Sys2Proof.Machine

variable {s : State} {h : Slot} {hd : Head} {b : List Byte}

/-! ### PROGRESS (R72) -/

theorem ruleProgress_work {g : HoleGrant} (hh : s.heads[h] = some hd) (hg : hd.status = .work g) :
    ruleProgress h s = (s.startTimer h .work (workLimit s.params hd.kind), ⟨.ok, 0, .none⟩) := by
  simp only [ruleProgress, hh, hg]
  rfl

theorem headStateOf_travel (ht : headStateOf (some hd) = .travel) :
    (∃ g, hd.status = .travelHole g) ∨ ∃ g, hd.status = .travelMove g := by
  cases hst : hd.status <;> simp [headStateOf, hst] at ht ⊢

theorem ruleProgress_travel (hh : s.heads[h] = some hd) (ht : headStateOf (some hd) = .travel) :
    ruleProgress h s = (s, ⟨.badState, 0, .none⟩) := by
  rcases headStateOf_travel ht with ⟨g, hg⟩ | ⟨g, hg⟩ <;>
    simp only [ruleProgress, hh, hg] <;> exact refuse_eq (by decide) _ _

/-- Settles O32: in WORK the timer starts anew, in TRAVEL the rule refuses. -/
theorem progressRestartsTheWorkTimer : Obligations.ProgressRestartsTheWorkTimer := by
  intro h s hd hready hh
  refine ⟨fun g hg => ?_, fun ht => ?_⟩
  · exact head_answered (n := 0) hready (by decide) rfl
      (ruleProgress_work (s := s.dequeued (headPort h)) hh hg) rfl
  · exact head_answered (n := 0) (s' := s.dequeued (headPort h)) hready (by decide) rfl
      (ruleProgress_travel (s := s.dequeued (headPort h)) hh ht) rfl

/-! ### MOVE (R68, R91) -/

/-- The travel limit covers the distance at TRAVEL_SPEED by the least whole number of ms (R91). -/
theorem travelLimit_ceil {q : Params} (hspeed : 0 < q.travelSpeed) (p x : Int) : travelLimit q p x
    = min 300000 (q.travelBaseMs + (x - p).natAbs * 10 ⌈/⌉ q.travelSpeed) := by
  rw [Nat.ceilDiv_eq_add_pred_div, Nat.add_sub_assoc hspeed]
  rfl

theorem ruleMove_clear (hh : s.heads[h] = some hd) (hreq : s.requestRefused hd = none)
    (hx : inJig (i32At b 0) = true) (hc : s.hullConflict h hd (i32At b 0) = none) :
    ruleMove h b s = s.commitMove h hd (i32At b 0) := by
  simp only [ruleMove, hh, hreq, State.moveTo, hx, Bool.not_true, Bool.false_eq_true, if_false, hc]

/-- Settles O30: the limit as a division rounded up, the grant by the commit of a clear MOVE. -/
theorem moveCommitsTheMoveGrant : Obligations.MoveCommitsTheMoveGrant := by
  constructor
  · intro q p x hspeed
    have hcover : ∀ m : Nat, (x - p).natAbs * 10 ⌈/⌉ q.travelSpeed ≤ m
        ↔ (x - p).natAbs * 10 ≤ m * q.travelSpeed := fun m => by
      rw [ceilDiv_le_iff_le_mul hspeed, Nat.mul_comm m]
    exact ⟨_, travelLimit_ceil hspeed p x, (hcover _).1 le_rfl, fun m => (hcover m).2⟩
  · intro h b s hd hready hl hh hidle hw hstop hf h0 h1 hc limit
    exact head_answered (n := 4) hready (by decide) hl
      (ruleMove_clear (s := s.dequeued (headPort h)) hh (State.requestRefused_idle hidle hw hstop hf)
        (inJig_iff.2 ⟨h0, h1⟩) hc) rfl

end Sys2Proof.Machine
end

section
/-! SUPPORT. The grant of a hole: what TAKE checks, what NEXT chooses, and what the commit leaves (R65 to
R71). -/

namespace Sys2Proof.Machine

variable {s : State} {h : Slot} {hd : Head} {b : List Byte} {c : Eligible}

/-! ### The bay of a target (R66) -/

/-- A bay contains a target: the lower bound belongs to it, the upper bound to the top bay alone (R66). -/
def PlanStore.bayHolds (p : PlanStore) (x : Int) (k : Nat) : Prop :=
  ∃ a : BayRow, p.bays[k]? = some (some a) ∧ a.lower ≤ x
    ∧ (x < a.upper ∨ k + 1 = p.bays.length ∧ x = a.upper)

theorem PlanStore.bayHolds_lt {p : PlanStore} {x : Int} {k : Nat} (h : p.bayHolds x k) :
    k < p.bays.length := by
  obtain ⟨a, hk, -⟩ := h
  exact (List.getElem?_eq_some_iff.1 hk).1

theorem find?_range_iff {n i : Nat} {q : Nat → Bool} {P : Nat → Prop} (hq : ∀ k, q k = true ↔ P k) :
    (List.range n).find? q = some i ↔ i < n ∧ P i ∧ ∀ k < i, ¬P k := by
  simp only [List.find?_range_eq_some, List.mem_range, Bool.not_eq_true', ← Bool.not_eq_true, hq,
    and_left_comm]

/-- The bay found is the lowest that contains the target. -/
theorem PlanStore.bayOf_eq_some {p : PlanStore} {x : Int} {bay : Nat} :
    p.bayOf x = some bay ↔ p.bayHolds x bay ∧ ∀ k < bay, ¬p.bayHolds x k := by
  refine (find?_range_iff (P := p.bayHolds x) fun k => ?_).trans
    (and_iff_right_of_imp fun h => bayHolds_lt h.1)
  unfold bayHolds
  rcases hk : p.bays[k]? with _ | _ | a <;> simp

/-- Loaded bays that join one another and are not empty ascend. -/
theorem bays_ascend {l : List (Option BayRow)} (hloaded : none ∉ l)
    (hjoin : ∀ (k : Nat) (a b : BayRow), l[k]? = some (some a) → l[k + 1]? = some (some b) →
      a.upper = b.lower) (hwide : ∀ a : BayRow, some a ∈ l → a.lower < a.upper) {j k : Nat} (hjk : j < k)
    {a b : BayRow} (ha : l[j]? = some (some a)) (hb : l[k]? = some (some b)) : a.upper ≤ b.lower := by
  induction k, hjk using Nat.le_induction generalizing b with
  | base => exact (hjoin j a b ha hb).le
  | succ k hk ih =>
    have hlt : k < l.length := Nat.lt_of_succ_lt (List.getElem?_eq_some_iff.1 hb).1
    obtain ⟨m, hm⟩ := Option.ne_none_iff_exists'.1 fun e : l[k] = none =>
      hloaded (e ▸ List.getElem_mem hlt)
    have hm' : l[k]? = some (some m) := by rw [List.getElem?_eq_getElem hlt, hm]
    calc a.upper ≤ m.lower := ih hm'
      _ ≤ m.upper := (hwide m (List.mem_of_getElem? hm')).le
      _ = b.lower := hjoin k m b hm' hb

/-- Where the bays ascend, at most one contains a target. -/
theorem PlanStore.bayOf_iff {p : PlanStore} {x : Int} {bay : Nat} (hloaded : none ∉ p.bays)
    (hjoin : ∀ (k : Nat) (a b : BayRow), p.bays[k]? = some (some a) → p.bays[k + 1]? = some (some b) →
      a.upper = b.lower) (hwide : ∀ a : BayRow, some a ∈ p.bays → a.lower < a.upper) :
    p.bayOf x = some bay ↔ p.bayHolds x bay := by
  refine bayOf_eq_some.trans ⟨And.left, fun hbay => ⟨hbay, fun k hk ⟨a, ha, _, hx⟩ => ?_⟩⟩
  obtain ⟨r, hr, hlo, -⟩ := hbay
  have hasc := bays_ascend hloaded hjoin hwide hk ha hr
  have hlen := (List.getElem?_eq_some_iff.1 hr).1
  rcases hx with hx | ⟨htop, -⟩ <;> omega

/-! ### Checks 6 to 13 (R65) -/

theorem Joint.mixPasses_of {j : Joint} (hdrill : hd.kind = .drill → j.settingCount = 0)
    (hset : hd.kind = .set → j.drillingCount = 0) : j.mixPasses hd.kind = true := by
  cases hk : hd.kind
  · simp [mixPasses, hdrill hk]
  · simp [mixPasses, hset hk]

theorem Joint.tierPasses_of {j : Joint} {tier : Tier}
    (hset : hd.kind = .set → ∀ u : Tier, u < tier → j.tierOpen[u] = 0) :
    j.tierPasses hd.kind tier = true := by
  cases hk : hd.kind
  · rfl
  · have hopen : ∀ u : Tier, ¬u < tier ∨ j.tierOpen[u] = 0 := fun u => by
      by_cases hu : u < tier
      · exact .inr (hset hk u hu)
      · exact .inl hu
    simpa [tierPasses, indices, imp_iff_not_or] using hopen

theorem State.checkHole_passed {i bay : Nat} {hole : Hole} {j : Joint} {tgt : Target}
    (hx : s.plan.hole? i = some hole) (hst : hole.state = hd.kind.takes) (hrail : hole.rail = hd.rail)
    (hj : s.plan.joints[hole.joint]? = some j) (hmix : j.mixPasses hd.kind = true)
    (htier : j.tierPasses hd.kind hole.tier = true) (htgt : s.target hole = some tgt)
    (hjig : inJig tgt.x = true) (hbay : s.plan.bayOf tgt.x = some bay)
    (hclamp : s.clampActive bay = true) : s.checkHole hd i = .ok ⟨i, hole, tgt, bay⟩ := by
  simp [checkHole, hx, hst, hrail, hj, hmix, htier, htgt, checkTarget, hjig, hbay, hclamp]

/-! ### The commit (R69, R71) -/

/-- A granted hole: in the work of the head's kind, named after the slot, and marked where its target lay
beyond the limit (R11, R69). -/
def Hole.granted (x : Hole) (kind : HeadKind) (h : Slot) (beyond : Bool) : Hole :=
  (if beyond then x.mark .thermalLimit else x).goto kind.working (some h)

theorem Hole.granted_eq (x : Hole) (kind : HeadKind) (h : Slot) (beyond : Bool) :
    x.granted kind h beyond = { x with
      state := (match kind with | .drill => .drilling | .set => .setting)
      grantHead := some h, heldFrom := none, heldClass := none
      marks := if beyond = true ∧ .thermalLimit ∉ x.marks then x.marks ++ [.thermalLimit]
        else x.marks } := by
  have hstate : kind.working = (match kind with | .drill => .drilling | .set => .setting) := by
    cases kind <;> rfl
  rw [← hstate]
  cases beyond
  · rfl
  · by_cases hm : .thermalLimit ∈ x.marks <;> simp [granted, goto, mark_eq, hm]

/-- The state a committed HOLE grant leaves, with the ports given (R69, R71). -/
def State.granted (s : State) (h : Slot) (hd : Head) (c : Eligible) (ports : Vector Port 10) : State :=
  { s with
    plan := s.plan.changeHole c.index (fun x => x.granted hd.kind h c.target.beyond)
    heads := s.heads.set h (some { hd with status := .travelHole (s.grantRecord hd c) })
    rails := s.rails.setList hd.rail
      (placeEntry (hull h hd.clearance hd.position c.target.x) (s.rails.list hd.rail))
    timers := s.timers.set h (.counting .travel (travelLimit s.params hd.position c.target.x) 0)
    log := { s.log with inFlight := s.log.inFlight + 1 }
    dev := if c.target.beyond then
        raisedDev s .thermalLimit (some c.index) (some h) c.target.dRaw s.params.corrLimit
      else s.dev
    ports := ports }

/-- The reply to a granted request (R71). -/
def State.grantReply (s : State) (hd : Head) (c : Eligible) : Reply :=
  ⟨.ok, 0, .holeGranted c.index c.target.x c.hole.yNom c.target.d c.hole.cls c.hole.stackNom c.bay
    (travelLimit s.params hd.position c.target.x)⟩

/-- The commit writes hole, head, entry, timer and in-flight count (R71). -/
theorem State.commitHole_eq (s : State) (h : Slot) (hd : Head) (c : Eligible) :
    s.commitHole h hd c = ({ s with
      plan := s.plan.changeHole c.index (fun x => x.goto hd.kind.working (some h))
      heads := s.heads.set h (some { hd with status := .travelHole (s.grantRecord hd c) })
      rails := s.rails.setList hd.rail
        (placeEntry (hull h hd.clearance hd.position c.target.x) (s.rails.list hd.rail))
      timers := s.timers.set h (.counting .travel (travelLimit s.params hd.position c.target.x) 0)
      log := { s.log with inFlight := s.log.inFlight + 1 } }, s.grantReply hd c) := rfl

/-- A request whose hole carries no limit indication, or one that THERMAL_LIMIT notes, is committed (R69). -/
theorem State.grantHole_committed (hm : c.target.beyond = true → s.modeOf .thermalLimit = .noting) :
    ∃ ports : Vector Port 10, OnlyPending s.ports ports ∧ (c.target.beyond = false → ports = s.ports)
      ∧ s.grantHole h hd c = (s.granted h hd c ports, s.grantReply hd c) := by
  cases hb : c.target.beyond with
  | false =>
    refine ⟨s.ports, .refl _, fun _ => rfl, ?_⟩
    simp only [grantHole, hb, granted, Hole.granted, Bool.false_eq_true, if_false]
    exact commitHole_eq s h hd c
  | true =>
    have hm' : (s.raiseForHole .thermalLimit c.index h c.target.dRaw s.params.corrLimit).modeOf
        .thermalLimit = .noting := by
      rw [raiseForHole_eq]
      exact hm hb
    refine ⟨_, onlyPending_raiseForHole s .thermalLimit c.index h c.target.dRaw s.params.corrLimit, nofun, ?_⟩
    simp only [grantHole, hb, hm', if_true, granted, Hole.granted]
    rw [raiseForHole_eq, commitHole_eq, PlanStore.changeHole_changeHole _ _ _ (Hole.sameStand_mark _)]
    rfl

/-- What the taking of a request that is granted leaves, and how it is answered. -/
theorem grant_answered {rule : State → Taken} {kind : Byte} {n : Nat}
    (hready : s.ready (headPort h) kind b) (hmem : (kind, n) ∈ headCatalogue) (hl : b.length = n)
    (hr : rule (s.dequeued (headPort h)) = (s.dequeued (headPort h)).grantHole h hd c)
    (hm : c.target.beyond = true → s.modeOf .thermalLimit = .noting) :
    ∃ ports : Vector Port 10, takeMessage (headPort h) kind b rule s = .next (s.granted h hd c ports)
      ∧ AnsweredAt s (s.granted h hd c ports) (headPort h) kind (s.grantReply hd c)
      ∧ (c.target.beyond = false →
        ports = repliedPorts s.ports (headPort h) kind (s.grantReply hd c)) := by
  obtain ⟨w, hpending, hsame, hgrant⟩ :=
    State.grantHole_committed (s := s.dequeued (headPort h)) (h := h) (hd := hd) hm
  have hrule := hr.trans hgrant
  obtain ⟨ports, hnext, hans, -⟩ := head_message_answered hready.1 hmem hl hrule hpending
  refine ⟨ports, hnext, hans, fun hb => ?_⟩
  have hnext' := head_answered hready hmem hl hrule (hsame hb)
  exact congrArg State.ports (Host.Outcome.next.inj (hnext.symm.trans hnext'))

/-- Settles O27: the bay by the ascent of the bays, the commit by the checks that pass. -/
theorem takeCommitsTheHoleGrant : Obligations.TakeCommitsTheHoleGrant := by
  constructor
  · exact fun p x bay hloaded hjoin hwide => PlanStore.bayOf_iff hloaded hjoin hwide
  · intro h b s hd hole j tgt bay hready hl hh hidle hw hstop hf hi hx hst hrail hj hdrill hset htier htgt
      hm h0 h1 hbay hclamp hroom hclear limit
    have hst' : hole.state = hd.kind.takes := hst.trans (by cases hd.kind <;> rfl)
    have hc : s.checkHole hd (u16At b 0) = .ok ⟨u16At b 0, hole, tgt, bay⟩ :=
      State.checkHole_passed hx hst' hrail hj (Joint.mixPasses_of hdrill hset) (Joint.tierPasses_of htier)
        htgt (inJig_iff.2 ⟨h0, h1⟩) hbay hclamp
    obtain ⟨ports, hnext, hans, hports⟩ := grant_answered (n := 2) (rule := ruleTake h b) hready (by decide)
      hl (ruleTake_eligible (s := s.dequeued (headPort h)) hh
        (State.requestRefused_idle hidle hw hstop hf) hi hc (headroomForOne_of hroom) hclear) hm
    refine ⟨_, hnext, ?_, PlanStore.onlyHoleChanged _ _ _, PlanStore.changeHole_state .., rfl, rfl, rfl,
      rfl, rfl, hans, hports, rfl⟩
    exact (PlanStore.hole?_changeHole_of hx).trans (congrArg some (Hole.granted_eq hole hd.kind h tgt.beyond))

/-! ### The choice of NEXT (R67) -/

/-- The key of R67 puts no hole before this one: lowest tier, then smallest distance, then lowest number. -/
def Eligible.leads (p : Int) (a b : Eligible) : Prop :=
  a.hole.tier < b.hole.tier ∨ a.hole.tier = b.hole.tier ∧
    ((a.target.x - p).natAbs < (b.target.x - p).natAbs ∨
      (a.target.x - p).natAbs = (b.target.x - p).natAbs ∧ a.index ≤ b.index)

theorem Eligible.leads_refl (p : Int) (a : Eligible) : a.leads p a := .inr ⟨rfl, .inr ⟨rfl, le_rfl⟩⟩

theorem Eligible.leads_trans {p : Int} {a b d : Eligible} (h : a.leads p b) (h' : b.leads p d) :
    a.leads p d := by
  simp only [leads, Fin.lt_def, Fin.ext_iff] at *
  omega

theorem Eligible.leads_of_before {p : Int} {a b : Eligible} (h : a.before p b = true) : a.leads p b := by
  simp only [before, Bool.or_eq_true, Bool.and_eq_true, decide_eq_true_eq, beq_iff_eq] at h
  exact h.imp_right (And.imp_right .inl)

/-- Of two holes in ascending number the first leads unless the second goes before it. -/
theorem Eligible.leads_of_not_before {p : Int} {a b : Eligible} (h : b.before p a = false)
    (hi : a.index < b.index) : a.leads p b := by
  simp only [before, Bool.or_eq_false_iff, Bool.and_eq_false_iff, decide_eq_false_iff_not,
    beq_eq_false_iff_ne, ne_eq, Fin.lt_def, Fin.ext_iff] at h
  simp only [leads, Fin.lt_def, Fin.ext_iff]
  omega

theorem chooseCandidate_eq_none {p : Int} {l : List Eligible} : chooseCandidate p l = none ↔ l = [] := by
  cases l with
  | nil => simp [chooseCandidate]
  | cons a l => cases hl : chooseCandidate p l <;> simp [chooseCandidate, hl]

/-- The hole chosen from candidates in ascending number leads them all. -/
theorem chooseCandidate_leads {p : Int} {l : List Eligible} (hl : l.Pairwise (fun a b => a.index < b.index))
    {c : Eligible} (hc : chooseCandidate p l = some c) : ∀ d ∈ l, c.leads p d := by
  induction l generalizing c with
  | nil => simp
  | cons a l ih =>
    obtain ⟨hlow, hl⟩ := List.pairwise_cons.1 hl
    cases hrest : chooseCandidate p l with
    | none =>
      obtain rfl : a = c := by simpa [chooseCandidate, hrest] using hc
      simpa [chooseCandidate_eq_none.1 hrest] using a.leads_refl p
    | some best =>
      have hbest := ih hl hrest
      have hchoice : (if best.before p a then best else a) = c := by simpa [chooseCandidate, hrest] using hc
      cases hb : best.before p a with
      | true =>
        obtain rfl : best = c := by simpa [hb] using hchoice
        exact List.forall_mem_cons.2 ⟨Eligible.leads_of_before hb, hbest⟩
      | false =>
        obtain rfl : a = c := by simpa [hb] using hchoice
        have hfirst := Eligible.leads_of_not_before hb (hlow best (chooseCandidate_mem hrest))
        exact List.forall_mem_cons.2 ⟨a.leads_refl p, fun d hd => Eligible.leads_trans hfirst (hbest d hd)⟩

/-- The hole of a number as a candidate of NEXT: it passes checks 6 to 13 and 15 (R67). -/
def State.candidateAt (s : State) (h : Slot) (hd : Head) (i : Nat) : Option Eligible :=
  match s.checkHole hd i with
  | .error _ => none
  | .ok c =>
    match s.hullConflict h hd c.target.x with
    | some _ => none
    | none => some c

theorem State.candidates_eq (s : State) (h : Slot) (hd : Head) :
    s.candidates h hd = (List.range s.plan.holes.length).filterMap (s.candidateAt h hd) := rfl

theorem State.candidateAt_eq_some {i : Nat} : s.candidateAt h hd i = some c
    ↔ s.checkHole hd i = .ok c ∧ s.hullConflict h hd c.target.x = none := by
  constructor
  · intro e
    unfold candidateAt at e
    split at e
    · cases e
    · rename_i hc
      split at e
      · cases e
      · rename_i hclear
        obtain rfl := Option.some.inj e
        exact ⟨hc, hclear⟩
  · rintro ⟨hc, hclear⟩
    simp only [candidateAt, hc, hclear]

/-- The candidates stand in ascending number (R67). -/
theorem State.candidates_ascend (s : State) (h : Slot) (hd : Head) :
    (s.candidates h hd).Pairwise (fun a b => a.index < b.index) := by
  rw [candidates_eq]
  refine List.pairwise_lt_range.filterMap _ fun i j hij a ha b hb => ?_
  rw [(checkHole_ok (candidateAt_eq_some.1 ha).1).1, (checkHole_ok (candidateAt_eq_some.1 hb).1).1]
  exact hij

theorem State.mem_candidates_iff : c ∈ s.candidates h hd ↔ c.index < s.plan.holes.length
    ∧ s.checkHole hd c.index = .ok c ∧ s.hullConflict h hd c.target.x = none := by
  rw [candidates_eq, List.mem_filterMap]
  constructor
  · rintro ⟨i, hi, hc⟩
    have hc := candidateAt_eq_some.1 hc
    obtain rfl := (checkHole_ok hc.1).1
    exact ⟨List.mem_range.1 hi, hc⟩
  · exact fun ⟨hi, hc⟩ => ⟨c.index, List.mem_range.2 hi, candidateAt_eq_some.2 hc⟩

theorem ruleNext_none (hh : s.heads[h] = some hd) (hreq : s.requestRefused hd = none)
    (hroom : s.headroomForOne = true) (hc : chooseCandidate hd.position (s.candidates h hd) = none) :
    ruleNext h s = (s, ⟨.noneEligible, 0, .none⟩) := by
  simp only [ruleNext, hh, hreq, State.nextHole, hroom, hc]
  exact refuse_eq (by decide) _ _

/-- Settles O28: the choice by the key, the candidates by their checks, the commit as that of a TAKE. -/
theorem nextGrantsTheBestCandidate : Obligations.NextGrantsTheBestCandidate := by
  refine ⟨fun p l hl => ⟨chooseCandidate_eq_none, fun c hc =>
    ⟨chooseCandidate_mem hc, chooseCandidate_leads hl hc⟩⟩,
    fun h s hd => ⟨s.candidates_ascend h hd, fun c => State.mem_candidates_iff⟩, ?_⟩
  intro h s hd hready hh hidle hw hstop hf hroom
  have hreq : (s.dequeued (headPort h)).requestRefused hd = none :=
    State.requestRefused_idle hidle hw hstop hf
  have hroom' : (s.dequeued (headPort h)).headroomForOne = true := headroomForOne_of hroom
  refine ⟨fun hnone => ?_, fun c hc hm => ?_⟩
  · exact head_answered (n := 0) (s' := s.dequeued (headPort h)) hready (by decide) rfl
      (ruleNext_none (s := s.dequeued (headPort h)) hh hreq hroom' hnone) rfl
  · obtain ⟨ports, hnext, hans, hports⟩ := grant_answered (n := 0) (rule := ruleNext h) hready (by decide)
      rfl (ruleNext_eligible (s := s.dequeued (headPort h)) hh hreq hroom' hc) hm
    exact ⟨_, hnext, congrArg (s.plan.changeHole c.index) (funext fun x => Hole.granted_eq x hd.kind h _),
      rfl, rfl, rfl, rfl, rfl, hans, hports, rfl⟩

end Sys2Proof.Machine
end

section
/-! SUPPORT. A HOLE grant that ends with its hole held under a class raised for it, and the expiry of a head's
timer (R82, R97). -/

namespace Sys2Proof.Machine

variable {s t : State} {h : Slot} {hd : Head} {g : HoleGrant}

/-! ### Notices that stay pending (R173) -/

/-- Each port on which a kind of notice is pending keeps it so. -/
def PendingKept (k : NoticeKind) (v w : Vector Port 10) : Prop :=
  ∀ q : PortId, k ∈ v[q].notices → k ∈ w[q].notices

theorem PendingKept.trans {k : NoticeKind} {v w x : Vector Port 10} (h : PendingKept k v w)
    (h' : PendingKept k w x) : PendingKept k v x := fun q hq => h' q (h q hq)

theorem mem_pendedPorts (v : Vector Port 10) (q : PortId) (k : NoticeKind) :
    k ∈ (pendedPorts v q k)[q].notices := by
  simp only [pendedPorts, Fin.getElem_fin, Vector.getElem_set_self]
  split
  · assumption
  · simp

theorem pendingKept_pended (k : NoticeKind) (v : Vector Port 10) (q : PortId) (k' : NoticeKind) :
    PendingKept k v (pendedPorts v q k') := by
  intro q' hk
  by_cases e : q' = q
  · subst e
    simp only [pendedPorts, Fin.getElem_fin, Vector.getElem_set_self]
    split
    · exact hk
    · exact List.mem_append_left _ hk
  · rwa [pendedPorts_other _ _ e]

theorem pendingKept_unpended {k k' : NoticeKind} (hne : k ≠ k') (v : Vector Port 10) (q : PortId) :
    PendingKept k v (unpendedPorts v q k') := by
  intro q' hk
  by_cases e : q' = q
  · subst e
    simpa [unpendedPorts, hne] using hk
  · rwa [unpendedPorts_other _ _ e]

theorem pendingKept_flagged (k : NoticeKind) (s : State) (c : DevClass) :
    PendingKept k s.ports (s.flaggedPorts c) := by
  unfold State.flaggedPorts
  split
  · exact fun _ => id
  · exact pendingKept_pended _ _ _ _

theorem pendingKept_recorded (k : NoticeKind) (s : State) : PendingKept k s.ports s.recordedPorts := by
  unfold State.recordedPorts
  split
  · exact pendingKept_pended _ _ _ _
  · exact fun _ => id

/-! ### A grant whose hole is held under a class raised for it (R15, R78, R126) -/

/-- The state after a class was raised for the hole of a HOLE grant and the grant ended with the hole held,
with the status and the details given and the ports given. -/
def State.withdrawn (s : State) (h : Slot) (kind : HeadKind) (g : HoleGrant) (c : DevClass)
    (status : HeadStatus) (a b : Int) (ports : Vector Port 10) : State :=
  { s with
    plan := s.plan.changeHole g.hole (fun x => (x.mark c).hold kind.work c)
    heads := s.heads.set h (s.heads[h].map (fun hd =>
      { hd with status := status, lastHold := some ⟨g.hole, c, s.clock⟩ }))
    timers := s.timers.set h .stopped
    log :=
      { records := s.log.records ++ [⟨s.log.sequence, g.hole, .held h g.x none c, false, s.clock⟩]
        sequence := s.log.sequence + 1, inFlight := s.log.inFlight - 1 }
    heat := { s.heat with
      waiting := s.heat.waiting.filter (fun w => w ≠ h)
      scrapped := if g.rivet.isSome then min 4294967295 (s.heat.scrapped + 1) else s.heat.scrapped }
    dev := raisedDev s c (some g.hole) (some h) a b
    ports := ports }

theorem State.raiseAndHold_eq (s : State) (h : Slot) (hd : Head) (g : HoleGrant) (c : DevClass)
    (status : HeadStatus) (a b : Int) : ∃ ports : Vector Port 10,
      OnlyPending s.ports ports ∧ PendingKept .hold s.ports ports
        ∧ (s.raiseForHole c g.hole h a b).endWithHold h hd g c status
          = s.withdrawn h hd.kind g c status a b ports := by
  have hpending := ((onlyPending_raiseForHole s c g.hole h a b).trans
    (onlyPending_endHoleGrant (State.changeHole _ g.hole (fun x => x.hold hd.kind.work c)) h g
      false status)).trans (onlyPending_recorded _)
  have hflagged := pendingKept_flagged .hold s c
  have hended := hflagged.trans (pendingKept_unpended (k' := .feedGiven) (by decide) _ (headPort h))
  refine ⟨_, hpending, ?_, ?_⟩
  · refine PendingKept.trans ?_ (pendingKept_recorded _ _)
    rw [endHoleGrant_eq, raiseForHole_eq]
    exact hended
  · rw [endWithHold_eq, raiseForHole_eq]
    simp only [changeHole, setPlan, endHoleGrant_eq,
      PlanStore.changeHole_changeHole _ _ _ (Hole.sameStand_mark _), HeatQueue.releaseHead_eq,
      Bool.not_false, Bool.and_true]
    rfl

/-! ### The expiry of a timer (R82, R97) -/

/-- An event that is due leaves its effect's state but for the notices sent, and what was announced stays so. -/
theorem event_announced {due : Bool} {effect : State → State} (hr : s.inReset = false) (hd : due = true)
    (he : effect s = t) (hp : OnlyPending s.ports t.ports) : ∃ ports : Vector Port 10,
      takeEvent due effect s = .next { t with ports := ports } ∧ OnlyNotices s { t with ports := ports }
        ∧ ∀ (q : PortId) (k : NoticeKind), t.announced q k → State.announced { t with ports := ports } q k := by
  obtain ⟨ports, hnext, hnotices⟩ := event_noticed hr hd he hp
  have hsent : ({ t with ports := ports } : State) = t.sendNotices :=
    Host.Outcome.next.inj (hnext.symm.trans (he ▸ takeEvent_due hr hd))
  exact ⟨ports, hnext, hnotices, fun q k hk => hsent ▸ State.announced_sendNotices hk⟩

theorem State.expiryDue_of {stage : TimerStage} {limit count : Nat}
    (ht : s.timers[h] = .counting stage limit count) (hrun : s.timerRunning h = true)
    (hc : limit ≤ count) : s.expiryDue h = true := by
  simp only [expiryDue, ht, hrun, hc, decide_true, Bool.and_true]

/-- A head with a grant that becomes STALE is announced on P8 (R87). -/
theorem State.noteTrouble_stale (s : State) (hg : hd.status.hasGrant = true) :
    s.noteTrouble (headStateOf (some hd)) .stale = s.makePending supervisorPort .headState := by
  cases hst : hd.status <;> simp [HeadStatus.hasGrant, noteTrouble, headStateOf, hst] at hg ⊢

theorem HeadStatus.hasGrant_of_holeGrant {st : HeadStatus} (hg : st.holeGrant = some g) :
    st.hasGrant = true := by
  cases st <;> simp_all [holeGrant, hasGrant]

/-- The expiry under a HOLE grant: the hole is held, and the rails and the notices follow (R82, R100). -/
theorem State.expireTimer_hole {stage : TimerStage} {limit count : Nat} (hh : s.heads[h] = some hd)
    (hg : hd.status.holeGrant = some g) (ht : s.timers[h] = .counting stage limit count) :
    ∃ ports : Vector Port 10, OnlyPending s.ports ports ∧ .hold ∈ ports[headPort h].notices
      ∧ .headState ∈ ports[supervisorPort].notices
      ∧ s.expireTimer h
        = (s.withdrawn h hd.kind g .workTimeout .stale limit stage.detail ports).judgeFreeze := by
  obtain ⟨w, hpending, -, heq⟩ := s.raiseAndHold_eq h hd g .workTimeout .stale limit stage.detail
  have hhold := onlyPending_pended w (headPort h) .hold
  refine ⟨_, (hpending.trans hhold).trans (onlyPending_pended _ supervisorPort .headState),
    pendingKept_pended _ _ _ _ _ (mem_pendedPorts _ _ _), mem_pendedPorts _ _ _, ?_⟩
  simp only [expireTimer, hh, hg, ht, MotionTimer.details,
    noteTrouble_stale _ (HeadStatus.hasGrant_of_holeGrant hg), heq, makePending_eq]
  rfl

/-- The expiry under a MOVE grant (R82, R97). -/
theorem State.expireTimer_move {m : MoveGrant} (hh : s.heads[h] = some hd)
    (hm : hd.status = .travelMove m) : s.expireTimer h
      = (s.endMoveGrant h .stale).judgeFreeze.makePending supervisorPort .headState := by
  have hgrant : hd.status.hasGrant = true := by rw [hm]; rfl
  have hnone : hd.status.holeGrant = none := by rw [hm]; rfl
  simp only [expireTimer, hh, hnone, noteTrouble_stale _ hgrant]

/-- Settles O37: the two expiries, each as its rule leaves it and with the notices it sends. -/
theorem timerExpiryMakesTheHeadStale : Obligations.TimerExpiryMakesTheHeadStale := by
  constructor
  · intro h s hd g hole stage limit count hr hh hg hx ht hrun hc
    have hg' : hd.status.holeGrant = some g := by rcases hg with e | e <;> rw [e] <;> rfl
    obtain ⟨w, hpending, hhold, hstate, heffect⟩ := State.expireTimer_hole hh hg' ht
    obtain ⟨ports, hnext, hnotices, hann⟩ := event_announced (effect := fun x => x.expireTimer h) hr
      (State.expiryDue_of ht hrun hc) heffect hpending
    have hplan := PlanStore.hole?_changeHole_of (f := fun x =>
      (x.mark .workTimeout).hold hd.kind.work .workTimeout) hx
    rw [Hole.hold_mark] at hplan
    exact ⟨_, hnext, heads_set_map hh _, rfl, hplan, PlanStore.onlyHoleChanged _ _ _,
      PlanStore.changeHole_state .., rfl, rfl, rfl, State.freezeFits_judgeFreeze _, hann _ _ (.inl hhold),
      hann _ _ (.inl hstate), hnotices, rfl⟩
  · intro h s hd g stage limit count hr hh hg ht hrun hc
    have heffect := State.expireTimer_move hh hg
    have hnoted := State.makePending_announced (s.endMoveGrant h .stale).judgeFreeze supervisorPort
      .headState
    rw [State.makePending_eq, State.endMoveGrant_eq] at heffect hnoted
    obtain ⟨ports, hnext, hnotices, hann⟩ := event_announced (effect := fun x => x.expireTimer h) hr
      (State.expiryDue_of ht hrun hc) heffect (onlyPending_pended _ _ _)
    exact ⟨_, hnext, heads_set_map hh _, rfl, State.freezeFits_judgeFreeze _, hann _ _ hnoted, hnotices,
      rfl⟩

end Sys2Proof.Machine
end

section
/-! SUPPORT. A clamp drop judges the heads at work on its bay one after the other, and the judgement of one
slot leaves the others as they are (R80). -/

namespace Sys2Proof.Machine

variable {s t u : State} {h w : Slot} {hd : Head} {g : HoleGrant} {bay : Nat}

/-! ### One head judged by a clamp drop (R80) -/

/-- A slot a clamp drop spares: its head is not in WORK on the bay. -/
def State.spared (s : State) (bay : Nat) (h : Slot) : Prop :=
  ∀ (hd : Head) (g : HoleGrant), s.heads[h] = some hd → hd.status = .work g → g.bay ≠ bay

theorem State.not_spared : ¬s.spared bay h
    ↔ ∃ (hd : Head) (g : HoleGrant), s.heads[h] = some hd ∧ hd.status = .work g ∧ g.bay = bay := by
  simp [spared]

theorem State.judgeDrop_spared (hs : s.spared bay h) : s.judgeDrop bay h = s := by
  unfold judgeDrop
  split
  · rfl
  · rename_i hd hh
    split
    · rename_i g hg
      exact if_neg (hs hd g hh hg)
    · rfl

theorem State.judgeDrop_noting (hh : s.heads[h] = some hd) (hg : hd.status = .work g) (hb : g.bay = bay)
    (hm : s.modeOf .clampLost = .noting) :
    s.judgeDrop bay h = s.raiseForHole .clampLost g.hole h bay 0 := by
  have hm' : (s.raiseForHole .clampLost g.hole h bay 0).modeOf .clampLost = .noting := by
    rw [raiseForHole_eq]
    exact hm
  simp only [judgeDrop, hh, hg, hb, if_true, hm']

theorem State.judgeDrop_holding (hh : s.heads[h] = some hd) (hg : hd.status = .work g) (hb : g.bay = bay)
    (hm : s.modeOf .clampLost = .holding) : ∃ ports : Vector Port 10, PendingKept .hold s.ports ports
      ∧ .hold ∈ ports[headPort h].notices
      ∧ s.judgeDrop bay h = s.withdrawn h hd.kind g .clampLost .idle bay 0 ports := by
  have hm' : (s.raiseForHole .clampLost g.hole h bay 0).modeOf .clampLost = .holding := by
    rw [raiseForHole_eq]
    exact hm
  obtain ⟨w, -, hkept, heq⟩ := s.raiseAndHold_eq h hd g .clampLost .idle bay 0
  refine ⟨_, hkept.trans (pendingKept_pended _ _ (headPort h) .hold), mem_pendedPorts _ _ _, ?_⟩
  simp only [judgeDrop, hh, hg, hb, if_true, hm', heq, makePending_eq]
  rfl

/-- What the judgement of slot w leaves: the state as it was when w is spared, else CLAMP_LOST raised for the
head's hole, and under HOLDING the head withdrawn. -/
theorem State.judgeDrop_cases (s : State) (bay : Nat) (w : Slot) : s.judgeDrop bay w = s ∨
    ∃ (hd : Head) (g : HoleGrant), s.heads[w] = some hd ∧ hd.status = .work g ∧
      (s.judgeDrop bay w = s.raiseForHole .clampLost g.hole w bay 0 ∨
        ∃ ports : Vector Port 10, PendingKept .hold s.ports ports
          ∧ s.judgeDrop bay w = s.withdrawn w hd.kind g .clampLost .idle bay 0 ports) := by
  by_cases hs : s.spared bay w
  · exact .inl (judgeDrop_spared hs)
  · obtain ⟨hd, g, hh, hg, hb⟩ := not_spared.1 hs
    refine .inr ⟨hd, g, hh, hg, ?_⟩
    cases hm : s.modeOf .clampLost with
    | noting => exact .inl (judgeDrop_noting hh hg hb hm)
    | holding =>
      obtain ⟨ports, hkept, -, heq⟩ := judgeDrop_holding hh hg hb hm
      exact .inr ⟨ports, hkept, heq⟩

/-- A clamp drop judges further heads: what it may write, and the modes and a filled first-deviation record
that stand. -/
structure State.Dropped (s t : State) : Prop where
  frame : t = { s with heads := t.heads, timers := t.timers, plan := t.plan, log := t.log,
                       heat := t.heat, dev := t.dev, ports := t.ports }
  modes : t.dev.modes = s.dev.modes
  kept : s.holesKept → t.holesKept
  raised : s.dev.flags[DevClass.clampLost.index] = true → s.dev.first.isSome = true → t.dev = s.dev

theorem State.Dropped.refl (s : State) : s.Dropped s := ⟨rfl, rfl, id, fun _ _ => rfl⟩

theorem State.Dropped.trans (h : s.Dropped t) (h' : t.Dropped u) : s.Dropped u where
  frame := by rw [h'.frame, h.frame]
  modes := h'.modes.trans h.modes
  kept := h'.kept ∘ h.kept
  raised hflag hfirst := by
    have hdev := h.raised hflag hfirst
    exact (h'.raised (hdev ▸ hflag) (hdev ▸ hfirst)).trans hdev

/-- A class whose flag is set changes nothing of the Deviation Unit once the first record is filled (R126,
R128). -/
theorem raisedDev_again {c : DevClass} (hflag : s.dev.flags[c.index] = true)
    (hfirst : s.dev.first.isSome = true) (i : Option Nat) (h : Option Slot) (a b : Int) :
    raisedDev s c i h a b = s.dev := by
  obtain ⟨f, hf⟩ := Option.isSome_iff_exists.1 hfirst
  have hset : s.dev.flags.set c.index true = s.dev.flags := by rw [← hflag]; simp
  rw [raisedDev, hset, hf, Option.some_or, ← hf]

theorem State.judgeDrop_dropped (s : State) (bay : Nat) (w : Slot) : s.Dropped (s.judgeDrop bay w) := by
  have hkept : s.holesKept → (s.judgeDrop bay w).holesKept := fun hs => ((s.judgeDrop_moves bay w).kept hs).1
  rcases s.judgeDrop_cases bay w with e | ⟨hd, g, hh, hg, e | ⟨ports, -, e⟩⟩
  · rw [e]
    exact .refl s
  · rw [raiseForHole_eq] at e
    exact ⟨by rw [e], by rw [e]; rfl, hkept, fun hflag hfirst => by
      rw [e]; exact raisedDev_again hflag hfirst _ _ _ _⟩
  · exact ⟨by rw [e]; rfl, by rw [e]; rfl, hkept, fun hflag hfirst => by
      rw [e]; exact raisedDev_again hflag hfirst _ _ _ _⟩

/-- What the judgement of other slots leaves of a slot: its head and timer, a HOLD notice pending on its port,
and its absence from the waiting list. -/
structure State.SlotKept (h : Slot) (s t : State) : Prop where
  head : t.heads[h] = s.heads[h]
  timer : t.timers[h] = s.timers[h]
  notice : .hold ∈ s.ports[headPort h].notices → .hold ∈ t.ports[headPort h].notices
  waiting : h ∉ s.heat.waiting → h ∉ t.heat.waiting

theorem State.SlotKept.refl (h : Slot) (s : State) : SlotKept h s s := ⟨rfl, rfl, id, id⟩

theorem State.SlotKept.trans (hk : SlotKept h s t) (hk' : SlotKept h t u) : SlotKept h s u :=
  ⟨hk'.head.trans hk.head, hk'.timer.trans hk.timer, hk'.notice ∘ hk.notice, hk'.waiting ∘ hk.waiting⟩

theorem State.judgeDrop_slotKept (s : State) (bay : Nat) (hne : w ≠ h) :
    SlotKept h s (s.judgeDrop bay w) := by
  have hval : w.val ≠ h.val := fun e => hne (Fin.ext e)
  rcases s.judgeDrop_cases bay w with e | ⟨hd, g, hh, hg, e | ⟨ports, hports, e⟩⟩
  · rw [e]
    exact .refl h s
  · rw [e, raiseForHole_eq]
    exact ⟨rfl, rfl, pendingKept_flagged _ _ _ _, id⟩
  · rw [e]
    refine ⟨?_, ?_, hports _, fun hw hm => hw (List.mem_filter.1 hm).1⟩
    · simp [withdrawn, hval]
    · simp [withdrawn, hval]

/-- The hole of a head at work names the head's slot (R11). -/
theorem State.holesKept_names (hs : s.holesKept) (hh : s.heads[h] = some hd) (hg : hd.status = .work g)
    {x : Hole} (hx : s.plan.hole? g.hole = some x) : x.grantHead = some h := by
  obtain ⟨-, y, hy, -, hname⟩ :=
    (holesKept_iff.1 hs).1 h hd.kind g.hole (workAt_grant hh (by rw [hg]; rfl))
  exact Option.some.inj (hx.symm.trans hy) ▸ hname

/-- No slot's judgement writes a hole that does not name the slot. -/
theorem State.judgeDrop_hole? {i : Nat} {x : Hole} (hs : s.holesKept) (bay : Nat)
    (hx : s.plan.hole? i = some x) (hgrant : x.grantHead ≠ some w) :
    (s.judgeDrop bay w).plan.hole? i = some x := by
  rcases s.judgeDrop_cases bay w with e | ⟨hd, g, hh, hg, hcase⟩
  · rwa [e]
  · have hi : i ≠ g.hole := fun e => hgrant (holesKept_names hs hh hg (e ▸ hx))
    rcases hcase with e | ⟨ports, -, e⟩
    · rw [e, raiseForHole_plan, PlanStore.hole?_changeHole_other _ _ hi, hx]
    · rw [e, withdrawn, PlanStore.hole?_changeHole_other _ _ hi, hx]

/-! ### The heads judged one after the other (R80) -/

/-- A clamp drop judges the heads of some slots, in the order given. -/
def State.dropOver (s : State) (bay : Nat) (l : List Slot) : State :=
  l.foldl (fun acc h => acc.judgeDrop bay h) s

theorem State.dropOver_cons (s : State) (bay : Nat) (w : Slot) (l : List Slot) :
    s.dropOver bay (w :: l) = (s.judgeDrop bay w).dropOver bay l := rfl

theorem State.dropOver_dropped (s : State) (bay : Nat) (l : List Slot) : s.Dropped (s.dropOver bay l) := by
  induction l generalizing s with
  | nil => exact .refl s
  | cons w l ih => exact (s.judgeDrop_dropped bay w).trans (ih _)

theorem State.dropOver_spared {l : List Slot} (hl : ∀ w ∈ l, s.spared bay w) : s.dropOver bay l = s := by
  induction l with
  | nil => rfl
  | cons w l ih =>
    rw [dropOver_cons, judgeDrop_spared (hl w (by simp))]
    exact ih fun v hv => hl v (List.mem_cons_of_mem _ hv)

theorem State.dropOver_slotKept (s : State) (bay : Nat) {l : List Slot} (hl : ∀ w ∈ l, w ≠ h) :
    SlotKept h s (s.dropOver bay l) := by
  induction l generalizing s with
  | nil => exact .refl h s
  | cons w l ih =>
    exact (s.judgeDrop_slotKept bay (hl w (by simp))).trans
      (ih _ fun v hv => hl v (List.mem_cons_of_mem _ hv))

theorem State.dropOver_hole? {i : Nat} {x : Hole} {l : List Slot} (hs : s.holesKept) (bay : Nat)
    (hx : s.plan.hole? i = some x) (hgrant : ∀ w ∈ l, x.grantHead ≠ some w) :
    (s.dropOver bay l).plan.hole? i = some x := by
  induction l generalizing s with
  | nil => exact hx
  | cons w l ih =>
    exact ih ((s.judgeDrop_dropped bay w).kept hs) (judgeDrop_hole? hs bay hx (hgrant w (by simp)))
      fun v hv => hgrant v (List.mem_cons_of_mem _ hv)

/-- A clamp drop judges the lower slots, then a slot, then the higher ones. -/
theorem State.clampDrop_at (s : State) (bay : Nat) (h : Slot) : ∃ low high : List Slot,
    (∀ w ∈ low, w < h) ∧ (∀ w ∈ high, h < w)
      ∧ s.clampDrop bay = ((s.dropOver bay low).judgeDrop bay h).dropOver bay high := by
  obtain ⟨low, high, hsplit⟩ := List.append_of_mem (List.mem_finRange h)
  have hasc : (low ++ h :: high).Pairwise (· < ·) := hsplit ▸ List.pairwise_lt_finRange 8
  obtain ⟨-, hhigh, hlow⟩ := List.pairwise_append.1 hasc
  refine ⟨low, high, fun w hw => hlow w hw h (by simp), (List.pairwise_cons.1 hhigh).1, ?_⟩
  have hall : s.clampDrop bay = s.dropOver bay (low ++ h :: high) :=
    congrArg (s.dropOver bay) hsplit
  rw [hall, dropOver, List.foldl_append]
  rfl

theorem State.clampDrop_spared (hs : s.spared bay h) :
    (s.clampDrop bay).heads[h] = s.heads[h] ∧ (s.clampDrop bay).timers[h] = s.timers[h] := by
  obtain ⟨low, high, hlow, hhigh, hdrop⟩ := s.clampDrop_at bay h
  have hbefore := s.dropOver_slotKept bay fun w hw => (hlow w hw).ne
  have hspared : (s.dropOver bay low).spared bay h := fun hd g hh =>
    hs hd g (hbefore.head ▸ hh)
  have hafter := (s.dropOver bay low).dropOver_slotKept bay fun w hw => (hhigh w hw).ne'
  rw [hdrop, judgeDrop_spared hspared]
  exact ⟨(hbefore.trans hafter).head, (hbefore.trans hafter).timer⟩

/-- The lowest head a clamp drop finds at work on the bay is the one whose raising stands (R126). -/
theorem State.clampDrop_dev (hh : s.heads[h] = some hd) (hg : hd.status = .work g) (hb : g.bay = bay)
    (hlowest : ∀ w < h, s.spared bay w) :
    (s.clampDrop bay).dev = raisedDev s .clampLost (some g.hole) (some h) bay 0 := by
  obtain ⟨low, high, hlow, -, hdrop⟩ := s.clampDrop_at bay h
  rw [hdrop, dropOver_spared fun w hw => hlowest w (hlow w hw)]
  have hdev : (s.judgeDrop bay h).dev = raisedDev s .clampLost (some g.hole) (some h) bay 0 := by
    cases hm : s.modeOf .clampLost with
    | noting => rw [judgeDrop_noting hh hg hb hm, raiseForHole_eq]
    | holding =>
      obtain ⟨ports, -, -, e⟩ := judgeDrop_holding hh hg hb hm
      rw [e, withdrawn]
  have hdropped := (s.judgeDrop bay h).dropOver_dropped bay high
  rw [hdropped.raised, hdev]
  · rw [hdev]; simp [raisedDev]
  · rw [hdev]; simp [raisedDev]

/-- A clamp drop makes of a head at work on the bay, and of its hole, what its own judgement makes of them in
a state that has them as s has. -/
theorem State.clampDrop_slot {x : Hole} (hs : s.holesKept) (hh : s.heads[h] = some hd)
    (hg : hd.status = .work g) (hx : s.plan.hole? g.hole = some x) : ∃ u : State,
      s.Dropped u ∧ SlotKept h s u ∧ u.plan.hole? g.hole = some x
        ∧ SlotKept h (u.judgeDrop bay h) (s.clampDrop bay)
        ∧ ∀ y : Hole, (u.judgeDrop bay h).plan.hole? g.hole = some y → (∀ w ≠ h, y.grantHead ≠ some w) →
          (s.clampDrop bay).plan.hole? g.hole = some y := by
  obtain ⟨low, high, hlow, hhigh, hdrop⟩ := s.clampDrop_at bay h
  have hdropped := s.dropOver_dropped bay low
  have hname := holesKept_names hs hh hg hx
  have hkept := (State.judgeDrop_dropped _ bay h).kept (hdropped.kept hs)
  refine ⟨s.dropOver bay low, hdropped, s.dropOver_slotKept bay fun w hw => (hlow w hw).ne,
    dropOver_hole? hs bay hx fun w hw e => ?_,
    hdrop ▸ State.dropOver_slotKept _ bay fun w hw => (hhigh w hw).ne',
    fun y hy hother => hdrop ▸ dropOver_hole? hkept bay hy fun w hw => hother w (hhigh w hw).ne'⟩
  exact (hlow w hw).ne (Option.some.inj (e.symm.trans hname))

/-- Under HOLDING the head is withdrawn, its hole held and HOLD pending on its port (R80, R81). -/
theorem State.clampDrop_holding {x : Hole} (hs : s.holesKept) (hh : s.heads[h] = some hd)
    (hg : hd.status = .work g) (hb : g.bay = bay) (hx : s.plan.hole? g.hole = some x)
    (hm : s.modeOf .clampLost = .holding) :
    (s.clampDrop bay).heads[h] = some { hd with
        status := .idle, lastHold := some ⟨g.hole, .clampLost, s.clock⟩ }
      ∧ (s.clampDrop bay).timers[h] = .stopped ∧ .hold ∈ (s.clampDrop bay).ports[headPort h].notices
      ∧ h ∉ (s.clampDrop bay).heat.waiting
      ∧ (s.clampDrop bay).plan.hole? g.hole = some ((x.mark .clampLost).hold hd.kind.work .clampLost) := by
  obtain ⟨u, hu, huh, hux, hut, hole?⟩ := clampDrop_slot (bay := bay) hs hh hg hx
  have hclock : u.clock = s.clock := by rw [hu.frame]
  have hmode : u.modeOf .clampLost = .holding := by rwa [modeOf, hu.modes]
  have huhead := huh.head.trans hh
  obtain ⟨ports, -, hhold, e⟩ := judgeDrop_holding huhead hg hb hmode
  rw [e] at hut hole?
  have hwaiting : h ∉ (u.withdrawn h hd.kind g .clampLost .idle bay 0 ports).heat.waiting := by
    simp [withdrawn]
  refine ⟨hut.head.trans ?_, hut.timer.trans ?_, hut.notice hhold, hut.waiting hwaiting,
    hole? _ (PlanStore.hole?_changeHole_of hux) fun w _ => (Option.some_ne_none w).symm⟩
  · simp [withdrawn, huhead, hclock]
  · simp [withdrawn]

/-- Under NOTING the grant goes on, and the hole is marked (R80). -/
theorem State.clampDrop_noting {x : Hole} (hs : s.holesKept) (hh : s.heads[h] = some hd)
    (hg : hd.status = .work g) (hb : g.bay = bay) (hx : s.plan.hole? g.hole = some x)
    (hm : s.modeOf .clampLost = .noting) :
    (s.clampDrop bay).heads[h] = s.heads[h] ∧ (s.clampDrop bay).timers[h] = s.timers[h]
      ∧ (s.clampDrop bay).plan.hole? g.hole = some (x.mark .clampLost) := by
  obtain ⟨u, hu, huh, hux, hut, hole?⟩ := clampDrop_slot (bay := bay) hs hh hg hx
  have hmode : u.modeOf .clampLost = .noting := by rwa [modeOf, hu.modes]
  have hname := holesKept_names hs hh hg hx
  rw [judgeDrop_noting (huh.head.trans hh) hg hb hmode, raiseForHole_eq] at hut hole?
  refine ⟨hut.head.trans huh.head, hut.timer.trans huh.timer,
    hole? _ (PlanStore.hole?_changeHole_of hux) fun w hw e => hw ?_⟩
  rw [Hole.mark_eq] at e
  exact Option.some.inj (e.symm.trans hname)

/-- Settles O40: each clause by the judgement of its slot, the others' leaving it as it is. -/
theorem clampDropWithdrawsTheHeadsAtWork : Obligations.ClampDropWithdrawsTheHeadsAtWork := by
  intro bay s hs
  refine ⟨fun h => State.clampDrop_spared, fun hall => State.dropOver_spared fun w _ => hall w,
    fun h hd g hh hg hb => State.clampDrop_dev hh hg hb, fun h hd g hole hh hg hb hx => ⟨fun hm => ?_,
      fun hm => ?_⟩, (s.dropOver_dropped bay _).frame⟩
  · have hheld := State.clampDrop_holding hs hh hg hb hx hm
    rw [Hole.hold_mark] at hheld
    exact hheld
  · have hnoted := State.clampDrop_noting hs hh hg hb hx hm
    rw [Hole.mark_eq] at hnoted
    exact hnoted

end Sys2Proof.Machine
end

section
/-! SUPPORT. The six queries: what each reports, and that it changes nothing but its port's queues (R23, R63,
R123, R135, R161, R177). -/

namespace Sys2Proof.Machine

variable {s : State} {h : Slot} {b : List Byte}

/-! ### Reports computed place by place -/

theorem getElem_mapRow {α β : Type} {n : Nat} (f : α → β) (v : Vector α n) (i : Fin n) :
    (mapRow f v)[i] = f v[i] := by
  simp [mapRow]

theorem getElem?_map_toList {α β : Type} {n : Nat} (f : α → β) (v : Vector α n) (i : Fin n) :
    (v.toList.map f)[i.val]? = some (f v[i]) := by
  simp

/-- The classes the supervisor may set are those that are not fixed (R125, R135). -/
theorem settable_iff (c : DevClass) :
    (mapRow (fun c => !c.fixed) classRow)[c.index] = decide (c ≠ .workTimeout ∧ c ≠ .linkBreak) := by
  cases c <;> rfl

/-! ### PLAN_READ (R23) -/

theorem PlanStore.readRecords_one {p : PlanStore} {i : Nat} (hi : i < p.holeCount) :
    p.readRecords i 1 = [(i, p.hole? i)] := by
  simp [readRecords, Nat.mod_eq_of_lt hi]

/-- The index after the last wraps to the first (R23). -/
theorem PlanStore.readRecords_two {p : PlanStore} {i : Nat} (hi : i < p.holeCount) :
    let j := if i + 1 = p.holeCount then 0 else i + 1
    p.readRecords i 2 = [(i, p.hole? i), (j, p.hole? j)] := by
  intro j
  have hj : (i + 1) % p.holeCount = j := by
    by_cases e : i + 1 = p.holeCount
    · simp [j, e]
    · simp only [j, e, if_false]
      exact Nat.mod_eq_of_lt (by omega)
  simp [readRecords, List.range_succ, Nat.mod_eq_of_lt hi, hj]

theorem rulePlanRead_inRange (hst : s.plan.state ≠ .empty) (hi : u16At b 0 < s.plan.holeCount)
    (hn : 1 ≤ u8At b 2 ∧ u8At b 2 ≤ 2) :
    rulePlanRead b s = (s, ⟨.ok, 0, .planRecords (s.plan.readRecords (u16At b 0) (u8At b 2))⟩) := by
  simp [rulePlanRead, hst, hi, inRange_iff.2 hn]

/-! ### TERM_READ and the picture of the tray (R123, R161) -/

theorem ruleTermRead_named {n : TermId} (hn : u8At b 0 = n.val) :
    ruleTermRead b s = (s, ⟨.ok, 0, .terminalRecord (s.termReport s.terminals[n])⟩) := by
  simp only [ruleTermRead, indexAt_of_eq hn]

theorem State.termReport_eq (s : State) (r : Terminal) :
    let switch : Bool := decide (r.mode = .switchIn)
    s.termReport r =
      { mode := r.mode, function := r.function, polarity := r.polarity, edge := r.edge
        pendingEnable := r.pendingEnable, latch := r.latch
        level := switch && r.level, pending := switch && r.pending
        candidate := if switch then r.candidate.map (fun c => (c.active, (s.clock - c.since).toNat)) else none
        activeLevel := if r.mode = .out then some (s.activeLevel r) else none
        probe := if r.mode = .probeIn then some (r.probeOk, r.probeValue, r.lastCode, r.runCount)
          else none } := by
  by_cases hm : r.mode = .switchIn <;> simp [termReport, hm, age]

theorem State.holeClass_eq (s : State) : s.holeClass = s.classOf := by
  funext h
  simp only [holeClass, classOf, Option.map_bind]
  rfl

/-! ### A query is answered (R172) -/

/-- A head station's message whose rule leaves the state as it is changes nothing beyond its reply. -/
theorem head_reported {rule : State → Taken} {kind : Byte} {n : Nat} {r : Reply}
    (hready : s.ready (headPort h) kind b) (hm : (kind, n) ∈ headCatalogue) (hl : b.length = n)
    (hr : rule (s.dequeued (headPort h)) = (s.dequeued (headPort h), r)) :
    takeMessage (headPort h) kind b rule s =
      .next { s with ports := repliedPorts s.ports (headPort h) kind r } :=
  head_answered (s' := s.dequeued (headPort h)) hready hm hl hr rfl

/-- The heater's message whose rule leaves the state as it is changes nothing beyond its reply. -/
theorem heater_reported {rule : State → Taken} {kind : Byte} {r : Reply}
    (hready : s.ready heaterPort kind b) (hm : (kind, b.length) ∈ heaterCatalogue)
    (hk : kindKnown heaterPort kind = true)
    (hr : rule (s.dequeued heaterPort) = (s.dequeued heaterPort, r)) :
    takeMessage heaterPort kind b rule s =
      .next { s with ports := repliedPorts s.ports heaterPort kind r } :=
  takeMessage_answered (s' := s.dequeued heaterPort) hready.2 hready.1 hk (lengthFits_heater hm rfl) hr rfl

/-! ### The pages of LINE_QUERY (R177) -/

/-- The state a page is built from: the message has left its queue, and a reply has joined the transmit queue
(R172, R177). -/
def State.queried (s : State) : State :=
  (s.dequeued supervisorPort).appendReply supervisorPort kindLineQuery ⟨.ok, 0, .none⟩

theorem State.queried_ports (s : State) :
    s.queried.ports = repliedPorts s.ports supervisorPort kindLineQuery ⟨.ok, 0, .none⟩ :=
  appendReply_ports (u := s.dequeued supervisorPort) rfl _ _

theorem ruleLineQuery_page {pg : LinePage} (hp : s.queried.page (u8At b 0) = some pg) :
    ruleLineQuery b (s.dequeued supervisorPort)
      = (s.dequeued supervisorPort, ⟨.ok, 0, .page pg⟩) := by
  have hpage : ((s.dequeued supervisorPort).appendReply supervisorPort kindLineQuery
      (plainReply .ok)).page (u8At b 0) = some pg := hp
  simp only [ruleLineQuery, hpage]

theorem State.page_beyond (s : State) (n : Nat) : s.page (8 + n) = none := by
  rw [Nat.add_comm]
  rfl

theorem ruleLineQuery_beyond (hk : 8 ≤ u8At b 0) : ruleLineQuery b s = (s, ⟨.badField, 0, .none⟩) := by
  obtain ⟨n, hn⟩ := Nat.exists_eq_add_of_le hk
  simp only [ruleLineQuery, hn, State.page_beyond]
  exact refuse_eq (by decide) _ _

theorem page_answered {pg : LinePage} (hready : s.ready supervisorPort kindLineQuery b)
    (hl : b.length = 1) {k : Nat} (hk : u8At b 0 = k) (hp : s.queried.page k = some pg) :
    exec (.lineQuery b) s = .next { s with
      ports := repliedPorts s.ports supervisorPort kindLineQuery ⟨.ok, 0, .page pg⟩ } :=
  supervisor_refused (n := 1) hready (by decide) hl (ruleLineQuery_page (hk ▸ hp))

theorem State.freezingSlots_eq (s : State) (r : Rail) :
    s.freezingSlots r = (List.finRange 8).filter (fun h => (s.heads[h]).any (fun hd =>
      hd.rail == r && (hd.status == .stale || hd.status == .faulted))) := by
  refine List.filter_congr fun h _ => ?_
  cases s.heads[h] with
  | none => rfl
  | some hd => cases hst : hd.status <;> simp [HeadStatus.freezes, hst]

/-- One segment of page SEGMENTS by its status (R35). -/
theorem State.segmentReport_eq {k : Nat} {g : Segment} (hk : s.thermal[k]? = some g) :
    s.segmentReport k g = (match g.status with
      | .live v => ⟨0, some v, none⟩
      | .held v start => ⟨1, some v, some (s.clock - start).toNat⟩
      | .substituted => ⟨2, valueUsed s.thermal k, none⟩
      | .unknown => ⟨3, none, none⟩) := by
  cases hst : g.status <;> simp [segmentReport, SegStatus.code, hst, valueUsed, hk, age]

theorem State.segmentReports_getElem? {k : Nat} {g : Segment} (hk : s.thermal[k]? = some g) :
    (s.thermal.zipIdx.map (fun gk => s.segmentReport gk.2 gk.1))[k]? = some (s.segmentReport k g) := by
  simp [hk]

/-- Settles O60: each query by its rule's report. -/
theorem queriesReportAndChangeNothing : Obligations.QueriesReportAndChangeNothing := by
  refine ⟨?_, ?_, ?_, ?_, ?_⟩
  · intro h s hready
    exact head_reported (n := 0) (rule := ruleHeadQuery h) hready (by decide) rfl rfl
  · intro b s hready hl hst hi
    have hread := fun hn => supervisor_refused (n := 3) hready (by decide) hl
      (rulePlanRead_inRange (s := s.dequeued supervisorPort) hst hi hn)
    rw [State.dequeued_plan] at hread
    refine ⟨fun hone => ?_, fun htwo => ?_⟩
    · rw [hone, PlanStore.readRecords_one hi] at hread
      exact hread (by omega)
    · rw [htwo, PlanStore.readRecords_two hi] at hread
      exact hread (by omega)
  · intro s hready
    exact ⟨_, settable_iff, supervisor_refused (n := 0) (rule := ruleDevRead) hready (by decide) rfl rfl⟩
  · intro b s n hready hl hn r switch
    have hread := supervisor_refused (n := 1) hready (by decide) hl
      (ruleTermRead_named (s := s.dequeued supervisorPort) hn)
    rw [State.termReport_eq] at hread
    exact hread
  · intro s
    refine ⟨mapRow (fun b => b * 100) s.params.budgets, fun c => getElem_mapRow _ _ c, ?_⟩
    intro aged heat
    have hheat : s.heatReport = heat := by
      simp only [State.heatReport, State.holeClass_eq]
      rfl
    refine ⟨fun hready => ?_, ?_⟩
    · rw [← hheat]
      exact heater_reported (rule := ruleHeaterQuery) hready (by decide) (by decide) rfl
    · intro b hready hl freezing counted answers
      have page : ∀ {k : Nat} {pg : LinePage}, s.queried.page k = some pg → u8At b 0 = k → answers pg :=
        fun hp hk => page_answered hready hl hk hp
      refine ⟨page rfl, fun hk => ⟨_, ?_, fun k g hg => ?_, page rfl hk⟩, page rfl, page rfl, page ?_,
        page (congrArg (fun r => some (LinePage.heat r s.heat.waiting)) hheat), page rfl,
        fun hk => ⟨_, ?_, fun p => ?_, page rfl hk⟩, fun hk => ?_⟩
      · exact (List.length_map _).trans List.length_zipIdx
      · have hg' : s.queried.thermal[k]? = some g := hg
        exact (State.segmentReports_getElem? hg').trans (congrArg some (State.segmentReport_eq hg'))
      · simp only [State.page, State.linePage, State.freezingSlots_eq]
        rfl
      · simp
      · rw [State.queried_ports]
        exact getElem?_map_toList Port.report counted p
      · exact supervisor_refused (n := 1) hready (by decide) hl (ruleLineQuery_beyond hk)

end Sys2Proof.Machine
end

section
/-! SUPPORT. The laws of the timers, the waiting list and the freeze, slot by slot: what they read of a state,
and the changes of one slot that keep them (R62, R90, R100, R113). -/

namespace Sys2Proof.Machine

/-! ### What the laws read of a state -/

/-- The class of the loaded hole of a number. -/
def PlanStore.classAt (p : PlanStore) (i : Nat) : Option RivetClass := (p.hole? i).map Hole.cls

/-- The freeze of each rail, and whether STALE_ACTION is FREEZE (R99, R100). -/
def State.freezes (s : State) : Bool × Bool × Bool := (s.freezeA, s.freezeB, s.params.staleFreeze)

/-- What the laws of the timers, the waiting list and the freeze read of a state. -/
structure TimingView where
  heads : Vector (Option Head) 8
  timers : Vector MotionTimer 8
  heat : HeatQueue
  classes : Nat → Option RivetClass
  freezes : Bool × Bool × Bool

def State.timingView (s : State) : TimingView :=
  ⟨s.heads, s.timers, s.heat, s.plan.classAt, s.freezes⟩

/-- The timer and the set phase of a slot fit its head, and the slot waits exactly in FEED_WAIT (R62, R90,
R113). -/
abbrev State.slotKept (s : State) (h : Slot) : Prop :=
  timerFits (headStateOf s.heads[h]) s.timers[h] = true ∧ phaseFits s.heads[h] = true
    ∧ (h ∈ s.heat.waiting ↔ waitsForFeed s.heads[h] = true)

/-- The slot has the status given, or none when it is DETACHED, its timer is stopped and it does not wait. -/
def State.restsAt (s : State) (h : Slot) (st : Option HeadStatus) : Prop :=
  s.heads[h].map Head.status = st ∧ s.timers[h] = .stopped ∧ h ∉ s.heat.waiting

/-- The head of a slot freezes no rail: it is neither STALE nor FAULTED (R100). -/
def State.calmAt (s : State) (h : Slot) : Prop :=
  ∀ hd, s.heads[h] = some hd → hd.status.freezes = false

variable {s t u : State} {h : Slot} {hd : Head} {p : Slot → Prop}

theorem heads_set_self (heads : Vector (Option Head) 8) (h : Slot) (v : Option Head) :
    (heads.set h v)[h] = v := by simp

theorem timers_set_self (timers : Vector MotionTimer 8) (h : Slot) (τ : MotionTimer) :
    (timers.set h τ)[h] = τ := by simp

theorem timers_set_other (timers : Vector MotionTimer 8) {h h' : Slot} (τ : MotionTimer) (hne : h' ≠ h) :
    (timers.set h τ)[h'] = timers[h'] := by
  have : h.val ≠ h'.val := fun e => hne (Fin.ext e.symm)
  simp [this]

/-! ### One slot -/

/-- A slot without a grant is kept exactly while its timer is stopped and it does not wait. -/
theorem State.restsAt_iff {st : Option HeadStatus} (hst : st.all (fun x => !x.hasGrant) = true) :
    s.restsAt h st ↔ s.slotKept h ∧ s.heads[h].map Head.status = st := by
  unfold restsAt slotKept
  generalize s.heads[h] = o
  generalize s.timers[h] = τ
  cases o with
  | none => cases τ <;> simp [timerFits, headStateOf, phaseFits, waitsForFeed, and_comm]
  | some hd =>
    by_cases e : some hd.status = st
    · subst e
      cases τ <;> cases hs : hd.status <;>
        simp_all [timerFits, headStateOf, phaseFits, waitsForFeed, HeadStatus.hasGrant]
    · simp [e]

theorem State.slotKept.rests {st : HeadStatus} (hk : s.slotKept h) (hh : s.heads[h] = some hd)
    (hst : hd.status = st) (hg : st.hasGrant = false) : s.restsAt h (some st) :=
  (restsAt_iff (by simp [hg])).2 ⟨hk, by rw [hh, ← hst]; rfl⟩

theorem State.calmAt_of (hh : s.heads[h] = some hd) (hc : hd.status.freezes = false) : s.calmAt h :=
  fun a ha => by rwa [← Option.some.inj (hh.symm.trans ha)]

theorem State.calmAt_of_none (hh : s.heads[h] = none) : s.calmAt h :=
  fun _ ha => nomatch hh.symm.trans ha

theorem State.restsAt.calmAt {st : Option HeadStatus} (hr : s.restsAt h st)
    (hst : st.all (fun x => !x.freezes) = true) : s.calmAt h := fun a ha => by
  obtain ⟨hs, -⟩ := hr
  rw [ha] at hs
  simpa [← hs] using hst

theorem State.restsAt.kept {st : Option HeadStatus} (hr : s.restsAt h st)
    (hst : st.all (fun x => !x.hasGrant) = true) : s.slotKept h ∧ h ∉ s.heat.waiting := by
  obtain ⟨hkept, -⟩ := (restsAt_iff hst).1 hr
  obtain ⟨-, -, hw⟩ := hr
  exact ⟨hkept, hw⟩

/-- The laws of a slot in WORK: its timer counts work, its set phase is there for a setting head, and it waits
in FEED_WAIT. -/
theorem State.slotKept_work {g : HoleGrant} (hh : s.heads[h] = some hd) (hg : hd.status = .work g) :
    s.slotKept h ↔ timerFits .work s.timers[h] = true ∧ (g.phase.isSome ↔ hd.kind = .set)
      ∧ (h ∈ s.heat.waiting ↔ hd.kind = .set ∧ g.phase = some .feedWait) := by
  have hphase : phaseFits (some hd) = true ↔ (g.phase.isSome ↔ hd.kind = .set) := by
    cases g with
    | mk _ _ _ _ _ _ _ phase => cases phase <;> cases hk : hd.kind <;> simp [phaseFits, hg, hk]
  unfold slotKept
  rw [hh, hphase]
  simp [headStateOf, waitsForFeed, hg]

/-- A kept slot whose head is not in FEED_WAIT does not wait (R113). -/
theorem State.slotKept.not_waiting (hk : s.slotKept h) (hh : s.heads[h] = some hd)
    (hw : waitsForFeed (some hd) = false) : h ∉ s.heat.waiting := by
  obtain ⟨-, -, hwait⟩ := hk
  rw [hwait, hh, hw]
  decide

/-! ### States that agree on a set of slots -/

/-- On the slots of a set two states have the same head, timer and place in the waiting list; no rivet joins
the tray, no hole is loaded or changes its class, and the freezes stand. -/
structure State.Agree (p : Slot → Prop) (s t : State) : Prop where
  heads : ∀ h, p h → t.heads[h] = s.heads[h]
  timers : ∀ h, p h → t.timers[h] = s.timers[h]
  waiting : ∀ h, p h → (h ∈ t.heat.waiting ↔ h ∈ s.heat.waiting)
  nodup : s.heat.waiting.Nodup → t.heat.waiting.Nodup
  tray : ∀ r ∈ t.heat.tray, r ∈ s.heat.tray
  classes : ∀ i c, t.plan.classAt i = some c → s.plan.classAt i = some c
  freezes : t.freezes = s.freezes

theorem State.Agree.of_view (hv : t.timingView = s.timingView) : Agree p s t := by
  have hheads : t.heads = s.heads := congrArg TimingView.heads hv
  have htimers : t.timers = s.timers := congrArg TimingView.timers hv
  have hheat : t.heat = s.heat := congrArg TimingView.heat hv
  have hclasses : t.plan.classAt = s.plan.classAt := congrArg TimingView.classes hv
  exact ⟨fun _ _ => by rw [hheads], fun _ _ => by rw [htimers], fun _ _ => by rw [hheat],
    fun hn => by rwa [hheat], fun _ hr => by rwa [← hheat], fun _ _ hc => by rwa [← hclasses],
    congrArg TimingView.freezes hv⟩

theorem State.Agree.trans (hst : Agree p s t) (htu : Agree p t u) : Agree p s u where
  heads h hp := (htu.heads h hp).trans (hst.heads h hp)
  timers h hp := (htu.timers h hp).trans (hst.timers h hp)
  waiting h hp := (htu.waiting h hp).trans (hst.waiting h hp)
  nodup hn := htu.nodup (hst.nodup hn)
  tray r hr := hst.tray r (htu.tray r hr)
  classes i c hc := hst.classes i c (htu.classes i c hc)
  freezes := htu.freezes.trans hst.freezes

/-- The head of one slot is written. -/
theorem State.agree_setHead (s : State) (h : Slot) (v : Option Head) : Agree (· ≠ h) s (s.setHead h v) :=
  ⟨fun _ hne => heads_set_other hne, fun _ _ => rfl, fun _ _ => .rfl, id, fun _ => id, fun _ _ => id, rfl⟩

/-- The timer of one slot is written. -/
theorem State.agree_setTimer (s : State) (h : Slot) (τ : MotionTimer) :
    Agree (· ≠ h) s (s.setTimer h τ) :=
  ⟨fun _ _ => rfl, fun _ hne => timers_set_other _ _ hne, fun _ _ => .rfl, id, fun _ => id, fun _ _ => id, rfl⟩

/-- The tray loses rivets at most, and the waiting list stands. -/
theorem State.agree_setHeat (s : State) {q : HeatQueue} (hw : q.waiting = s.heat.waiting)
    (ht : ∀ r ∈ q.tray, r ∈ s.heat.tray) : Agree p s (s.setHeat q) :=
  ⟨fun _ _ => rfl, fun _ _ => rfl, fun _ _ => by simp [hw], by simp [hw], ht, fun _ _ => id, rfl⟩

/-- One slot leaves the waiting list. -/
theorem State.agree_unwait (s : State) (h : Slot) {q : HeatQueue}
    (hw : q.waiting = s.heat.waiting.filter (fun w => !(w == h))) (ht : q.tray = s.heat.tray) :
    Agree (· ≠ h) s (s.setHeat q) := by
  refine ⟨fun _ _ => rfl, fun _ _ => rfl, fun h' hne => ?_, fun hn => ?_, fun r hr => ht ▸ hr,
    fun _ _ => id, rfl⟩
  · simp [hw, hne]
  · rw [setHeat_heat, hw]
    exact hn.filter _

theorem State.Agree.slotKept (ha : Agree p s t) (hp : p h) (hs : s.slotKept h) : t.slotKept h := by
  unfold State.slotKept
  rw [ha.heads h hp, ha.timers h hp, ha.waiting h hp]
  exact hs

/-- A hole's class that a slot's grant names stands, or the hole is gone. -/
theorem State.Agree.classOf {c : RivetClass} (ha : Agree p s t) (hh : t.heads[h] = s.heads[h])
    (hc : t.classOf h = some c) : s.classOf h = some c := by
  unfold State.classOf at hc ⊢
  rw [hh] at hc
  obtain ⟨g, hg, hc⟩ := Option.bind_eq_some_iff.1 hc
  exact Option.bind_eq_some_iff.2 ⟨g, hg, ha.classes _ _ hc⟩

/-- No rivet waits for the slots of the set. -/
theorem State.Agree.unserved (ha : Agree p s t) (hs : s.waitersUnserved) (hp : p h)
    (hw : h ∈ t.heat.waiting) {r : Rivet} (hr : r ∈ t.heat.tray) : t.classOf h ≠ some r.cls := fun hc =>
  hs h ((ha.waiting h hp).1 hw) r (ha.tray r hr) (ha.classOf (ha.heads h hp) hc)

/-! ### The freeze (R100) -/

/-- The freezes fit where the slots that could freeze a rail are the same. -/
theorem State.freezeFits_of (hf : t.freezes = s.freezes)
    (hheads : ∀ h : Slot, t.heads[h] = s.heads[h] ∨ (s.calmAt h ∧ t.calmAt h)) (hs : s.freezeFits) :
    t.freezeFits := by
  have htrouble : ∀ r, troubledOn t.heads r = troubledOn s.heads r := by
    intro r
    unfold troubledOn
    rw [Bool.eq_iff_iff, any_heads_iff, any_heads_iff]
    refine exists_congr fun h => ?_
    rcases hheads h with e | ⟨hcs, hct⟩
    · rw [e]
    · have hcalm : ∀ (v : State), v.calmAt h → (v.heads[h].any (fun hd => hd.rail == r
          && (hd.status == .stale || hd.status == .faulted))) = false := by
        intro v hv
        cases e : v.heads[h] with
        | none => rfl
        | some hd =>
          have := hv hd e
          cases hst : hd.status <;> simp_all [HeadStatus.freezes]
      rw [hcalm s hcs, hcalm t hct]
  obtain ⟨ha, hb, hstale⟩ : t.freezeA = s.freezeA ∧ t.freezeB = s.freezeB
      ∧ t.params.staleFreeze = s.params.staleFreeze := by simpa [freezes] using hf
  unfold freezeFits
  rw [ha, hb, hstale, htrouble, htrouble]
  exact hs

/-! ### Changes that keep the laws -/

/-- A change that keeps the timers and the waiting list, the freeze aside. -/
structure State.KeepsDuties (s t : State) : Prop where
  heads : s.headsKept → t.headsKept
  unserved : s.headsKept → s.waitersUnserved → t.waitersUnserved

/-- A change that keeps the timers, the waiting list and the freeze. -/
structure State.KeepsTiming (s t : State) : Prop extends State.KeepsDuties s t where
  freeze : s.headsKept → s.freezeFits → t.freezeFits

theorem State.KeepsDuties.trans (hst : s.KeepsDuties t) (htu : t.KeepsDuties u) : s.KeepsDuties u where
  heads hs := htu.heads (hst.heads hs)
  unserved hs hu := htu.unserved (hst.heads hs) (hst.unserved hs hu)

theorem State.KeepsTiming.trans (hst : s.KeepsTiming t) (htu : t.KeepsTiming u) : s.KeepsTiming u where
  toKeepsDuties := hst.toKeepsDuties.trans htu.toKeepsDuties
  freeze hs hf := htu.freeze (hst.heads hs) (hst.freeze hs hf)

theorem State.Agree.keepsTiming (ha : Agree (fun _ => True) s t) : s.KeepsTiming t where
  heads := fun ⟨hs, hn⟩ => ⟨fun h => ha.slotKept trivial (hs h), ha.nodup hn⟩
  unserved _ hu _ hw _ hr := ha.unserved hu trivial hw hr
  freeze _ := freezeFits_of ha.freezes fun h => .inl (ha.heads h trivial)

theorem State.KeepsTiming.of_view (hv : t.timingView = s.timingView) : s.KeepsTiming t :=
  (Agree.of_view hv).keepsTiming

theorem State.KeepsTiming.refl (s : State) : s.KeepsTiming s := .of_view rfl

/-- A fold of operations that each keep the laws keeps them. -/
theorem State.KeepsTiming.foldl {α : Type} {f : State → α → State}
    (hf : ∀ (u : State) (a : α), u.KeepsTiming (f u a)) (l : List α) (s : State) :
    s.KeepsTiming (l.foldl f s) := by
  induction l generalizing s with
  | nil => exact .refl s
  | cons a l ih => exact (hf s a).trans (ih (f s a))

/-- One slot turns, and is kept afterwards without waiting for a rivet. -/
theorem State.KeepsDuties.turn (ha : Agree (· ≠ h) s t)
    (hslot : s.slotKept h → t.slotKept h ∧ h ∉ t.heat.waiting) : s.KeepsDuties t where
  heads := fun ⟨hs, hn⟩ => by
    refine ⟨fun h' => ?_, ha.nodup hn⟩
    by_cases e : h' = h
    · subst e
      exact (hslot (hs h')).1
    · exact ha.slotKept e (hs h')
  unserved := fun ⟨hs, _⟩ hu h' hw r hr => by
    refine ha.unserved hu (fun e => ?_) hw hr
    subst e
    exact (hslot (hs h')).2 hw

/-- One slot turns from a head that freezes no rail to one that freezes none. -/
theorem State.KeepsTiming.turn (ha : Agree (· ≠ h) s t)
    (hslot : s.slotKept h → t.slotKept h ∧ h ∉ t.heat.waiting) (hcs : s.slotKept h → s.calmAt h)
    (hct : s.slotKept h → t.calmAt h) : s.KeepsTiming t where
  toKeepsDuties := .turn ha hslot
  freeze := fun ⟨hs, _⟩ hf => by
    refine freezeFits_of ha.freezes (fun h' => ?_) hf
    by_cases e : h' = h
    · subst e
      exact .inr ⟨hcs (hs h'), hct (hs h')⟩
    · exact .inl (ha.heads h' e)

/-- One slot comes to rest in a status without a grant. -/
theorem State.KeepsDuties.rest {st : Option HeadStatus} (ha : Agree (· ≠ h) s t)
    (hr : s.slotKept h → t.restsAt h st) (hst : st.all (fun x => !x.hasGrant) = true) :
    s.KeepsDuties t := .turn ha fun hs => (hr hs).kept hst

/-- One slot comes to rest in a status that freezes no rail. -/
theorem State.KeepsTiming.rest {st : Option HeadStatus} (ha : Agree (· ≠ h) s t)
    (hr : s.slotKept h → t.restsAt h st) (hst : st.all (fun x => !x.hasGrant && !x.freezes) = true)
    (hcs : s.calmAt h) : s.KeepsTiming t := by
  obtain ⟨hg, hf⟩ : st.all (fun x => !x.hasGrant) = true ∧ st.all (fun x => !x.freezes) = true := by
    cases st <;> simp_all
  exact .turn ha (fun hs => (hr hs).kept hg) (fun _ => hcs) (fun hs => (hr hs).calmAt hf)

end Sys2Proof.Machine
end

section
/-! SUPPORT. What the shared operations leave of the timers, the waiting list and the freeze. -/

namespace Sys2Proof.Machine

variable {s t u : State} {h : Slot} {hd : Head} {p : Slot → Prop}

/-! ### The view after an operation -/

section
variable (s : State)

@[simp] theorem State.setPort_timing (p : PortId) (q : Port) :
    (s.setPort p q).timingView = s.timingView := rfl
@[simp] theorem State.setPin_timing (n : TermId) (high : Bool) :
    (s.setPin n high).timingView = s.timingView := rfl
@[simp] theorem State.setTerminal_timing (n : TermId) (r : Terminal) :
    (s.setTerminal n r).timingView = s.timingView := rfl
@[simp] theorem State.setThermal_timing (l : List Segment) :
    (s.setThermal l).timingView = s.timingView := rfl
@[simp] theorem State.placeOn_timing (r : Rail) (e : Entry) :
    (s.placeOn r e).timingView = s.timingView := rfl
@[simp] theorem State.removeEntry_timing (r : Rail) (h : Slot) :
    (s.removeEntry r h).timingView = s.timingView := rfl
@[simp] theorem State.clearPending_timing (p : PortId) (k : NoticeKind) :
    (s.clearPending p k).timingView = s.timingView := rfl
@[simp] theorem State.makePending_timing (p : PortId) (k : NoticeKind) :
    (s.makePending p k).timingView = s.timingView := by rw [makePending_eq]; rfl
@[simp] theorem State.noteTrouble_timing (a b : HeadState) :
    (s.noteTrouble a b).timingView = s.timingView := by rw [noteTrouble_eq]; rfl
@[simp] theorem State.writeLog_timing (i : Nat) (e : LogEvent) (a : Bool) :
    (s.writeLog i e a).timingView = s.timingView := by rw [writeLog_record]; rfl
@[simp] theorem State.raiseUnbound_timing (c : DevClass) (a b : Int) :
    (s.raiseUnbound c a b).timingView = s.timingView := by rw [raiseUnbound_eq]; rfl
@[simp] theorem State.appendReply_timing (p : PortId) (kind : Byte) (r : Reply) :
    (s.appendReply p kind r).timingView = s.timingView := rfl
@[simp] theorem State.sendNotices_timing : s.sendNotices.timingView = s.timingView := by
  have hsent := s.sendNotices_eq
  generalize s.sendNotices = t at hsent ⊢
  rw [hsent]
  rfl
@[simp] theorem State.testComplete_timing : s.testComplete.timingView = s.timingView := by
  have hplan := s.plan.testComplete_eq
  generalize s.plan.testComplete.state = st at hplan
  unfold timingView
  rw [testComplete_plan, hplan]
  rfl

/-- The parameters are written, STALE_ACTION standing as it was. -/
theorem State.setParams_timing {q : Params} (hq : q.staleFreeze = s.params.staleFreeze) :
    (s.setParams q).timingView = s.timingView := by
  simp only [timingView, freezes, setParams_params, hq]
  rfl

/-- A change of a hole's record that keeps its class keeps the classes. -/
theorem PlanStore.classAt_changeHole (q : PlanStore) (i : Nat) {f : Hole → Hole}
    (hf : ∀ x, (f x).cls = x.cls) : (q.changeHole i f).classAt = q.classAt := by
  funext j
  unfold classAt
  by_cases e : j = i
  · subst e
    rw [hole?_changeHole_self]
    cases q.hole? j <;> simp [hf]
  · rw [hole?_changeHole_other _ _ e]

theorem State.changeHole_timing (i : Nat) {f : Hole → Hole} (hf : ∀ x, (f x).cls = x.cls) :
    (s.changeHole i f).timingView = s.timingView := by
  unfold timingView
  rw [changeHole_plan, PlanStore.classAt_changeHole _ _ hf]
  rfl

theorem Hole.mark_cls (x : Hole) (c : DevClass) : (x.mark c).cls = x.cls := by rw [mark_eq]

@[simp] theorem State.hold_timing (i : Nat) (w : Work) (c : DevClass) :
    (s.changeHole i (fun x => x.hold w c)).timingView = s.timingView :=
  s.changeHole_timing i fun _ => rfl

@[simp] theorem State.goto_timing (i : Nat) (st : HoleState) (o : Option Slot) :
    (s.changeHole i (fun x => x.goto st o)).timingView = s.timingView :=
  s.changeHole_timing i fun _ => rfl

@[simp] theorem State.raiseForHole_timing (c : DevClass) (i : Nat) (h : Slot) (a b : Int) :
    (s.raiseForHole c i h a b).timingView = s.timingView := by
  rw [raiseForHole_eq]
  exact s.changeHole_timing i fun x => x.mark_cls c

theorem State.raiseIf_timing {p : Prop} [Decidable p] (c : DevClass) (i : Nat) (h : Slot) (a b : Int) :
    (if p then s.raiseForHole c i h a b else s).timingView = s.timingView := by
  split <;> simp

end

theorem State.restsAt_of_view {st : Option HeadStatus} (hv : t.timingView = s.timingView)
    (hr : s.restsAt h st) : t.restsAt h st := by
  have ha : Agree (fun _ => True) s t := .of_view hv
  unfold State.restsAt
  rw [ha.heads h trivial, ha.timers h trivial, ha.waiting h trivial]
  exact hr

/-! ### The end of a grant (R78) -/

theorem State.agree_setStatus (s : State) (h : Slot) (st : HeadStatus) :
    Agree (· ≠ h) s (s.setStatus h st) := by
  rw [setStatus_eq]
  exact s.agree_setHead h _

theorem State.agree_setLastHold (s : State) (h : Slot) (i : Nat) (c : DevClass) :
    Agree (· ≠ h) s (s.setLastHold h i c) := by
  rw [setLastHold_eq]
  exact s.agree_setHead h _

theorem State.agree_endMoveGrant (s : State) (h : Slot) (st : HeadStatus) :
    Agree (· ≠ h) s (s.endMoveGrant h st) :=
  (s.agree_setTimer h .stopped).trans (agree_setStatus _ h st)

theorem State.agree_endHoleGrant (s : State) (h : Slot) (g : HoleGrant) (spent : Bool) (st : HeadStatus) :
    Agree (· ≠ h) s (s.endHoleGrant h g spent st) := by
  have hheat : ∀ scrap, Agree (· ≠ h) s (s.setHeat (s.heat.releaseHead h scrap)) := fun scrap =>
    s.agree_unwait h (by cases scrap <;> rfl) (by cases scrap <;> rfl)
  have hlog : ∀ u : State, Agree (· ≠ h) u ((u.clearPending (headPort h) .feedGiven).setLog
      { u.log with inFlight := u.log.inFlight - 1 }) := fun _ => .of_view rfl
  exact (((hheat _).trans (hlog _)).trans (agree_setTimer _ h .stopped)).trans (agree_setStatus _ h st)

theorem State.endMoveGrant_rests {st : HeadStatus} (hh : s.heads[h] = some hd)
    (hw : h ∉ s.heat.waiting) : (s.endMoveGrant h st).restsAt h (some st) := by
  rw [endMoveGrant_eq]
  exact ⟨by rw [heads_set_self, hh]; rfl, timers_set_self .., hw⟩

theorem State.endHoleGrant_rests {st : HeadStatus} (hh : s.heads[h] = some hd) (g : HoleGrant)
    (spent : Bool) : (s.endHoleGrant h g spent st).restsAt h (some st) := by
  rw [endHoleGrant_eq]
  refine ⟨by rw [heads_set_self, hh]; rfl, timers_set_self .., ?_⟩
  simp [HeatQueue.releaseHead_eq]

theorem State.setLastHold_rests {st : Option HeadStatus} (hr : s.restsAt h st) (i : Nat) (c : DevClass) :
    (s.setLastHold h i c).restsAt h st := by
  rw [setLastHold_eq]
  obtain ⟨hst, ht, hw⟩ := hr
  refine ⟨?_, ht, hw⟩
  rw [heads_set_self, Option.map_map, ← hst]
  rfl

theorem State.agree_endWithHold (s : State) (h : Slot) (hd : Head) (g : HoleGrant) (c : DevClass)
    (st : HeadStatus) : Agree (· ≠ h) s (s.endWithHold h hd g c st) := by
  have hhold : Agree (· ≠ h) s (s.changeHole g.hole (fun x => x.hold hd.kind.work c)) := .of_view (by simp)
  exact ((hhold.trans (agree_endHoleGrant ..)).trans (.of_view (writeLog_timing ..))).trans
    (agree_setLastHold ..)

theorem State.endWithHold_rests {a : Head} {st : HeadStatus} (hh : s.heads[h] = some a) (g : HoleGrant)
    (c : DevClass) : (s.endWithHold h hd g c st).restsAt h (some st) := by
  refine setLastHold_rests (restsAt_of_view (writeLog_timing ..) ?_) _ _
  exact endHoleGrant_rests (s := s.changeHole g.hole _) hh g false

/-- A MOVE grant ends (R78). -/
theorem State.endMoveGrant_duties {g : MoveGrant} {st : HeadStatus} (hh : s.heads[h] = some hd)
    (hg : hd.status = .travelMove g) (hst : st.hasGrant = false) : s.KeepsDuties (s.endMoveGrant h st) :=
  .rest (s.agree_endMoveGrant h st)
    (fun hs => endMoveGrant_rests hh (hs.not_waiting hh (by simp [waitsForFeed, hg]))) (by simp [hst])

/-- A raising for a head's hole, then the grant's end with the hole held (R15). -/
theorem State.raiseAndHold_duties {st : HeadStatus} (hh : s.heads[h] = some hd) (g : HoleGrant)
    (c : DevClass) (a b : Int) (hst : st.hasGrant = false) :
    s.KeepsDuties ((s.raiseForHole c g.hole h a b).endWithHold h hd g c st) :=
  .rest (.trans (.of_view (s.raiseForHole_timing ..)) (agree_endWithHold ..))
    (fun _ => endWithHold_rests (by rw [raiseForHole_heads]; exact hh) g c) (by simp [hst])

/-- A head withdrawn from its hole stands IDLE (R80, R131). -/
theorem State.raiseAndHold_idle {g : HoleGrant} (hh : s.heads[h] = some hd) (hg : hd.status = .work g)
    (c : DevClass) (a b : Int) :
    s.KeepsTiming ((s.raiseForHole c g.hole h a b).endWithHold h hd g c .idle) :=
  .rest (.trans (.of_view (s.raiseForHole_timing ..)) (agree_endWithHold ..))
    (fun _ => endWithHold_rests (by rw [raiseForHole_heads]; exact hh) g c) rfl
    (calmAt_of hh (by rw [hg]; rfl))

/-- A rail judged afresh is frozen as R100 says, whatever was before (R101). -/
theorem State.KeepsDuties.judged (hk : s.KeepsDuties t) (a b : HeadState) :
    s.KeepsTiming (t.judgeFreeze.noteTrouble a b) := by
  have hsame : t.KeepsDuties t.judgeFreeze := ⟨id, fun _ => id⟩
  refine .trans (t := t.judgeFreeze) ⟨hk.trans hsame, fun _ _ => t.freezeFits_judgeFreeze⟩ ?_
  exact .of_view (noteTrouble_timing ..)

end Sys2Proof.Machine
end

section
/-! SUPPORT. The rules of the heads and their grants keep the timers, the waiting list and the freeze (R64 to
R86). -/

namespace Sys2Proof.Machine

variable {s t : State} {h : Slot} {hd : Head}

/-! ### Heads without a grant (R64, R68, R83 to R86) -/

/-- A head is written beside a new entry of it. -/
theorem State.agree_placeAndSet (s : State) (h : Slot) (r : Rail) (e : Entry) (v : Option Head) :
    Agree (· ≠ h) s ((s.placeOn r e).setHead h v) :=
  .trans (.of_view (s.placeOn_timing r e)) (agree_setHead _ h v)

theorem State.attachHead_timed (kind : HeadKind) (rail : Rail) (x : Int) (hh : s.heads[h] = none) :
    s.KeepsTiming (s.attachHead h kind rail x).1 := by
  unfold attachHead
  simp only
  split
  · exact .refl s
  · refine .rest (st := some .idle) (s.agree_placeAndSet h _ _ _) (fun hs => ?_) rfl (calmAt_of_none hh)
    obtain ⟨-, ht, hw⟩ := (restsAt_iff (st := none) rfl).2 ⟨hs, by rw [hh]; rfl⟩
    exact ⟨by rw [setHead_heads, heads_set_self]; rfl, ht, hw⟩

theorem ruleAttach_timed (s : State) (h : Slot) (b : List Byte) : s.KeepsTiming (ruleAttach h b s).1 := by
  unfold ruleAttach
  split
  · exact .refl s
  · rename_i hh
    split
    · split
      · exact State.attachHead_timed _ _ _ hh
      · exact .refl s
    · exact .refl s

/-- A slot without a grant is freed. -/
theorem State.detachHead_rests {st : HeadStatus} (hh : s.heads[h] = some hd) (hst : hd.status = st)
    (hg : st.hasGrant = false) (hs : s.slotKept h) : (s.detachHead h hd.rail).restsAt h none := by
  obtain ⟨-, ht, hw⟩ := hs.rests hh hst hg
  refine ⟨?_, ht, hw⟩
  simp [detachHead]

theorem State.agree_detachHead (s : State) (h : Slot) (r : Rail) :
    Agree (· ≠ h) s (s.detachHead h r) :=
  (Agree.trans (.of_view (s.removeEntry_timing r h)) (agree_setHead _ h none)).trans
    (.of_view (clearPending_timing ..))

theorem ruleDetach_timed (s : State) (h : Slot) : s.KeepsTiming (ruleDetach h s).1 := by
  unfold ruleDetach
  split
  · exact .refl s
  · rename_i hd hh
    split
    · rename_i hst
      exact .rest (s.agree_detachHead h _) (State.detachHead_rests hh hst rfl) rfl
        (State.calmAt_of hh (by rw [hst]; rfl))
    · exact .refl s

theorem HeadStatus.hasGrant_of_inTrouble {st : HeadStatus} (ht : st.inTrouble = true) :
    st.hasGrant = false := by
  cases st <;> simp_all [inTrouble, hasGrant]

theorem ruleHeadEvict_timed (s : State) (b : List Byte) : s.KeepsTiming (ruleHeadEvict b s).1 := by
  unfold ruleHeadEvict
  split
  · exact .refl s
  · rename_i h _
    split
    · exact .refl s
    · rename_i hd hh
      split
      · exact .refl s
      · rename_i hst
        have hg := HeadStatus.hasGrant_of_inTrouble (by simpa using hst)
        exact (State.KeepsDuties.rest (s.agree_detachHead h _) (State.detachHead_rests hh rfl hg)
          rfl).judged _ _

/-- A head without a grant is written with a status that has none. -/
theorem State.setHead_rests {a : Head} (hs : s.slotKept h) (hh : s.heads[h] = some hd)
    (hg : hd.status.hasGrant = false) : (s.setHead h (some a)).restsAt h (some a.status) := by
  obtain ⟨-, ht, hw⟩ := hs.rests hh rfl hg
  exact ⟨by rw [setHead_heads, heads_set_self]; rfl, ht, hw⟩

theorem State.putDown_timed (x : Int) (hh : s.heads[h] = some hd) (hg : hd.status.hasGrant = false) :
    s.KeepsTiming (s.putDown h hd x) := by
  have hstand : s.KeepsDuties (s.standAt h hd x .idle) :=
    .rest (st := some .idle) (s.agree_placeAndSet h _ _ _)
      (fun hs => setHead_rests (s := s.placeOn ..) hs hh hg) rfl
  exact hstand.judged _ _

theorem ruleHaltAt_timed (s : State) (h : Slot) (b : List Byte) : s.KeepsTiming (ruleHaltAt h b s).1 := by
  unfold ruleHaltAt
  split
  · exact .refl s
  · rename_i hd hh
    split
    · rename_i hst
      split
      · refine State.putDown_timed _ hh ?_
        rcases hst with hst | hst <;> rw [hst] <;> rfl
      · exact .refl s
    · exact .refl s

theorem ruleHeadRecover_timed (s : State) (b : List Byte) : s.KeepsTiming (ruleHeadRecover b s).1 := by
  unfold ruleHeadRecover
  split
  · split
    · unfold State.recoverHead
      split
      · exact .refl s
      · rename_i hd hh
        split
        · exact .refl s
        · rename_i hst
          simp only
          split
          · exact .refl s
          · exact State.putDown_timed _ hh (HeadStatus.hasGrant_of_inTrouble (by simpa using hst))
    · exact .refl s
  · exact .refl s

/-- What a break makes of a head: FAULTED, its grant ended, and its rail judged (R86). -/
theorem State.linkBreak_timed (s : State) (h : Slot) : s.KeepsTiming (s.linkBreak h) := by
  have hstatus : ∀ hd, s.heads[h] = some hd → hd.status.hasGrant = false →
      s.KeepsDuties (s.setStatus h .faulted) := fun hd hh hg => by
    refine .rest (st := some .faulted) (s.agree_setStatus h _) (fun hs => ?_) rfl
    unfold setStatus
    rw [hh]
    exact setHead_rests hs hh hg
  unfold linkBreak
  split
  · exact .refl s
  · rename_i hd hh
    simp only
    split
    · exact .refl s
    · exact .refl s
    · exact (raiseAndHold_duties hh _ _ _ _ rfl).judged _ _
    · exact (raiseAndHold_duties hh _ _ _ _ rfl).judged _ _
    · rename_i g hg
      exact (endMoveGrant_duties hh hg rfl).judged _ _
    · rename_i hst
      exact (hstatus hd hh (by rw [hst]; rfl)).judged _ _
    · rename_i hst
      exact (hstatus hd hh (by rw [hst]; rfl)).judged _ _

theorem State.takeBreak_timed (s : State) (p : PortId) : s.KeepsTiming (s.takeBreak p) := by
  have hport : s.KeepsTiming (s.setPort p s.ports[p].afterBreak) := .of_view rfl
  unfold takeBreak
  simp only
  split
  · exact hport.trans (linkBreak_timed _ _)
  · exact hport

/-! ### Grants (R65 to R71) -/

/-- An IDLE head takes a travel: its timer starts, and a HOLE grant of a setting head is UNFED (R71, R93). -/
theorem State.KeepsTiming.grant {st : HeadStatus} {limit : Nat} (ha : State.Agree (· ≠ h) s t)
    (hh : s.heads[h] = some hd) (hidle : hd.status = .idle)
    (ht : t.heads[h] = some { hd with status := st }) (hst : headStateOf t.heads[h] = .travel)
    (hphase : phaseFits t.heads[h] = true) (htimer : t.timers[h] = .counting .travel limit 0)
    (hwait : t.heat.waiting = s.heat.waiting) : s.KeepsTiming t := by
  have hw : s.slotKept h → h ∉ t.heat.waiting := fun hs => by
    rw [hwait]
    exact hs.not_waiting hh (by simp [waitsForFeed, hidle])
  have hno : waitsForFeed t.heads[h] = false := by
    rw [ht] at hst ⊢
    cases st <;> simp_all [headStateOf, waitsForFeed]
  refine .turn ha (fun hs => ⟨⟨?_, hphase, ?_⟩, hw hs⟩) (fun _ => State.calmAt_of hh (by rw [hidle]; rfl))
    (fun _ => State.calmAt_of ht ?_)
  · rw [hst, htimer]
    simp [timerFits]
  · exact iff_of_false (hw hs) (by rw [hno]; decide)
  · rw [ht] at hst
    cases st <;> simp_all [headStateOf, HeadStatus.freezes]

theorem ruleMove_timed (s : State) (h : Slot) (b : List Byte) : s.KeepsTiming (ruleMove h b s).1 := by
  unfold ruleMove
  split
  · exact .refl s
  · rename_i hd hh
    split
    · exact .refl s
    · rename_i hreq
      obtain ⟨-, -, -, hidle⟩ := State.requestRefused_none hreq
      unfold State.moveTo
      split
      · exact .refl s
      · split
        · exact .refl s
        · have ha : State.Agree (· ≠ h) s (s.commitMove h hd (i32At b 0)).1 :=
            (State.Agree.trans (.of_view (s.placeOn_timing ..)) (State.agree_setTimer _ h _)).trans
              (State.agree_setHead _ h _)
          exact .grant ha hh hidle (heads_set_self ..) (by simp [State.commitMove]; rfl)
            (by simp [State.commitMove]; rfl) (timers_set_self ..) rfl

theorem State.commitHole_timed (hh : s.heads[h] = some hd) (hidle : hd.status = .idle) (c : Eligible) :
    s.KeepsTiming (s.commitHole h hd c).1 := by
  have hplace : ∀ r e, State.Agree (· ≠ h) s
      ((s.changeHole c.index (fun x => x.goto hd.kind.working (some h))).placeOn r e) :=
    fun _ _ => .of_view (by simp)
  have hlog : ∀ (u : State) (n : Nat), State.Agree (· ≠ h) u (u.setLog { u.log with inFlight := n }) :=
    fun _ _ => .of_view rfl
  have ha : State.Agree (· ≠ h) s (s.commitHole h hd c).1 :=
    (((hplace _ _).trans (State.agree_setTimer _ h _)).trans (hlog _ _)).trans
      (State.agree_setHead _ h _)
  have hhead : (s.commitHole h hd c).1.heads[h]
      = some { hd with status := .travelHole (s.grantRecord hd c) } := heads_set_self ..
  refine .grant ha hh hidle hhead (by rw [hhead]; rfl) ?_ (timers_set_self ..) rfl
  rw [hhead]
  cases hk : hd.kind <;> simp [phaseFits, grantRecord, hk]

theorem State.holdAtLimit_timed (hh : s.heads[h] = some hd) (hidle : hd.status = .idle) (c : Eligible) :
    s.KeepsTiming (s.holdAtLimit h hd c).1 := by
  have hlogged : ((s.changeHole c.index (fun x => x.hold hd.kind.work .thermalLimit)).writeLog c.index
      (.held h c.target.x (some c.target.d) .thermalLimit) false).timingView = s.timingView := by simp
  exact .rest (st := some .idle) (.trans (.of_view hlogged) (agree_setLastHold ..))
    (fun hs => setLastHold_rests (restsAt_of_view hlogged (hs.rests hh hidle rfl)) _ _) rfl
    (calmAt_of hh (by rw [hidle]; rfl))

theorem State.grantHole_timed (hh : s.heads[h] = some hd) (hidle : hd.status = .idle) (c : Eligible) :
    s.KeepsTiming (s.grantHole h hd c).1 := by
  have hraise : s.KeepsTiming (s.raiseForHole .thermalLimit c.index h c.target.dRaw s.params.corrLimit) :=
    .of_view (by simp)
  have hraised : (s.raiseForHole .thermalLimit c.index h c.target.dRaw
      s.params.corrLimit).heads[h] = some hd := by rw [raiseForHole_heads]; exact hh
  unfold grantHole
  split
  · simp only
    split
    · exact hraise.trans (holdAtLimit_timed hraised hidle c)
    · exact hraise.trans (commitHole_timed hraised hidle c)
  · exact commitHole_timed hh hidle c

theorem ruleTake_timed (s : State) (h : Slot) (b : List Byte) : s.KeepsTiming (ruleTake h b s).1 := by
  unfold ruleTake
  split
  · exact .refl s
  · rename_i hd hh
    split
    · exact .refl s
    · rename_i hreq
      obtain ⟨-, -, -, hidle⟩ := State.requestRefused_none hreq
      unfold State.takeHole
      split
      · exact .refl s
      · split
        · exact .refl s
        · split
          · exact .refl s
          · split
            · exact .refl s
            · exact State.grantHole_timed hh hidle _

theorem ruleNext_timed (s : State) (h : Slot) : s.KeepsTiming (ruleNext h s).1 := by
  unfold ruleNext
  split
  · exact .refl s
  · rename_i hd hh
    split
    · exact .refl s
    · rename_i hreq
      obtain ⟨-, -, -, hidle⟩ := State.requestRefused_none hreq
      unfold State.nextHole
      split
      · exact .refl s
      · split
        · exact .refl s
        · exact State.grantHole_timed hh hidle _

/-! ### Arrival and PROGRESS (R72, R73, R93) -/

/-- A head's work timer starts at 0 (R92). -/
theorem timerFits_started {τ : MotionTimer} {limit : Nat} (hτ : τ = .counting .work limit 0) :
    timerFits .work τ = true := by simp [hτ, timerFits]

theorem State.judgeArrival_timed {g : HoleGrant} {a : Head} (hh : s.heads[h] = some { a with
    position := g.x, status := .work g }) : s.KeepsTiming (s.judgeArrival h a g).1 := by
  unfold judgeArrival
  split
  · exact .refl s
  · simp only
    split
    · exact .of_view (by simp)
    · exact .rest (st := some .idle) (.trans (.of_view (s.raiseForHole_timing ..)) (agree_endWithHold ..))
        (fun _ => endWithHold_rests (by rw [raiseForHole_heads]; exact hh) g _) rfl (calmAt_of hh rfl)

theorem State.standAtWork_timed {g : HoleGrant} (hh : s.heads[h] = some hd)
    (hg : hd.status = .travelHole g) (limit : Nat) :
    s.KeepsTiming ((s.standAt h hd g.x (.work g)).startTimer h .work limit) := by
  have ha : Agree (· ≠ h) s ((s.standAt h hd g.x (.work g)).startTimer h .work limit) :=
    (s.agree_placeAndSet h _ _ _).trans (agree_setTimer _ h _)
  have hhead : ((s.standAt h hd g.x (.work g)).startTimer h .work limit).heads[h]
      = some { hd with position := g.x, status := .work g } := heads_set_self ..
  refine .turn ha (fun hs => ?_) (fun _ => calmAt_of hh (by rw [hg]; rfl)) (fun _ => calmAt_of hhead rfl)
  have hw : h ∉ s.heat.waiting := hs.not_waiting hh (by simp [waitsForFeed, hg])
  obtain ⟨-, hphase, -⟩ := hs
  have hphase : g.phase = if hd.kind = .set then some .unfed else none := by
    rw [hh] at hphase
    simpa [phaseFits, hg] using hphase
  refine ⟨(slotKept_work hhead rfl).2 ⟨timerFits_started (timers_set_self ..), ?_, iff_of_false hw ?_⟩, hw⟩
  · cases hk : hd.kind <;> simp [hphase, hk]
  · simp [hphase]

theorem ruleArrived_timed (s : State) (h : Slot) : s.KeepsTiming (ruleArrived h s).1 := by
  unfold ruleArrived
  split
  · exact .refl s
  · rename_i hd hh
    split
    · rename_i g hg
      have ha : State.Agree (· ≠ h) s ((s.standAt h hd g.x .idle).stopTimer h) :=
        (s.agree_placeAndSet h _ _ _).trans (State.agree_setTimer _ h _)
      exact .rest (st := some .idle) ha (fun hs => ⟨congrArg (Option.map Head.status) (heads_set_self ..),
        timers_set_self .., hs.not_waiting hh (by simp [waitsForFeed, hg])⟩) rfl
        (State.calmAt_of hh (by rw [hg]; rfl))
    · rename_i g hg
      exact (State.standAtWork_timed hh hg _).trans (State.judgeArrival_timed (heads_set_self ..))
    · exact .refl s

/-- A head in WORK, waiting or not, has its timer started anew (R72). -/
theorem ruleProgress_timed (s : State) (h : Slot) : s.KeepsTiming (ruleProgress h s).1 := by
  unfold ruleProgress
  split
  · exact .refl s
  · rename_i hd hh
    split
    · rename_i g hg
      refine ⟨⟨fun ⟨hs, hn⟩ => ⟨fun h' => ?_, hn⟩, fun _ => id⟩, fun _ => id⟩
      by_cases e : h' = h
      · subst e
        obtain ⟨-, hphase, hw⟩ := (State.slotKept_work hh hg).1 (hs h')
        exact (State.slotKept_work (s := s.startTimer h' _ _) hh hg).2
          ⟨timerFits_started (timers_set_self ..), hphase, hw⟩
      · exact (s.agree_setTimer h _).slotKept e (hs h')
    · exact .refl s

/-! ### The ends of a grant (R75 to R78, R82) -/

theorem State.abandonHole_rests {st : HeadStatus} (hh : s.heads[h] = some hd) (g : HoleGrant) :
    (s.abandonHole h hd g st).restsAt h (some st) :=
  endHoleGrant_rests (s := s.changeHole g.hole _) hh g false

theorem State.agree_abandonHole (s : State) (h : Slot) (hd : Head) (g : HoleGrant) (st : HeadStatus) :
    Agree (· ≠ h) s (s.abandonHole h hd g st) :=
  .trans (.of_view (s.goto_timing g.hole hd.kind.returned none)) (agree_endHoleGrant ..)

theorem State.KeepsTiming.noted (hk : s.KeepsTiming t) (a b : HeadState) :
    s.KeepsTiming (t.noteTrouble a b) := hk.trans (.of_view (t.noteTrouble_timing a b))

theorem ruleAbandon_timed (s : State) (h : Slot) : s.KeepsTiming (ruleAbandon h s).1 := by
  unfold ruleAbandon
  split
  · exact .refl s
  · rename_i hd hh
    split
    · rename_i g hg
      exact (State.KeepsTiming.rest (s.agree_abandonHole h hd g .halted)
        (fun _ => State.abandonHole_rests hh g) rfl (State.calmAt_of hh (by rw [hg]; rfl))).noted .travel .halted
    · rename_i g hg
      exact (State.KeepsTiming.rest (st := some .halted) (s.agree_endMoveGrant h .halted)
        (fun hs => State.endMoveGrant_rests hh (hs.not_waiting hh (by simp [waitsForFeed, hg]))) rfl
        (State.calmAt_of hh (by rw [hg]; rfl))).noted .travel .halted
    · rename_i g hg
      exact .rest (s.agree_abandonHole h hd g .idle) (fun _ => State.abandonHole_rests hh g) rfl
        (State.calmAt_of hh (by rw [hg]; rfl))
    · exact .refl s

/-- A done report, taken after its report and raisings, leaves its head IDLE, whether its hole is held or not
(R78). -/
theorem State.endWithReport_timed {u : State} {a : Head} {g : HoleGrant}
    (hu : u.timingView = s.timingView) (hh : s.heads[h] = some hd) (hg : hd.status = .work g)
    (spent : Bool) (held : Option DevClass) (done : HoleState) (event : LogEvent) :
    s.KeepsTiming (u.endWithReport h a g spent held done event) := by
  have hheads : u.heads = s.heads := congrArg TimingView.heads hu
  have hend : ∀ f : Hole → Hole, (∀ x, (f x).cls = x.cls) → ∀ e,
      let v := ((u.changeHole g.hole f).endHoleGrant h g spent .idle).writeLog g.hole e false
      Agree (· ≠ h) s v ∧ v.restsAt h (some .idle) := fun f hf e =>
    ⟨(Agree.trans (.of_view ((u.changeHole_timing g.hole hf).trans hu)) (agree_endHoleGrant ..)).trans
      (.of_view (writeLog_timing ..)), restsAt_of_view (writeLog_timing ..)
      (endHoleGrant_rests (by rw [changeHole_heads, hheads]; exact hh) g spent)⟩
  have hcalm : s.calmAt h := calmAt_of hh (by rw [hg]; rfl)
  unfold endWithReport
  split
  · rename_i cls
    obtain ⟨ha, hr⟩ := hend (fun x => x.hold a.kind.work cls) (fun _ => rfl) (.held h g.x none cls)
    exact .rest (ha.trans (agree_setLastHold ..)) (fun _ => setLastHold_rests hr _ _) rfl hcalm
  · obtain ⟨ha, hr⟩ := hend (fun x => x.goto done none) (fun _ => rfl) event
    have hended := KeepsTiming.rest ha (fun _ => hr) rfl hcalm
    simp only
    split
    · exact hended.trans (.of_view (testComplete_timing _))
    · exact hended

theorem ruleDrillDone_timed (s : State) (h : Slot) (b : List Byte) :
    s.KeepsTiming (ruleDrillDone h b s).1 := by
  unfold ruleDrillDone
  split
  · exact .refl s
  · rename_i hd hh
    split
    · rename_i g hg
      split_ifs
      · exact .refl s
      · exact .refl s
      · split
        · exact .refl s
        · refine State.endWithReport_timed ?_ hh hg _ _ _ _
          rw [State.raiseIf_timing, State.raiseIf_timing, State.changeHole_timing]
          exact fun _ => rfl
    · exact .refl s

theorem State.setReport_timed {g : HoleGrant} (hh : s.heads[h] = some hd) (hg : hd.status = .work g)
    (r : Rivet) (ram : Option Nat) : s.KeepsTiming (s.setReport h hd g r ram).1 := by
  have hwrite : ∀ v, (s.changeHole g.hole (fun x => { x with setReport := v })).timingView = s.timingView :=
    fun _ => s.changeHole_timing _ fun _ => rfl
  have hraise : ∀ v c a b, ((s.changeHole g.hole (fun x => { x with setReport := v })).raiseForHole c
      g.hole h a b).timingView = s.timingView := fun _ _ _ _ => by rw [raiseForHole_timing, hwrite]
  unfold setReport
  cases ram with
  | none => exact endWithReport_timed (hraise _ _ _ _) hh hg _ _ _ _
  | some a =>
    by_cases hcold : s.budgetMs r.cls < a
    · simp only [if_pos hcold]
      exact endWithReport_timed (hraise _ _ _ _) hh hg _ _ _ _
    · simp only [if_neg hcold]
      exact endWithReport_timed (hwrite _) hh hg _ _ _ _

theorem ruleSetDone_timed (s : State) (h : Slot) : s.KeepsTiming (ruleSetDone h s).1 := by
  unfold ruleSetDone
  split
  · exact .refl s
  · rename_i hd hh
    split
    · rename_i g hg
      split
      · exact .refl s
      · split
        · exact State.setReport_timed hh hg _ _
        · exact State.setReport_timed hh hg _ _
        · exact .refl s
    · exact .refl s

theorem State.expireTimer_timed (s : State) (h : Slot) : s.KeepsTiming (s.expireTimer h) := by
  have hpend : ∀ (u : State), s.KeepsDuties u → s.KeepsDuties (u.makePending (headPort h) .hold) :=
    fun u hk => hk.trans (KeepsTiming.of_view (u.makePending_timing ..)).toKeepsDuties
  unfold expireTimer
  split
  · exact .refl s
  · rename_i hd hh
    simp only
    split
    · exact (hpend _ (raiseAndHold_duties hh _ _ _ _ rfl)).judged _ _
    · rename_i hnone
      refine (KeepsDuties.rest (st := some .stale) (s.agree_endMoveGrant h .stale) (fun hs =>
        endMoveGrant_rests hh (hs.not_waiting hh ?_)) rfl).judged _ _
      cases hst : hd.status <;> simp_all [HeadStatus.holeGrant, waitsForFeed]

end Sys2Proof.Machine
end

section
/-! SUPPORT. The rules of the tray, the switch inputs, the Plan Store and the parameters keep the timers, the
waiting list and the freeze (R80, R99, R104 to R117, R150 to R153). -/

namespace Sys2Proof.Machine

variable {s t : State} {h : Slot} {hd : Head}

/-! ### The set phase (R62) -/

theorem State.setPhase_work {g : HoleGrant} (hh : s.heads[h] = some hd) (hg : hd.status = .work g)
    (phase : SetPhase) : s.setPhase h phase
      = s.setHead h (some { hd with status := .work { g with phase := some phase } }) := by
  simp only [setPhase, hh, hg]

theorem State.agree_setPhase (s : State) (h : Slot) (phase : SetPhase) :
    Agree (· ≠ h) s (s.setPhase h phase) := by
  unfold setPhase
  split
  · split
    · exact s.agree_setHead h _
    · exact .of_view rfl
  · exact .of_view rfl

/-- A setting head in WORK that does not wait goes on in a phase in which it does not wait either. -/
theorem State.setPhase_timed {g : HoleGrant} {phase : SetPhase} (hh : s.heads[h] = some hd)
    (hg : hd.status = .work g) (hk : hd.kind = .set) (hbefore : g.phase ≠ some .feedWait)
    (hafter : phase ≠ .feedWait) : s.KeepsTiming (s.setPhase h phase) := by
  refine .turn (s.agree_setPhase h phase) (fun hs => ?_) (fun _ => calmAt_of hh (by rw [hg]; rfl))
    (fun _ => ?_) <;> rw [setPhase_work hh hg]
  · obtain ⟨ht, -, hw⟩ := (slotKept_work hh hg).1 hs
    have hno : h ∉ s.heat.waiting := fun hmem => hbefore (hw.1 hmem).2
    refine ⟨(slotKept_work (heads_set_self ..) rfl).2 ⟨ht, by simp [hk], iff_of_false hno ?_⟩, hno⟩
    simp [hafter]
  · exact calmAt_of (heads_set_self ..) rfl

theorem State.ramCapture_timed (s : State) (h : Slot) : s.KeepsTiming (s.ramCapture h) := by
  unfold ramCapture
  split
  · rename_i hd hh
    split
    · rename_i g hk hg
      split
      · rename_i r hphase
        exact setPhase_timed hh hg hk (by simp [hphase]) (by simp)
      · exact .refl s
    · exact .refl s
  · exact .refl s

/-! ### The tray (R106 to R114) -/

/-- The rivets of a tray from which one was removed were in it before (R109). -/
theorem HeatQueue.mem_tray_afterRemoval {q : HeatQueue} {left : List Rivet} {r : Rivet}
    (hleft : ∀ x ∈ left, x ∈ q.queue) (hr : r ∈ (q.afterRemoval left).tray) : r ∈ q.tray := by
  cases hc : q.chute <;> simp only [afterRemoval, tray, hc, List.mem_append, Option.toList_none,
    Option.toList_some, List.mem_singleton, List.not_mem_nil, or_false] at hr ⊢
  · exact hleft r hr
  · exact hr.imp_left (hleft r)

theorem HeatQueue.mem_tray_takeOut {q : HeatQueue} {test : Rivet → Bool} {r : Rivet}
    (hr : r ∈ (q.takeOut test).tray) : r ∈ q.tray := by
  unfold takeOut at hr
  split at hr
  · exact mem_tray_afterRemoval (fun _ hx => List.mem_of_mem_eraseP hx) hr
  · split at hr
    · have hqueue : r ∈ q.queue := by simpa [tray] using hr
      exact List.mem_append_left _ hqueue
    · exact hr

theorem HeatQueue.takeOut_waiting (q : HeatQueue) (test : Rivet → Bool) :
    (q.takeOut test).waiting = q.waiting := by
  unfold takeOut afterRemoval
  split
  · split <;> rfl
  · split <;> rfl

/-- A rivet leaves the tray: nobody waits for less than before. -/
theorem State.takeOut_timed (s : State) (test : Rivet → Bool) :
    s.KeepsTiming (s.setHeat (s.heat.takeOut test)) :=
  (s.agree_setHeat (s.heat.takeOut_waiting test) (fun _ => HeatQueue.mem_tray_takeOut)).keepsTiming

theorem State.expireRivet_timed (s : State) (serial : BitVec 16) :
    s.KeepsTiming (s.setHeat (s.heat.expire serial)) :=
  (s.agree_setHeat (q := s.heat.expire serial) (s.heat.takeOut_waiting _)
    (fun _ hr => HeatQueue.mem_tray_takeOut (test := fun r => r.serial == serial) hr)).keepsTiming

theorem State.expireClass_timed (s : State) (c : RivetClass) : s.KeepsTiming (s.expireClass c) :=
  .foldl (f := fun acc v => acc.setHeat (acc.heat.expire v)) (fun u v => u.expireRivet_timed v) _ s

theorem ruleHeaterClear_timed (s : State) : s.KeepsTiming (ruleHeaterClear s).1 :=
  (s.agree_setHeat (q := s.heat.clear) rfl (fun _ hr => nomatch hr)).keepsTiming

/-- A FEED that finds no rivet of the class: the slot joins the waiting list in FEED_WAIT, and no rivet of the
tray has its class (R113). -/
theorem State.feedWait_timed {g : HoleGrant} {x : Hole} {q : HeatQueue}
    (hqw : q.waiting = s.heat.waiting ++ [h]) (hqt : q.tray = s.heat.tray) (hh : s.heads[h] = some hd)
    (hg : hd.status = .work g) (hk : hd.kind = .set) (hphase : g.phase = some .unfed)
    (hx : s.plan.hole? g.hole = some x) (hnone : s.heat.rivetOf x.cls = none) :
    s.KeepsTiming ((s.setHeat q).setPhase h .feedWait) := by
  rw [setPhase_work (s := s.setHeat q) hh hg]
  generalize ht : (s.setHeat q).setHead h
    (some { hd with status := .work { g with phase := some .feedWait } }) = t
  have hhead : t.heads[h] = some { hd with status := .work { g with phase := some .feedWait } } := by
    rw [← ht]
    exact heads_set_self ..
  have hclass : t.classOf h = some x.cls := by
    have hplan : t.plan = s.plan := by rw [← ht]; rfl
    simp [classOf, hplan, show t.heads[h.val] = _ from hhead, HeadStatus.holeGrant, hx]
  have ha : s.slotKept h → Agree (· ≠ h) s t ∧ t.slotKept h := fun hs => by
    obtain ⟨htimer, -, hw⟩ := (slotKept_work hh hg).1 hs
    have hno : h ∉ s.heat.waiting := fun hmem => by simp [hphase] at hw; exact hw hmem
    have hqueue : Agree (· ≠ h) s (s.setHeat q) :=
      ⟨fun _ _ => rfl, fun _ _ => rfl, fun h' hne => by simp [hqw, hne],
        fun hn => by simpa [hqw, List.nodup_append] using ⟨hn, fun a ha e => hno (e ▸ ha)⟩,
        fun r hr => hqt ▸ hr, fun _ _ => id, rfl⟩
    rw [← ht]
    refine ⟨hqueue.trans (agree_setHead _ h _), (slotKept_work (heads_set_self ..) rfl).2 ⟨htimer, ?_, ?_⟩⟩
    · simp [hk]
    · simp [hqw, hk]
  refine ⟨⟨fun ⟨hs, hn⟩ => ?_, fun ⟨hs, _⟩ hu h' hw r hr => ?_⟩, fun ⟨hs, _⟩ hf => ?_⟩
  all_goals obtain ⟨ha, hkept⟩ := ha (hs h)
  · refine ⟨fun h' => ?_, ha.nodup hn⟩
    by_cases e : h' = h
    · exact e ▸ hkept
    · exact ha.slotKept e (hs h')
  · by_cases e : h' = h
    · have hother := List.find?_eq_none.1 hnone r (ha.tray r hr)
      rw [e, hclass]
      exact fun hc => hother (beq_iff_eq.2 (Option.some.inj hc).symm)
    · exact ha.unserved hu e hw hr
  · refine freezeFits_of ha.freezes (fun h' => ?_) hf
    by_cases e : h' = h
    · subst e
      exact .inr ⟨calmAt_of hh (by rw [hg]; rfl), calmAt_of hhead rfl⟩
    · exact .inl (ha.heads h' e)

theorem ruleFeed_timed (s : State) (h : Slot) : s.KeepsTiming (ruleFeed h s).1 := by
  unfold ruleFeed
  split
  · exact .refl s
  · rename_i hd hh
    split
    · rename_i g hg
      split_ifs with hk hphase
      · exact .refl s
      · exact .refl s
      · have hphase := not_not.1 hphase
        split
        · exact .refl s
        · rename_i x hx
          unfold State.feedHead
          split
          · refine (s.takeOut_timed fun r => r.cls == x.cls).trans ?_
            exact State.setPhase_timed (s := s.setHeat _) hh hg (not_not.1 hk) (by simp [hphase]) (by simp)
          · rename_i hnone
            exact State.feedWait_timed rfl rfl hh hg (not_not.1 hk) hphase hx hnone
    · exact .refl s

/-- A rivet handed over to a waiting head: it leaves the waiting list, is FED and works on (R114). -/
theorem State.fedFromHeater_timed {q : HeatQueue} (r : Rivet) (limit : Nat) (hmem : h ∈ s.heat.waiting)
    (hqw : q.waiting = s.heat.waiting.filter (fun w => !(w == h))) (hqt : q.tray = s.heat.tray) :
    s.KeepsTiming (((s.setHeat q).setPhase h (.fed r)).startTimer h .work limit) := by
  have ha : Agree (· ≠ h) s (((s.setHeat q).setPhase h (.fed r)).startTimer h .work limit) :=
    ((s.agree_unwait h hqw hqt).trans (agree_setPhase _ h _)).trans (agree_setTimer _ h _)
  have hturned : s.slotKept h → ∃ hd g, s.heads[h] = some hd ∧ hd.status = .work g ∧ hd.kind = .set
      ∧ (s.setHeat q).setPhase h (.fed r) = (s.setHeat q).setHead h
        (some { hd with status := .work { g with phase := some (.fed r) } }) := fun hs => by
    obtain ⟨-, -, hw⟩ := hs
    have hw := hw.1 hmem
    generalize hh : s.heads[h] = o at hw
    cases o with
    | none => simp [waitsForFeed] at hw
    | some hd =>
      cases hg : hd.status <;> simp [waitsForFeed, hg] at hw
      exact ⟨hd, _, rfl, hg, hw.1, setPhase_work (s := s.setHeat q) hh hg _⟩
  refine .turn ha (fun hs => ?_) (fun hs => ?_) (fun hs => ?_)
  all_goals obtain ⟨hd, g, hh, hg, hk, hphase⟩ := hturned hs
  · rw [hphase]
    have hno : h ∉ ((s.setHeat q).setHead h
        (some { hd with status := .work { g with phase := some (.fed r) } })).heat.waiting := by
      simp [hqw]
    exact ⟨(slotKept_work (heads_set_self ..) rfl).2
      ⟨timerFits_started (timers_set_self ..), by simp [hk], iff_of_false hno (by simp)⟩, hno⟩
  · exact calmAt_of hh (by rw [hg]; rfl)
  · rw [hphase]
    exact calmAt_of (heads_set_self ..) rfl

theorem State.handOver_timed (r : Rivet) (hmem : h ∈ s.heat.waiting) :
    s.KeepsTiming (s.handOver h r) := by
  have hfed := fedFromHeater_timed (q := { s.heat.accept r.serial with
    waiting := s.heat.waiting.filter (fun w => !(w == h)) }) r s.params.workSetMs hmem rfl rfl
  exact hfed.trans (.of_view (makePending_timing ..))

/-- A rivet of a class no head waits for joins the tray (R108). -/
theorem State.placed_timed {q : HeatQueue} {c : RivetClass} (hw : q.waiting = s.heat.waiting)
    (ht : ∀ r ∈ q.tray, r ∈ s.heat.tray ∨ r.cls = c) (hnone : s.waitingFor c = none) :
    s.KeepsTiming (s.setHeat q) := by
  have hkept : s.headsKept → (s.setHeat q).headsKept := fun ⟨hs, hn⟩ =>
    ⟨fun h => by rw [setHeat_heat, hw]; exact hs h, by rw [setHeat_heat, hw]; exact hn⟩
  refine ⟨⟨hkept, fun _ hu h hmem r hr => ?_⟩, fun _ => id⟩
  rw [setHeat_heat] at hmem hr
  rw [hw] at hmem
  rcases ht r hr with hr | hr
  · exact hu h hmem r hr
  · have hother := List.find?_eq_none.1 hnone h hmem
    rw [s.holeClass_eq, ← hr, beq_iff_eq] at hother
    exact hother

theorem State.placeRivet_timed (s : State) (c : RivetClass) : s.KeepsTiming (s.placeRivet c).1 := by
  unfold placeRivet
  simp only
  split
  · rename_i h hfound
    exact handOver_timed _ (List.mem_of_find?_eq_some hfound)
  · rename_i hnone
    split
    · refine placed_timed (c := c) rfl (fun r hr => ?_) hnone
      simp only [HeatQueue.tray, HeatQueue.append, HeatQueue.accept, List.mem_append,
        List.mem_singleton] at hr ⊢
      rcases hr with (hr | hr) | hr
      · exact .inl (.inl hr)
      · exact .inr (by rw [hr])
      · exact .inl (.inr hr)
    · split
      · refine placed_timed (c := c) rfl (fun r hr => ?_) hnone
        simp only [HeatQueue.tray, HeatQueue.accept, List.mem_append, Option.toList_some,
          List.mem_singleton] at hr ⊢
        rcases hr with hr | hr
        · exact .inl (.inl hr)
        · exact .inr (by rw [hr])
      · exact (s.agree_setHeat (q := { s.heat with overrun := true }) rfl (fun _ => id)).keepsTiming

theorem ruleRivetOut_timed (s : State) (b : List Byte) : s.KeepsTiming (ruleRivetOut b s).1 := by
  unfold ruleRivetOut
  simp only
  split
  · exact .refl s
  · split
    · exact .refl s
    · split_ifs
      · exact .refl s
      · exact .of_view (s.raiseUnbound_timing ..)
      · exact s.placeRivet_timed _

/-! ### Clamp drops, edges and terminals (R80, R117, R150 to R152) -/

theorem State.judgeDrop_timed (s : State) (bay : Nat) (h : Slot) : s.KeepsTiming (s.judgeDrop bay h) := by
  unfold judgeDrop
  split
  · exact .refl s
  · rename_i hd hh
    split
    · rename_i g hg
      split
      · simp only
        split
        · exact .of_view (by simp)
        · exact (raiseAndHold_idle hh hg .clampLost g.bay 0).trans (.of_view (makePending_timing ..))
      · exact .refl s
    · exact .refl s

theorem State.clampDrop_timed (s : State) (bay : Nat) : s.KeepsTiming (s.clampDrop bay) :=
  .foldl (fun u h => u.judgeDrop_timed bay h) _ s

theorem State.handOnEdge_timed (s : State) (r : Terminal) (active : Bool) :
    s.KeepsTiming (s.handOnEdge r active) := by
  unfold handOnEdge
  split
  · split
    · exact .refl s
    · exact s.clampDrop_timed _
  · split
    · exact s.ramCapture_timed _
    · exact .refl s
  · exact .refl s

theorem State.latchEdge_timing (s : State) (n : TermId) : (s.latchEdge n).timingView = s.timingView := by
  unfold latchEdge
  simp only
  split
  · split
    · rfl
    · rw [makePending_timing, setTerminal_timing]
  · rfl

theorem State.acceptEdge_timed (s : State) (n : TermId) (active : Bool) :
    s.KeepsTiming (s.acceptEdge n active) := by
  have hedge : s.KeepsTiming ((s.setTerminal n
      { s.terminals[n] with level := active, candidate := none }).handOnEdge s.terminals[n] active) :=
    .trans (t := s.setTerminal n _) (.of_view rfl) (handOnEdge_timed ..)
  unfold acceptEdge
  simp only
  split
  · exact hedge.trans (.of_view (latchEdge_timing ..))
  · exact hedge

theorem State.acceptCandidate_timed (s : State) (n : TermId) : s.KeepsTiming (s.acceptCandidate n) := by
  unfold acceptCandidate
  split
  · exact s.acceptEdge_timed n _
  · exact .refl s

theorem State.acceptDue_timed (s : State) : s.KeepsTiming s.acceptDue := by
  refine .foldl (fun u n => ?_) _ s
  split
  · exact u.acceptCandidate_timed n
  · exact .refl u

theorem State.changePin_timed (s : State) (n : TermId) (high : Bool) :
    s.KeepsTiming (s.changePin n high) := by
  have hterm : ∀ r, s.KeepsTiming ((s.setPin n high).setTerminal n r) := fun _ => .of_view rfl
  unfold changePin
  simp only
  split
  · unfold judgeRaw
    simp only
    split
    · exact hterm _
    · split
      · exact (hterm _).trans (acceptEdge_timed ..)
      · exact hterm _
  · exact .of_view rfl

theorem State.raiseSubst_timed (s : State) (ks : List Nat) : s.KeepsTiming (s.raiseSubst ks) :=
  .foldl (fun u _ => .of_view (u.raiseUnbound_timing ..)) ks s

theorem State.changeSegments_timed (s : State) (f : Segment → Segment) :
    s.KeepsTiming (s.changeSegments f) :=
  .trans (t := s.setThermal (settleSegments (s.thermal.map f))) (.of_view rfl) (raiseSubst_timed ..)

theorem State.expireHold_timed (s : State) (k : Nat) : s.KeepsTiming (s.expireHold k) := by
  have hset : ∀ l, s.KeepsTiming (s.setThermal l) := fun _ => .of_view rfl
  exact (hset (settleSegments (s.thermal.modify k _))).trans (raiseSubst_timed ..)

theorem State.expireDueHolds_timed (s : State) : s.KeepsTiming s.expireDueHolds := by
  refine .foldl (fun u k => ?_) _ s
  split
  · exact u.expireHold_timed k
  · exact .refl u

theorem State.takeSample_timed (s : State) (n : TermId) (code : ProbeCode) :
    s.KeepsTiming (s.takeSample n code) := by
  have hterm : ∀ r, s.KeepsTiming (s.setTerminal n r) := fun _ => .of_view rfl
  unfold takeSample
  simp only
  split
  · split
    · exact (hterm _).trans (changeSegments_timed ..)
    · exact hterm _
  · split
    · exact (hterm _).trans (changeSegments_timed ..)
    · exact hterm _

theorem State.configure_timed (s : State) (f : TermFields) : s.KeepsTiming (s.configure f) := by
  have hterm : s.KeepsTiming (s.setTerminal f.terminal
    (s.terminals[f.terminal].configured f s.pinHigh[f.terminal] s.clock)) := .of_view rfl
  unfold configure
  simp only
  refine hterm.trans ?_
  unfold leaveMode
  split
  · split
    · split
      · exact clampDrop_timed ..
      · exact .refl _
    · exact .refl _
  · split
    · exact changeSegments_timed ..
    · exact .refl _
  · exact .refl _

theorem ruleTermConfig_timed (s : State) (b : List Byte) : s.KeepsTiming (ruleTermConfig b s).1 := by
  unfold ruleTermConfig
  split
  · exact .refl s
  · split_ifs
    · exact .refl s
    · exact .refl s
    · exact .refl s
    · exact s.configure_timed _

theorem ruleTermWrite_timed (s : State) (b : List Byte) : s.KeepsTiming (ruleTermWrite b s).1 := by
  unfold ruleTermWrite
  split <;> exact .of_view rfl

theorem ruleTermAck_timed (s : State) (b : List Byte) : s.KeepsTiming (ruleTermAck b s).1 := by
  unfold ruleTermAck
  split
  · exact .refl s
  · exact .foldl (f := fun acc n => acc.setTerminal n { acc.terminals[n] with pending := false })
      (fun _ _ => .of_view rfl) _ s

theorem ruleTermRead_timed (s : State) (b : List Byte) : s.KeepsTiming (ruleTermRead b s).1 := by
  unfold ruleTermRead
  split <;> exact .refl s

end Sys2Proof.Machine
end

section
/-! SUPPORT. Every step keeps the timers, the waiting list and the freeze: the Plan Store, the parameters and
the passing of time, then the table of commands (R62, R90, R94, R99, R100, R113). -/

namespace Sys2Proof.Machine

variable {s t u : State} {h : Slot}

/-! ### The Plan Store (Chapter 1) -/

/-- The Plan Store is written, and no hole is loaded or changes its class. -/
theorem State.agree_setPlan {p : Slot → Prop} (s : State) {q : PlanStore}
    (hc : ∀ i c, q.classAt i = some c → s.plan.classAt i = some c) : Agree p s (s.setPlan q) :=
  ⟨fun _ _ => rfl, fun _ _ => rfl, fun _ _ => .rfl, id, fun _ => id, hc, rfl⟩

/-- A plan in which nothing is loaded has no classes. -/
theorem PlanStore.classAt_of_unloaded {q : PlanStore} (hq : ∀ o ∈ q.holes, o = none) (i : Nat)
    (c : RivetClass) : q.classAt i ≠ some c := fun hc => by
  obtain ⟨x, hx, -⟩ := Option.map_eq_some_iff.1 hc
  exact absurd (hq _ (List.mem_of_getElem? (PlanStore.hole?_eq_some.1 hx))) (by simp)

theorem State.dropFrame_timed (s : State) : s.KeepsTiming s.dropFrame :=
  ((s.agree_setPlan (q := .empty) fun i c hc => absurd hc (PlanStore.classAt_of_unloaded
    (fun _ ho => absurd ho List.not_mem_nil) i c)).trans (.of_view (setThermal_timing ..))).keepsTiming

theorem rulePlanBegin_timed (s : State) (b : List Byte) : s.KeepsTiming (rulePlanBegin b s).1 := by
  unfold rulePlanBegin
  split_ifs
  · exact .refl s
  · exact .refl s
  · exact (s.agree_setPlan (q := .begun (headerOf b)) fun i c hc => absurd hc
      (PlanStore.classAt_of_unloaded (fun _ ho => (List.mem_replicate.1 ho).2) i c)).keepsTiming

theorem rulePlanSegment_timed (s : State) (b : List Byte) : s.KeepsTiming (rulePlanSegment b s).1 := by
  unfold rulePlanSegment
  simp only
  split
  · exact .refl s
  · split
    · exact .refl s
    · split_ifs
      · exact .refl s
      · exact .refl s
      · exact .of_view rfl

theorem rulePlanBay_timed (s : State) (b : List Byte) : s.KeepsTiming (rulePlanBay b s).1 := by
  unfold rulePlanBay
  simp only
  split_ifs
  · exact .refl s
  · exact .refl s
  · exact .refl s
  · exact .of_view rfl

theorem rulePlanSeal_timed (s : State) : s.KeepsTiming (rulePlanSeal s).1 := by
  have htake : ∀ l, s.KeepsTiming ((s.setPlan { s.plan with state := .ready }).setThermal l) :=
    fun _ => .of_view rfl
  unfold rulePlanSeal
  split
  · exact .refl s
  · split
    · exact .refl s
    · exact (htake _).trans (State.raiseSubst_timed ..)

theorem rulePlanAbort_timed (s : State) : s.KeepsTiming (rulePlanAbort s).1 := by
  unfold rulePlanAbort
  split
  · exact s.dropFrame_timed
  · exact .refl s

theorem rulePlanRead_timed (s : State) (b : List Byte) : s.KeepsTiming (rulePlanRead b s).1 := by
  unfold rulePlanRead
  split_ifs <;> exact .refl s

theorem ruleDatum_timed (s : State) (b : List Byte) : s.KeepsTiming (ruleDatum b s).1 := by
  unfold ruleDatum
  split_ifs
  · exact .refl s
  · exact .refl s
  · exact .refl s
  · exact .refl s
  · exact .of_view rfl

theorem Hole.redo_cls (x : Hole) : x.redo.cls = x.cls := by
  unfold redo
  split <;> rfl

theorem State.countRelease_timing (s : State) (accept : Bool) :
    (s.setPlan (s.plan.countRelease accept)).timingView = s.timingView := rfl

theorem ruleHoleReleaseRedo_timed (s : State) (b : List Byte) :
    s.KeepsTiming (ruleHoleReleaseRedo b s).1 := by
  unfold ruleHoleReleaseRedo
  split_ifs
  · exact .refl s
  · exact .refl s
  · split
    · exact .refl s
    · split
      · exact .refl s
      · exact .of_view ((State.countRelease_timing _ false).trans
          (s.changeHole_timing _ Hole.redo_cls))

theorem State.acceptHole_timed (s : State) (i : Nat) (x : Hole) (event : LogEvent) :
    s.KeepsTiming (s.acceptHole i x event) := by
  have hcounted : ((s.changeHole i (fun y => y.goto x.acceptState none)).setPlan
      ((s.changeHole i (fun y => y.goto x.acceptState none)).plan.countRelease true)).timingView
        = s.timingView := (State.countRelease_timing _ true).trans (s.goto_timing ..)
  have hwritten := (State.writeLog_timing _ i event true).trans hcounted
  unfold acceptHole
  simp only
  split
  · exact .of_view ((State.testComplete_timing _).trans hwritten)
  · exact .of_view hwritten

theorem ruleHoleReleaseAccept_timed (s : State) (b : List Byte) :
    s.KeepsTiming (ruleHoleReleaseAccept b s).1 := by
  unfold ruleHoleReleaseAccept
  split
  · exact .refl s
  · split
    · exact .refl s
    · split
      · exact .refl s
      · split
        · exact .refl s
        · split
          · exact .refl s
          · split
            · exact .refl s
            · exact s.acceptHole_timed _ _ _

theorem ruleHoleExcuse_timed (s : State) (b : List Byte) : s.KeepsTiming (ruleHoleExcuse b s).1 := by
  unfold ruleHoleExcuse
  split
  · exact .refl s
  · split
    · exact .refl s
    · split
      · exact .refl s
      · split_ifs
        · exact .refl s
        · exact .refl s
        · exact .of_view (by simp [State.excuseHole])

theorem ruleFrameEnd_timed (s : State) : s.KeepsTiming (ruleFrameEnd s).1 := by
  unfold ruleFrameEnd
  split_ifs
  · exact .refl s
  · exact .refl s
  · exact .refl s
  · exact s.dropFrame_timed

/-! ### Fences, deviations, the log and the queries -/

theorem ruleFenceSet_timed (s : State) (b : List Byte) : s.KeepsTiming (ruleFenceSet b s).1 := by
  unfold ruleFenceSet
  simp only
  split
  · split
    · split
      · exact .refl s
      · exact .of_view rfl
    · exact .refl s
  · exact .refl s

theorem ruleFenceClear_timed (s : State) (b : List Byte) : s.KeepsTiming (ruleFenceClear b s).1 := by
  unfold ruleFenceClear
  split
  · exact .refl s
  · split
    · exact .refl s
    · exact .of_view rfl

theorem ruleDevMode_timed (s : State) (b : List Byte) : s.KeepsTiming (ruleDevMode b s).1 := by
  unfold ruleDevMode
  split
  · split
    · exact .refl s
    · exact .of_view rfl
  · exact .refl s

theorem ruleDevClear_timed (s : State) (b : List Byte) : s.KeepsTiming (ruleDevClear b s).1 := by
  unfold ruleDevClear
  split
  · exact .refl s
  · exact .of_view rfl

theorem ruleLogRead_timed (s : State) (b : List Byte) : s.KeepsTiming (ruleLogRead b s).1 := by
  unfold ruleLogRead
  simp only
  split
  · exact .refl s
  · exact .of_view rfl

theorem ruleGetParam_timed (s : State) (b : List Byte) : s.KeepsTiming (ruleGetParam b s).1 := by
  unfold ruleGetParam
  split <;> exact .refl s

theorem ruleLineQuery_timed (s : State) (b : List Byte) : s.KeepsTiming (ruleLineQuery b s).1 := by
  unfold ruleLineQuery
  split <;> exact .refl s

/-! ### Writes of a parameter (R178) -/

theorem State.setParams_timed {q : Params} (hq : q.staleFreeze = s.params.staleFreeze) :
    s.KeepsTiming (s.setParams q) := .of_view (s.setParams_timing hq)

theorem State.writeParam_timed (s : State) (b : List Byte) {effect : Nat → State}
    (he : ∀ v, s.KeepsTiming (effect v)) : s.KeepsTiming (s.writeParam b effect).1 := by
  unfold writeParam
  split
  · exact .refl s
  · exact he _

/-- The generic write leaves STALE_ACTION (R178). -/
theorem Params.put_staleFreeze (q : Params) (id v : Nat) : (q.put id v).staleFreeze = q.staleFreeze := by
  unfold put
  split <;> rfl

theorem ruleSetParam_timed (s : State) (b : List Byte) : s.KeepsTiming (ruleSetParam b s).1 :=
  s.writeParam_timed b fun v => State.setParams_timed (s.params.put_staleFreeze _ v)

theorem ruleSetProbeHold_timed (s : State) (b : List Byte) : s.KeepsTiming (ruleSetProbeHold b s).1 :=
  s.writeParam_timed b fun v =>
    (State.setParams_timed (q := { s.params with probeHold := v }) rfl).trans (State.expireDueHolds_timed _)

/-- A write of STALE_ACTION has both rails judged (R99). -/
theorem ruleSetStaleAction_timed (s : State) (b : List Byte) :
    s.KeepsTiming (ruleSetStaleAction b s).1 :=
  s.writeParam_timed b fun _ => ⟨⟨id, fun _ => id⟩, fun _ _ => State.freezeFits_judgeFreeze _⟩

theorem ruleSetHeatMin_timed (s : State) (b : List Byte) : s.KeepsTiming (ruleSetHeatMin b s).1 :=
  s.writeParam_timed b fun _ => .of_view (s.setParams_timing rfl)

theorem ruleSetHeatMax_timed (s : State) (b : List Byte) : s.KeepsTiming (ruleSetHeatMax b s).1 :=
  s.writeParam_timed b fun _ => .of_view (s.setParams_timing rfl)

theorem ruleSetBudget_timed (s : State) (b : List Byte) : s.KeepsTiming (ruleSetBudget b s).1 :=
  s.writeParam_timed b fun v =>
    (State.setParams_timed (q := { s.params with
      budgets := s.params.budgets.set (budgetClass (u8At b 0)) v }) rfl).trans (State.expireClass_timed _ _)

theorem ruleSetLogThreshold_timed (s : State) (b : List Byte) :
    s.KeepsTiming (ruleSetLogThreshold b s).1 := State.setParams_timed rfl

theorem ruleSetDebounceMs_timed (s : State) (b : List Byte) :
    s.KeepsTiming (ruleSetDebounceMs b s).1 :=
  s.writeParam_timed b fun v =>
    (State.setParams_timed (q := { s.params with debounceMs := v }) rfl).trans (State.acceptDue_timed _)

theorem State.setPort_timed (s : State) (p : PortId) (q : Port) : s.KeepsTiming (s.setPort p q) :=
  .of_view (s.setPort_timing p q)

theorem State.receiveCharacter_timed (s : State) (p : PortId) (mark : Bool) (data : Byte)
    (stopHigh : Bool) : s.KeepsTiming (s.receiveCharacter p mark data stopHigh) := by
  unfold receiveCharacter
  simp only
  split
  · exact .of_view (by simp)
  · exact .of_view rfl

/-! ### The passing of time (R90, R94) -/

theorem State.elapsedTimers_getElem (s : State) (h : Slot) :
    s.elapsedTimers[h] = (s.timers[h]).elapse (s.timerRunning h) := by
  simp [elapsedTimers, indices]

/-- A timer that fits its head goes on to fit it: its count stays within its limit. -/
theorem timerFits_elapse {st : HeadState} {τ : MotionTimer} (running : Bool)
    (hτ : timerFits st τ = true) : timerFits st (τ.elapse running) = true := by
  cases τ with
  | stopped => exact hτ
  | counting stage limit count =>
    cases st <;> cases stage <;> simp [timerFits] at hτ <;>
      cases running <;> simp [MotionTimer.elapse, timerFits, hτ]

theorem State.tick_timed (s : State) : s.KeepsTiming s.tick := by
  unfold tick
  split
  · exact .refl s
  · simp only
    split
    · exact .of_view rfl
    · refine ⟨⟨fun ⟨hs, hn⟩ => ⟨fun h => ?_, hn⟩, fun _ => id⟩, fun _ => id⟩
      obtain ⟨ht, hrest⟩ := hs h
      refine ⟨?_, hrest⟩
      show timerFits _ s.elapsedTimers[h] = true
      rw [s.elapsedTimers_getElem]
      exact timerFits_elapse _ ht

/-! ### Takings and events -/

/-- What a step owes the laws: the loading of a hole keeps them where no grant stands yet. -/
def State.TimingStep (s t : State) : Prop :=
  s.headsKept → s.freezeFits →
    t.headsKept ∧ t.freezeFits ∧ (s.holesKept → s.waitersUnserved → t.waitersUnserved)

theorem State.KeepsTiming.step (hk : s.KeepsTiming t) : s.TimingStep t := fun hs hf =>
  ⟨hk.heads hs, hk.freeze hs hf, fun _ => hk.unserved hs⟩

/-- A hole is loaded before any grant stands, so no head waits for it (R5, R11). -/
theorem rulePlanHole_timed (s : State) (b : List Byte) : s.TimingStep (rulePlanHole b s).1 := by
  unfold rulePlanHole
  split
  · exact (State.KeepsTiming.refl s).step
  · rename_i hstate
    split
    · exact (State.KeepsTiming.refl s).step
    · split
      · exact (State.KeepsTiming.refl s).step
      · refine fun hs hf => ⟨hs, hf, fun ⟨hgrants, _⟩ _ h _ r _ hc => ?_⟩
        obtain ⟨g, hg, -⟩ := Option.bind_eq_some_iff.1 hc
        obtain ⟨hd, hh, hg⟩ := Option.bind_eq_some_iff.1 hg
        have hfits := hgrants h
        unfold State.grantFits at hfits
        rw [show s.heads[h] = some hd from hh] at hfits
        simp [hg, not_not.1 hstate] at hfits

/-- A message's kind and length are judged before its rule (R171). -/
theorem judgeMessage_step (m : Message) {rule : State → Taken}
    (hr : ∀ u : State, u.TimingStep (rule u).1) (p : PortId) (u : State) :
    u.TimingStep (judgeMessage p m rule u).1 := by
  unfold judgeMessage
  split_ifs
  · exact (State.KeepsTiming.refl u).step
  · exact (State.KeepsTiming.refl u).step
  · exact hr u

theorem State.TimingStep.trans_keepsTiming (hst : s.TimingStep t) (htu : t.KeepsTiming u) : s.TimingStep u := by
  intro hs hf
  obtain ⟨hheads, hfreeze, hunserved⟩ := hst hs hf
  exact ⟨htu.heads hheads, htu.freeze hheads hfreeze,
    fun hholes hu => htu.unserved hheads (hunserved hholes hu)⟩

theorem State.afterTaking_step (s : State) (p : PortId) (m : Message) {rule : State → Taken}
    (hr : ∀ u : State, u.TimingStep (rule u).1) : s.TimingStep (s.afterTaking p m rule) := by
  have hjudged : s.TimingStep (judgeMessage p m rule (s.dequeued p)).1 := by
    intro hs hf
    obtain ⟨hheads, hfreeze, hunserved⟩ := judgeMessage_step m hr p (s.dequeued p) hs hf
    exact ⟨hheads, hfreeze, fun hholes hu => hunserved hholes hu⟩
  show s.TimingStep ((judgeMessage p m rule (s.dequeued p)).1.appendReply p m.kind
    (judgeMessage p m rule (s.dequeued p)).2).sendNotices
  exact hjudged.trans_keepsTiming (.of_view (by simp))

theorem takeMessage_step {p : PortId} {kind : Byte} {b : List Byte} {rule : State → Taken}
    (hr : ∀ u : State, u.TimingStep (rule u).1) (h : takeMessage p kind b rule s = .next t) :
    s.TimingStep t := by
  rcases takeMessage_cases h with ht | ⟨-, ht⟩ <;> rw [ht]
  · exact (State.KeepsTiming.refl s).step
  · exact s.afterTaking_step p _ hr

theorem takeMessage_timed {p : PortId} {kind : Byte} {b : List Byte} {rule : State → Taken}
    (hr : ∀ u : State, u.KeepsTiming (rule u).1) (h : takeMessage p kind b rule s = .next t) :
    s.TimingStep t := takeMessage_step (fun u => (hr u).step) h

theorem takeEvent_timed {due : Bool} {effect : State → State}
    (he : ∀ u : State, u.KeepsTiming (effect u)) (h : takeEvent due effect s = .next t) :
    s.TimingStep t := by
  rcases takeEvent_cases h with ht | ⟨-, -, ht⟩ <;> rw [ht]
  · exact (State.KeepsTiming.refl s).step
  · exact ((he s).trans (.of_view (State.sendNotices_timing _))).step

/-- An event of a line or a pin follows the level while RESET_N is low, and is taken otherwise. -/
theorem levelOrEvent_timed {due : Bool} {effect : State → State} (hu : s.KeepsTiming u)
    (he : ∀ v : State, v.KeepsTiming (effect v))
    (h : (if s.inReset then .next u else takeEvent due effect s) = Host.Outcome.next t) :
    s.TimingStep t := by
  split at h
  · exact Host.Outcome.next.inj h ▸ hu.step
  · exact takeEvent_timed he h

/-- A message that is a row's own is taken, and one of another row is ignored (log entry 7). -/
theorem ownRow_timed {own : Bool} {taken : Host.Outcome State Fault Refusal}
    (ht : taken = .next t → s.TimingStep t)
    (h : (if own then taken else .next s) = Host.Outcome.next t) : s.TimingStep t := by
  split at h
  · exact ht h
  · exact Host.Outcome.next.inj h ▸ (State.KeepsTiming.refl s).step

theorem otherRow_timed {own : Bool} {taken : Host.Outcome State Fault Refusal}
    (ht : taken = .next t → s.TimingStep t)
    (h : (if own then .next s else taken) = Host.Outcome.next t) : s.TimingStep t := by
  split at h
  · exact Host.Outcome.next.inj h ▸ (State.KeepsTiming.refl s).step
  · exact ht h

/-! ### The commands and the step -/

/-- At power-on every slot is DETACHED, its timer stopped, nobody waits and no rail is frozen. -/
theorem execPowerOn_timed (h : execPowerOn s = .next t) : s.TimingStep t := by
  obtain rfl := Host.Outcome.next.inj h
  have hheads : State.reset.headsKept := by decide
  have hfreeze : State.reset.freezeFits := by decide
  exact fun _ _ => ⟨hheads, hfreeze, fun _ _ _ hw => nomatch hw⟩

/-- Every command keeps the timers, the waiting list and the freeze. -/
theorem exec_timed (c : Instr) (h : exec c s = .next t) : s.TimingStep t := by
  cases c with
  | powerOn => exact execPowerOn_timed h
  | resetNAssert =>
    have hsame : s.KeepsTiming { s with inReset := true } := .of_view rfl
    exact Host.Outcome.next.inj h ▸ hsame.step
  | attach slot b => exact takeMessage_timed (fun u => ruleAttach_timed u slot b) h
  | detach slot b => exact takeMessage_timed (fun u => ruleDetach_timed u slot) h
  | next slot b => exact takeMessage_timed (fun u => ruleNext_timed u slot) h
  | take slot b => exact takeMessage_timed (fun u => ruleTake_timed u slot b) h
  | move slot b => exact takeMessage_timed (fun u => ruleMove_timed u slot b) h
  | arrived slot b => exact takeMessage_timed (fun u => ruleArrived_timed u slot) h
  | progress slot b => exact takeMessage_timed (fun u => ruleProgress_timed u slot) h
  | abandon slot b => exact takeMessage_timed (fun u => ruleAbandon_timed u slot) h
  | drillDone slot b => exact takeMessage_timed (fun u => ruleDrillDone_timed u slot b) h
  | feed slot b => exact takeMessage_timed (fun u => ruleFeed_timed u slot) h
  | setDone slot b => exact takeMessage_timed (fun u => ruleSetDone_timed u slot) h
  | haltAt slot b => exact takeMessage_timed (fun u => ruleHaltAt_timed u slot b) h
  | headQuery slot b => exact takeMessage_timed .refl h
  | planBegin b => exact takeMessage_timed (fun u => rulePlanBegin_timed u b) h
  | planSegment b => exact takeMessage_timed (fun u => rulePlanSegment_timed u b) h
  | planBay b => exact takeMessage_timed (fun u => rulePlanBay_timed u b) h
  | planHole b => exact takeMessage_step (fun u => rulePlanHole_timed u b) h
  | planSeal b => exact takeMessage_timed rulePlanSeal_timed h
  | planAbort b => exact takeMessage_timed rulePlanAbort_timed h
  | planRead b => exact takeMessage_timed (fun u => rulePlanRead_timed u b) h
  | datum b => exact takeMessage_timed (fun u => ruleDatum_timed u b) h
  | fenceSet b => exact takeMessage_timed (fun u => ruleFenceSet_timed u b) h
  | fenceClear b => exact takeMessage_timed (fun u => ruleFenceClear_timed u b) h
  | holeReleaseRedo b => exact otherRow_timed (takeMessage_timed fun u => ruleHoleReleaseRedo_timed u b) h
  | holeReleaseAccept b => exact ownRow_timed (takeMessage_timed fun u => ruleHoleReleaseAccept_timed u b) h
  | holeExcuse b => exact takeMessage_timed (fun u => ruleHoleExcuse_timed u b) h
  | headRecover b => exact takeMessage_timed (fun u => ruleHeadRecover_timed u b) h
  | headEvict b => exact takeMessage_timed (fun u => ruleHeadEvict_timed u b) h
  | devMode b => exact takeMessage_timed (fun u => ruleDevMode_timed u b) h
  | devClear b => exact takeMessage_timed (fun u => ruleDevClear_timed u b) h
  | devRead b => exact takeMessage_timed .refl h
  | logRead b => exact takeMessage_timed (fun u => ruleLogRead_timed u b) h
  | setParam b => exact otherRow_timed (takeMessage_timed fun u => ruleSetParam_timed u b) h
  | setParamProbeHold b => exact ownRow_timed (takeMessage_timed fun u => ruleSetProbeHold_timed u b) h
  | setParamStaleAction b => exact ownRow_timed (takeMessage_timed fun u => ruleSetStaleAction_timed u b) h
  | setParamHeatMin b => exact ownRow_timed (takeMessage_timed fun u => ruleSetHeatMin_timed u b) h
  | setParamHeatMax b => exact ownRow_timed (takeMessage_timed fun u => ruleSetHeatMax_timed u b) h
  | setParamBudget b => exact ownRow_timed (takeMessage_timed fun u => ruleSetBudget_timed u b) h
  | setParamLogThreshold b => exact ownRow_timed (takeMessage_timed fun u => ruleSetLogThreshold_timed u b) h
  | setParamDebounceMs b => exact ownRow_timed (takeMessage_timed fun u => ruleSetDebounceMs_timed u b) h
  | getParam b => exact takeMessage_timed (fun u => ruleGetParam_timed u b) h
  | termConfig b => exact takeMessage_timed (fun u => ruleTermConfig_timed u b) h
  | termWrite b => exact takeMessage_timed (fun u => ruleTermWrite_timed u b) h
  | termRead b => exact takeMessage_timed (fun u => ruleTermRead_timed u b) h
  | termAck b => exact takeMessage_timed (fun u => ruleTermAck_timed u b) h
  | heaterClear b => exact takeMessage_timed ruleHeaterClear_timed h
  | frameEnd b => exact takeMessage_timed ruleFrameEnd_timed h
  | lineQuery b => exact takeMessage_timed (fun u => ruleLineQuery_timed u b) h
  | rivetOut b => exact takeMessage_timed (fun u => ruleRivetOut_timed u b) h
  | heaterQuery b => exact takeMessage_timed .refl h
  | motionTimerExpiry slot => exact takeEvent_timed (fun u => u.expireTimer_timed slot) h
  | holdExpiry k => exact takeEvent_timed (fun u => u.expireHold_timed k) h
  | rivetExpiry serial => exact takeEvent_timed (fun u => u.expireRivet_timed serial) h
  | rawChange n high =>
    exact levelOrEvent_timed (.of_view (s.setPin_timing n high)) (fun u => u.changePin_timed n high) h
  | acceptance n => exact takeEvent_timed (fun u => u.acceptCandidate_timed n) h
  | probeSample n code => exact takeEvent_timed (fun u => u.takeSample_timed n code) h
  | characterArrival p mark data stopHigh =>
    exact levelOrEvent_timed (s.setPort_timed p _) (fun u => u.receiveCharacter_timed p mark data stopHigh) h
  | gapExpiry p => exact takeEvent_timed (fun u => u.setPort_timed p _) h
  | inBreak p => exact takeEvent_timed (fun u => u.setPort_timed p _) h
  | breakReturn p => exact levelOrEvent_timed (s.setPort_timed p _) (fun u => u.takeBreak_timed p) h
  | frameSent p => exact takeEvent_timed (fun u => u.setPort_timed p _) h
  | unknownKindMessage p kind b => exact otherRow_timed (takeMessage_timed .refl) h
  | frameTransmitStart p => exact takeEvent_timed (fun u => u.setPort_timed p _) h
  | receiveLineFall p => exact levelOrEvent_timed (s.setPort_timed p _) (fun u => u.setPort_timed p _) h

/-- Settles O16: a command turns one slot, a few slots one after the other, or none, and the passing of time
leaves each count within its limit. -/
theorem stepKeepsTimersWaitingAndFreeze : Obligations.StepKeepsTimersWaitingAndFreeze := by
  intro s t hs hf h
  unfold step at h
  split at h
  · exact Host.Outcome.next.inj h ▸ s.tick_timed.step hs hf
  · rename_i c rest _
    exact exec_timed (s := { s with pending := rest }) c h hs hf

end Sys2Proof.Machine
end

section
/-! SUPPORT. One unit of time on an empty queue: within a millisecond, and at its end (R89, R94). -/

namespace Sys2Proof.Machine

variable {s : State}

/-- Within a millisecond only the ports' times and the fraction of the millisecond go on. -/
theorem State.tick_within (hr : s.inReset = false) (hms : s.subMs + 1 < 576) :
    s.tick = { s with ports := mapRow Port.elapse s.ports, subMs := s.subMs + 1 } := by
  have hunits : s.subMs + 1 < Config.unitsPerMs := hms
  simp [tick, hr, hunits]

/-- At the end of a millisecond the line clock and the timers go on too (R89, R94). -/
theorem State.tick_millisecond (hr : s.inReset = false) (hms : ¬ s.subMs + 1 < 576) :
    s.tick = { s with ports := mapRow Port.elapse s.ports, subMs := 0, clock := s.clock + 1
                      timers := s.elapsedTimers } := by
  have hunits : ¬ s.subMs + 1 < Config.unitsPerMs := hms
  simp [tick, hr, hunits]

/-- A paused count stands, and a running one is held to its limit (R90, R94). -/
theorem MotionTimer.elapse_counting (stage : TimerStage) (limit count : Nat) (running : Bool) :
    (counting stage limit count).elapse running
      = .counting stage limit (if running = false then count else min limit (count + 1)) := by
  cases running <;> rfl

/-- Settles O2: the unit either stays within its millisecond or completes it. -/
theorem emptyQueuePassesOneUnitOfTime : Obligations.EmptyQueuePassesOneUnitOfTime := by
  intro s hempty hr
  have hstep : step s = .next s.tick := by simp [step, hempty]
  refine ⟨s.tick, hstep, ?_⟩
  by_cases hms : s.subMs + 1 < 576
  · rw [State.tick_within hr hms]
    refine ⟨getElem_mapRow _ _, by simp [hms], by simp [hms], fun h => ?_, rfl⟩
    simp only [hms, true_or, if_true]
    split <;> assumption
  · rw [State.tick_millisecond hr hms]
    refine ⟨getElem_mapRow _ _, by simp [hms], by simp [hms], fun h => ?_, rfl⟩
    show s.elapsedTimers[h] = _
    rw [s.elapsedTimers_getElem]
    cases s.timers[h] with
    | stopped => rfl
    | counting stage limit count => simp only [MotionTimer.elapse_counting, hms, false_or]

end Sys2Proof.Machine
end

section
/-! SUPPORT. The writes of a parameter: its range, the reply, and what each write changes (R99, R105, R144,
R178). -/

namespace Sys2Proof.Machine

variable {s : State} {b : List Byte} {q : Params} {id lo hi v : Nat}

/-! ### The table of parameters (R178) -/

/-- Only the ids 1 to 22 have a range, and no range is empty. -/
theorem paramRange_bounds (h : paramRange id = some (lo, hi)) : 1 ≤ id ∧ id ≤ 22 ∧ lo ≤ hi := by
  unfold paramRange at h
  split at h <;> simp at h <;> omega

theorem paramRange_unknown (h : id = 0 ∨ 22 < id) : paramRange id = none :=
  Option.eq_none_iff_forall_ne_some.2 fun r hr => by
    have := paramRange_bounds (lo := r.1) (hi := r.2) hr
    omega

/-- The ids 1 to 22 are those GET_PARAM reads. -/
theorem Params.get_isSome_iff (q : Params) (id : Nat) : (q.get id).isSome ↔ 1 ≤ id ∧ id ≤ 22 := by
  constructor
  · intro h
    unfold get at h
    split at h <;> simp at h ⊢
  · rintro ⟨h1, h22⟩
    interval_cases id <;> rfl

/-- A value written is the value read, where the write has no behaviour of its own. -/
theorem Params.get_put_self (q : Params) (v : Nat) (hown : id ∉ ownWriteIds)
    (hr : paramRange id = some (lo, hi)) : (q.put id v).get id = some v := by
  have hgeneric : id ∈ [1, 2, 4, 5, 6, 7, 8, 9, 10, 11] := by
    have := paramRange_bounds hr
    simp [ownWriteIds] at hown ⊢
    omega
  fin_cases hgeneric <;> rfl

/-- The generic write leaves every other parameter. -/
theorem Params.get_put_other (q : Params) (v : Nat) {id' : Nat} (hne : id' ≠ id) :
    (q.put id v).get id' = q.get id' := by
  unfold put
  split <;> (unfold get; split <;> simp_all)

/-! ### Saturation and rounding -/

theorem saturate_eq {x : Int} (hle : lo ≤ hi) (hv : (v : Int) = max (lo : Int) (min (hi : Int) x)) :
    saturate lo hi x = v := by
  unfold saturate
  omega

/-- LOG_THRESHOLD is the least member of its set that the value does not exceed, 64 above them all (R144). -/
theorem roundThreshold_eq {x : Int} (hm : v ∈ [1, 16, 48, 64]) (hle : x ≤ v ∨ v = 64)
    (hleast : ∀ w ∈ [1, 16, 48], w < v → w < x) : roundThreshold x = v := by
  simp at hm hleast
  unfold roundThreshold
  rcases hm with rfl | rfl | rfl | rfl <;> split_ifs <;> omega

/-! ### A write of five bytes -/

theorem writesOneOf_eq (hl : b.length = 5) (ids : List Nat) : writesOneOf ids b = ids.contains (u8At b 0) := by
  simp [writesOneOf, hl]

theorem ofNat_u8At (b : List Byte) (i : Nat) : BitVec.ofNat 8 (u8At b i) = b.getD i 0 := by
  simp [u8At]

/-- A write stores the saturated value and answers with it, LIMITED where it is another than the written. -/
theorem State.writeParam_stores (effect : Nat → State) (hr : paramRange (u8At b 0) = some (lo, hi))
    (hv : (v : Int) = max (lo : Int) (min (hi : Int) (i32At b 1))) : s.writeParam b effect
      = (effect v, ⟨if i32At b 1 = v then .ok else .limited, 0, .parameter (b.getD 0 0) v⟩) := by
  obtain ⟨-, -, hle⟩ := paramRange_bounds hr
  have hstored : saturate lo hi (writtenValue b) = v := saturate_eq hle hv
  simp only [writeParam, hr, hstored, writeReply, ofNat_u8At]
  rfl

theorem State.writeParam_unknown (effect : Nat → State) (h : u8At b 0 = 0 ∨ 22 < u8At b 0) :
    s.writeParam b effect = (s, ⟨.badField, 0, .none⟩) := by
  simp only [writeParam, paramRange_unknown h, refuse_eq (by decide : kindSetParam ≠ kindRivetOut)]

/-- A write whose effect is on the parameters alone changes them and answers. -/
theorem setParam_answered {rule : State → Taken} {r : Reply} (hready : s.ready supervisorPort kindSetParam b)
    (hl : b.length = 5)
    (hr : rule (s.dequeued supervisorPort) = ((s.dequeued supervisorPort).setParams q, r)) :
    takeMessage supervisorPort kindSetParam b rule s
      = .next { s with params := q, ports := repliedPorts s.ports supervisorPort kindSetParam r } :=
  supervisor_answered (n := 5) hready (by decide) hl hr rfl

/-! ### The single writes -/

theorem execSetParam_taken (hl : b.length = 5) (hown : u8At b 0 ∉ ownWriteIds) :
    execSetParam b s = takeMessage supervisorPort kindSetParam b (ruleSetParam b) s := by
  simp [execSetParam, writesOneOf_eq hl, hown]

theorem execSetParam_stores (hready : s.ready supervisorPort kindSetParam b) (hl : b.length = 5)
    (hown : u8At b 0 ∉ ownWriteIds) (hr : paramRange (u8At b 0) = some (lo, hi))
    (hv : (v : Int) = max (lo : Int) (min (hi : Int) (i32At b 1))) :
    execSetParam b s = .next { s with
      params := s.params.put (u8At b 0) v
      ports := repliedPorts s.ports supervisorPort kindSetParam
        ⟨if i32At b 1 = v then .ok else .limited, 0, .parameter (b.getD 0 0) v⟩ } :=
  (execSetParam_taken hl hown).trans (setParam_answered hready hl (State.writeParam_stores _ hr hv))

theorem execSetParam_unknown (hready : s.ready supervisorPort kindSetParam b) (hl : b.length = 5)
    (hid : u8At b 0 = 0 ∨ 22 < u8At b 0) :
    execSetParam b s = .next { s with
      ports := repliedPorts s.ports supervisorPort kindSetParam ⟨.badField, 0, .none⟩ } := by
  have hown : u8At b 0 ∉ ownWriteIds := by
    simp [ownWriteIds]
    omega
  exact (execSetParam_taken hl hown).trans
    (supervisor_refused (n := 5) hready (by decide) hl (State.writeParam_unknown _ hid))

/-- HEAT_MIN takes HEAT_MAX with it where that lies below (R105). -/
theorem execSetParamHeatMin_stores (hready : s.ready supervisorPort kindSetParam b) (hl : b.length = 5)
    (hv : (v : Int) = max 600 (min 1300 (i32At b 1))) (hid : u8At b 0 = 13) :
    execSetParamHeatMin b s = .next { s with
      params := { s.params with
        heatMin := v, heatMax := if s.params.heatMax < v then v else s.params.heatMax }
      ports := repliedPorts s.ports supervisorPort kindSetParam
        ⟨if i32At b 1 = v then .ok else .limited, 0, .parameter (b.getD 0 0) v⟩ } := by
  have hmax : max v s.params.heatMax = if s.params.heatMax < v then v else s.params.heatMax := by
    split_ifs <;> omega
  rw [← hmax]
  have hexec : execSetParamHeatMin b s
      = takeMessage supervisorPort kindSetParam b (ruleSetHeatMin b) s := by
    simp [execSetParamHeatMin, writesOneOf_eq hl, hid]
  exact hexec.trans (setParam_answered hready hl (State.writeParam_stores _ (by rw [hid]; rfl) hv))

/-- HEAT_MAX takes HEAT_MIN with it where that lies above (R105). -/
theorem execSetParamHeatMax_stores (hready : s.ready supervisorPort kindSetParam b) (hl : b.length = 5)
    (hv : (v : Int) = max 600 (min 1300 (i32At b 1))) (hid : u8At b 0 = 14) :
    execSetParamHeatMax b s = .next { s with
      params := { s.params with
        heatMax := v, heatMin := if v < s.params.heatMin then v else s.params.heatMin }
      ports := repliedPorts s.ports supervisorPort kindSetParam
        ⟨if i32At b 1 = v then .ok else .limited, 0, .parameter (b.getD 0 0) v⟩ } := by
  have hmin : min v s.params.heatMin = if v < s.params.heatMin then v else s.params.heatMin := by
    split_ifs <;> omega
  rw [← hmin]
  have hexec : execSetParamHeatMax b s
      = takeMessage supervisorPort kindSetParam b (ruleSetHeatMax b) s := by
    simp [execSetParamHeatMax, writesOneOf_eq hl, hid]
  exact hexec.trans (setParam_answered hready hl (State.writeParam_stores _ (by rw [hid]; rfl) hv))

theorem execSetParamLogThreshold_stores (hready : s.ready supervisorPort kindSetParam b)
    (hl : b.length = 5) (hid : u8At b 0 = 21) (hv : roundThreshold (i32At b 1) = v) :
    execSetParamLogThreshold b s = .next { s with
      params := { s.params with logThreshold := v }
      ports := repliedPorts s.ports supervisorPort kindSetParam
        ⟨if i32At b 1 = v then .ok else .limited, 0, .parameter 21 v⟩ } := by
  have hexec : execSetParamLogThreshold b s
      = takeMessage supervisorPort kindSetParam b (ruleSetLogThreshold b) s := by
    simp [execSetParamLogThreshold, writesOneOf_eq hl, hid]
  subst hv
  exact hexec.trans (setParam_answered hready hl rfl)

/-- STALE_ACTION is FREEZE, or not, and both rails are judged. -/
def State.withStaleAction (s : State) (freeze : Bool) : State :=
  (s.setParams { s.params with staleFreeze := freeze }).judgeFreeze

/-- STALE_ACTION is FREEZE from 1 on, and both rails are judged afresh (R99, R100). -/
theorem ruleSetStaleAction_stores (s : State) (hid : u8At b 0 = 12) :
    ruleSetStaleAction b s
      = (s.withStaleAction (decide (1 ≤ i32At b 1)),
        ⟨if i32At b 1 = 0 ∨ i32At b 1 = 1 then .ok else .limited, 0,
          .parameter 12 (if 1 ≤ i32At b 1 then 1 else 0)⟩) := by
  obtain ⟨v, hv⟩ : ∃ v : Nat, v = if 1 ≤ i32At b 1 then 1 else 0 := ⟨_, rfl⟩
  have hrange : (v : Int) = max ((0 : Nat) : Int) (min ((1 : Nat) : Int) (i32At b 1)) := by
    rw [hv]
    split_ifs <;> omega
  have hfreeze : v = 1 ↔ 1 ≤ i32At b 1 := by omega
  have hcode : i32At b 1 = v ↔ i32At b 1 = 0 ∨ i32At b 1 = 1 := by omega
  have hbyte : b.getD 0 0 = 12 := by
    rw [← ofNat_u8At, hid]
    rfl
  have hint : (v : Int) = if 1 ≤ i32At b 1 then 1 else 0 := by
    rw [hv]
    split_ifs <;> rfl
  unfold ruleSetStaleAction
  rw [State.writeParam_stores _ (by rw [hid]; rfl) hrange, hbyte, if_congr hcode rfl rfl, hint]
  simp only [hfreeze]
  rfl

theorem execSetParamStaleAction_stores (hready : s.ready supervisorPort kindSetParam b)
    (hl : b.length = 5) (hid : u8At b 0 = 12) :
    execSetParamStaleAction b s = .next {
      (s.dequeued supervisorPort).withStaleAction (decide (1 ≤ i32At b 1)) with
      ports := repliedPorts s.ports supervisorPort kindSetParam
        ⟨if i32At b 1 = 0 ∨ i32At b 1 = 1 then .ok else .limited, 0,
          .parameter 12 (if 1 ≤ i32At b 1 then 1 else 0)⟩ } := by
  have hexec : execSetParamStaleAction b s
      = takeMessage supervisorPort kindSetParam b (ruleSetStaleAction b) s := by
    simp [execSetParamStaleAction, writesOneOf_eq hl, hid]
  have hrule := ruleSetStaleAction_stores (s.dequeued supervisorPort) hid
  exact hexec.trans (supervisor_answered (n := 5) hready (by decide) hl hrule rfl)

/-! ### GET_PARAM -/

theorem execGetParam_answered (hready : s.ready supervisorPort kindGetParam b) (hl : b.length = 1) :
    execGetParam b s = .next { s with
      ports := repliedPorts s.ports supervisorPort kindGetParam
        (match s.params.get (u8At b 0) with
          | some v => ⟨.ok, 0, .parameter (b.getD 0 0) v⟩
          | none => ⟨.badField, 0, .none⟩) } := by
  refine supervisor_refused (n := 1) hready (by decide) hl ?_
  unfold ruleGetParam
  rw [show (s.dequeued supervisorPort).params = s.params from rfl, ofNat_u8At]
  cases s.params.get (u8At b 0) with
  | none => exact refuse_eq (by decide) _ _
  | some v => rfl

/-- Settles O50: each clause is the effect of one write, or the reading. -/
theorem parameterWritesSaturate : Obligations.ParameterWritesSaturate := by
  refine ⟨fun b s lo hi v hready hl hown hr hv => ?_, fun b s => execSetParam_unknown,
    fun b s v hready hl hv => ⟨execSetParamHeatMin_stores hready hl hv,
      execSetParamHeatMax_stores hready hl hv⟩,
    fun b s v hready hl hid hm hle hleast =>
      execSetParamLogThreshold_stores hready hl hid (roundThreshold_eq hm hle hleast),
    fun b s hready hl hid => ?_,
    fun b s hready hl => ⟨s.params.get_isSome_iff _, execGetParam_answered hready hl⟩⟩
  · exact ⟨_, execSetParam_stores hready hl hown hr hv, s.params.get_put_self v hown hr,
      fun _ => s.params.get_put_other v, rfl, rfl⟩
  · exact ⟨_, execSetParamStaleAction_stores hready hl hid, rfl, State.freezeFits_judgeFreeze _, rfl, rfl⟩

end Sys2Proof.Machine
end

section
/-! SUPPORT. The rivets of the tray and of the heads: the serials they bear, how a rivet leaves the tray, and
the serial the next one is given (R104, R109, R120). -/

namespace Sys2Proof.Machine

variable {s t u : State} {h : Slot}

/-! ### The serial a head holds (R104) -/

/-- The serial of the rivet a head's grant holds. -/
def Head.serial (hd : Head) : Option (BitVec 16) :=
  hd.status.holeGrant.bind (fun g => g.rivet.map Rivet.serial)

/-- The serial a slot holds. -/
def serialAt (heads : Vector (Option Head) 8) (h : Slot) : Option (BitVec 16) := heads[h].bind Head.serial

theorem serialAt_set (heads : Vector (Option Head) 8) (h : Slot) (v : Option Head) (h' : Slot) :
    serialAt (heads.set h v) h' = if h' = h then v.bind Head.serial else serialAt heads h' := by
  unfold serialAt
  split
  · rename_i e
    rw [e, heads_set_self]
  · rename_i hne
    rw [heads_set_other hne]

/-- The serials held are those of the tray, then those of the slots in ascending order. -/
theorem State.serialsHeld_eq (s : State) : s.serialsHeld
    = s.heat.tray.map Rivet.serial ++ (List.finRange 8).filterMap (serialAt s.heads) := by
  have hheads : s.heads.toList = (List.finRange 8).map (fun h => s.heads[h]) := by
    refine List.ext_getElem (by simp) fun i _ _ => ?_
    simp
  unfold serialsHeld
  rw [hheads, List.filterMap_map]
  refine congrArg₂ _ rfl (List.filterMap_congr fun h _ => ?_)
  show (s.heads[h].bind _).bind _ = s.heads[h].bind _
  rw [Option.bind_assoc]
  rfl

theorem State.mem_serialsHeld {v : BitVec 16} : v ∈ s.serialsHeld
    ↔ v ∈ s.heat.tray.map Rivet.serial ∨ ∃ h, serialAt s.heads h = some v := by
  rw [serialsHeld_eq, List.mem_append, List.mem_filterMap]
  simp

/-- No serial stands twice: not in the tray, not in the tray and at a slot, and not at two slots. -/
theorem State.serialsKept_iff : s.serialsKept ↔ (s.heat.tray.map Rivet.serial).Nodup
    ∧ ∀ h v, serialAt s.heads h = some v →
      v ∉ s.heat.tray.map Rivet.serial ∧ ∀ h', serialAt s.heads h' = some v → h' = h := by
  have hslots : ((List.finRange 8).filterMap (serialAt s.heads)).Nodup
      ↔ ∀ h v, serialAt s.heads h = some v → ∀ h', serialAt s.heads h' = some v → h' = h := by
    unfold List.Nodup
    rw [List.pairwise_filterMap]
    constructor
    · intro hp h v hv h' hv'
      have hlt : ∀ a b : Slot, a < b → serialAt s.heads a = some v → serialAt s.heads b = some v → False :=
        fun a b hab ha hb => by
          have hab' := List.pairwise_iff_getElem.1 hp a.val b.val (by simp) (by simp) hab
          simp only [List.getElem_finRange, Fin.cast_mk, Fin.eta] at hab'
          exact hab' v ha v hb rfl
      rcases lt_trichotomy h h' with hlt' | e | hlt'
      · exact (hlt h h' hlt' hv hv').elim
      · exact e.symm
      · exact (hlt h' h hlt' hv' hv).elim
    · intro hall
      refine (List.pairwise_lt_finRange 8).imp fun {a b} hab v hv v' hv' e => ?_
      exact hab.ne' (hall a v hv b (e ▸ hv'))
  unfold serialsKept
  rw [serialsHeld_eq, List.nodup_append', hslots]
  refine and_congr_right fun _ => ⟨fun ⟨hone, hdisj⟩ h v hv => ⟨fun hm => ?_, hone h v hv⟩,
    fun hall => ⟨fun h v hv => (hall h v hv).2, fun v hm hv => ?_⟩⟩
  · exact hdisj hm (List.mem_filterMap.2 ⟨h, List.mem_finRange h, hv⟩)
  · obtain ⟨h, -, hv⟩ := List.mem_filterMap.1 hv
    exact (hall h v hv).1 hm

/-! ### A rivet leaves the tray (R109, R120) -/

/-- The first rivet a test finds is the one a removal takes out, and the others keep their order. -/
theorem eraseP_of_find? {l : List Rivet} {test : Rivet → Bool} {r : Rivet} (hf : l.find? test = some r) :
    ∃ pre post, l = pre ++ r :: post ∧ l.eraseP test = pre ++ post := by
  obtain ⟨hr, pre, post, hl, hpre⟩ := List.find?_eq_some_iff_append.1 hf
  refine ⟨pre, post, hl, ?_⟩
  rw [hl, List.eraseP_append_right _ (fun x hx => by simpa using hpre x hx), List.eraseP_cons_of_pos hr]

theorem HeatQueue.tray_afterRemoval (q : HeatQueue) (left : List Rivet) :
    (q.afterRemoval left).tray = left ++ q.chute.toList := by
  unfold afterRemoval tray
  split <;> simp_all

theorem HeatQueue.tray_takeOut (q : HeatQueue) (test : Rivet → Bool) :
    (q.takeOut test).tray = q.tray.eraseP test := by
  unfold takeOut
  split
  · rename_i hq
    obtain ⟨r, hr, ht⟩ := List.any_eq_true.1 hq
    rw [tray_afterRemoval, tray, List.eraseP_append_left ht _ hr]
  · rename_i hq
    have hnone : ∀ r ∈ q.queue, ¬test r = true := fun r hr ht => hq (List.any_eq_true.2 ⟨r, hr, ht⟩)
    have herase : q.tray.eraseP test = q.queue ++ q.chute.toList.eraseP test :=
      List.eraseP_append_right _ hnone
    rw [herase]
    cases hc : q.chute with
    | none => simp [tray, hc]
    | some r => by_cases ht : test r = true <;> simp [tray, ht, hc]

/-- The full mark follows a count of at most six (R120). -/
theorem fullMarkAfter_follows {n : Nat} (hn : n ≤ 6) (mark : Bool) :
    (n = 6 → fullMarkAfter mark n = true) ∧ (n ≤ 4 → fullMarkAfter mark n = false) := by
  unfold fullMarkAfter
  constructor
  · rintro rfl
    rfl
  · intro hfour
    rw [if_neg (show ¬6 ≤ n by omega), if_pos hfour]

theorem HeatQueue.kept_afterRemoval {q : HeatQueue} {left : List Rivet} (hq : q.kept)
    (hl : left.length + 1 = q.queue.length) : (q.afterRemoval left).kept := by
  obtain ⟨hsix, -, -, -⟩ := hq
  unfold afterRemoval
  split
  · have hmark := fullMarkAfter_follows (n := left.length + 1) (by omega) q.fullMark
    exact ⟨by simp; omega, by simp, by simpa only [List.length_append, List.length_singleton] using hmark⟩
  · rename_i hc
    exact ⟨by simp only; omega, by simp [hc], fullMarkAfter_follows (n := left.length) (by omega) q.fullMark⟩

theorem HeatQueue.kept_takeOut {q : HeatQueue} (hq : q.kept) (test : Rivet → Bool) :
    (q.takeOut test).kept := by
  unfold takeOut
  split
  · rename_i hany
    obtain ⟨r, hr, ht⟩ := List.any_eq_true.1 hany
    have hpos := List.length_pos_of_mem hr
    exact kept_afterRemoval hq (by rw [List.length_eraseP_of_mem hr ht]; omega)
  · split
    · obtain ⟨hsix, -, hfull⟩ := hq
      exact ⟨hsix, by simp, hfull⟩
    · exact hq

/-! ### The next serial (R104) -/

/-- The search passes over held serials, and stops at one that is free or at its bound. -/
theorem freeSerial_spec (held : List (BitVec 16)) (n : Nat) (v : BitVec 16) :
    ∃ m ≤ n, freeSerial held n v = v + BitVec.ofNat 16 m
      ∧ (∀ k < m, v + BitVec.ofNat 16 k ∈ held) ∧ (m < n → freeSerial held n v ∉ held) := by
  induction n generalizing v with
  | zero => exact ⟨0, le_rfl, by simp [freeSerial], by simp, by simp⟩
  | succ n ih =>
    by_cases hv : v ∈ held
    · obtain ⟨m, hm, hfree, hheld, hstop⟩ := ih (v + 1)
      have hnext : ∀ k : Nat, v + BitVec.ofNat 16 (k + 1) = v + 1 + BitVec.ofNat 16 k := fun k => by
        rw [BitVec.add_assoc, BitVec.add_comm 1, BitVec.ofNat_add]
        rfl
      have hstep : freeSerial held (n + 1) v = freeSerial held n (v + 1) := by simp [freeSerial, hv]
      refine ⟨m + 1, by omega, by rw [hstep, hfree, hnext], fun k hk => ?_, fun hlt => ?_⟩
      · cases k with
        | zero => simpa using hv
        | succ k => exact hnext k ▸ hheld k (by omega)
      · exact hstep ▸ hstop (by omega)
    · exact ⟨0, by omega, by simp [freeSerial, hv], by simp, fun _ => by simp [freeSerial, hv]⟩

/-- A search longer than the list of held serials ends before its bound: that many serials in a row are not
all held. -/
theorem freeSerial_found {held : List (BitVec 16)} {n : Nat} (hn : n ≤ 65536) (hlen : held.length < n)
    (v : BitVec 16) : ∃ m, freeSerial held n v = v + BitVec.ofNat 16 m ∧ freeSerial held n v ∉ held
      ∧ ∀ k < m, v + BitVec.ofNat 16 k ∈ held := by
  obtain ⟨m, hm, hfree, hheld, hstop⟩ := freeSerial_spec held n v
  refine ⟨m, hfree, hstop (lt_of_le_of_ne hm fun e => ?_), hheld⟩
  subst e
  have hnodup : ((List.range m).map (fun k => v + BitVec.ofNat 16 k)).Nodup := by
    refine List.Nodup.map_on (fun a ha b hb hab => ?_) List.nodup_range
    have hofNat : BitVec.ofNat 16 a = BitVec.ofNat 16 b := (BitVec.add_right_inj v).1 hab
    have := congrArg BitVec.toNat hofNat
    simp at ha hb this
    omega
  have hsub : (List.range m).map (fun k => v + BitVec.ofNat 16 k) ⊆ held := fun x hx => by
    obtain ⟨k, hk, rfl⟩ := List.mem_map.1 hx
    exact hheld k (List.mem_range.1 hk)
  have := (hnodup.subperm hsub).length_le
  simp at this
  omega

/-- Six rivets in the queue, one in the chute and eight at the heads hold fewer than 16 serials. -/
theorem State.length_serialsHeld (hq : s.heat.kept) : s.serialsHeld.length < 16 := by
  obtain ⟨hsix, -⟩ := hq
  have hslots := List.length_filterMap_le (serialAt s.heads) (List.finRange 8)
  have hchute : s.heat.chute.toList.length ≤ 1 := by cases s.heat.chute <;> simp
  simp [serialsHeld_eq, HeatQueue.tray] at hslots ⊢
  omega

theorem State.nextSerial_free (hq : s.heat.kept) : s.nextSerial ∉ s.serialsHeld := by
  obtain ⟨-, -, hfree, -⟩ := freeSerial_found (n := 16) (by omega) (length_serialsHeld hq)
    s.heat.serialCounter
  exact hfree

end Sys2Proof.Machine
end

section
/-! SUPPORT. The laws of the tray: what they read of a state, and the changes that keep them (R104, R109,
R120). -/

namespace Sys2Proof.Machine

/-! ### What the laws read of a state -/

/-- What the laws of the tray read of a state. -/
structure TrayView where
  clock : Clock
  heat : HeatQueue
  heads : Vector (Option Head) 8

def State.trayView (s : State) : TrayView := ⟨s.clock, s.heat, s.heads⟩

/-- The clock and the tray stand, and no slot comes to hold a rivet it did not hold. -/
structure State.TrayStands (s t : State) : Prop where
  clock : t.clock = s.clock
  queue : t.heat.queue = s.heat.queue
  chute : t.heat.chute = s.heat.chute
  fullMark : t.heat.fullMark = s.heat.fullMark
  serials : ∀ h v, serialAt t.heads h = some v → serialAt s.heads h = some v

/-- A change that keeps the tray's count and full mark and the serials, and its order while the ages count. -/
def State.KeepsTray (s t : State) : Prop :=
  s.heat.kept → s.serialsKept →
    t.heat.kept ∧ t.serialsKept ∧ (s.agesCount → s.trayInOrder → t.agesCount ∧ t.trayInOrder)

variable {s t u : State} {h : Slot}

/-! ### The tray stands -/

theorem State.TrayStands.of_view (hv : t.trayView = s.trayView) : s.TrayStands t := by
  obtain ⟨hclock, hheat, hheads⟩ := TrayView.mk.inj hv
  exact ⟨hclock, by rw [hheat], by rw [hheat], by rw [hheat], fun _ _ => by rw [hheads]; exact id⟩

theorem State.TrayStands.refl (s : State) : s.TrayStands s := .of_view rfl

theorem State.TrayStands.trans (hst : s.TrayStands t) (htu : t.TrayStands u) : s.TrayStands u where
  clock := htu.clock.trans hst.clock
  queue := htu.queue.trans hst.queue
  chute := htu.chute.trans hst.chute
  fullMark := htu.fullMark.trans hst.fullMark
  serials h v hv := hst.serials h v (htu.serials h v hv)

theorem State.TrayStands.foldl {α : Type} {f : State → α → State}
    (hf : ∀ (u : State) (a : α), u.TrayStands (f u a)) (l : List α) (s : State) :
    s.TrayStands (l.foldl f s) := by
  induction l generalizing s with
  | nil => exact .refl s
  | cons a l ih => exact (hf s a).trans (ih (f s a))

/-- One slot is written with a head that holds no rivet, or the one the slot held. -/
theorem State.TrayStands.write {v : Option Head}
    (hv : t.trayView = { s.trayView with heads := s.heads.set h v })
    (hserial : ∀ x, v.bind Head.serial = some x → serialAt s.heads h = some x) : s.TrayStands t := by
  obtain ⟨hclock, hheat, hheads⟩ := TrayView.mk.inj hv
  refine ⟨hclock, by rw [hheat]; rfl, by rw [hheat]; rfl, by rw [hheat]; rfl, fun h' x hx => ?_⟩
  rw [hheads, serialAt_set] at hx
  split at hx
  · rename_i e
    exact e ▸ hserial x hx
  · exact hx

/-- The part of the Heat Queue beside the tray is written. -/
theorem State.trayStands_setHeat (s : State) {q : HeatQueue} (hq : q.queue = s.heat.queue)
    (hc : q.chute = s.heat.chute) (hm : q.fullMark = s.heat.fullMark) : s.TrayStands (s.setHeat q) :=
  ⟨rfl, hq, hc, hm, fun _ _ => id⟩

/-! ### The laws are kept -/

theorem State.KeepsTray.trans (hst : s.KeepsTray t) (htu : t.KeepsTray u) : s.KeepsTray u := by
  intro hq hs
  obtain ⟨hqt, hst, horder⟩ := hst hq hs
  obtain ⟨hqu, hsu, horder'⟩ := htu hqt hst
  exact ⟨hqu, hsu, fun ha ho => (horder ha ho).elim horder'⟩

/-- Rivets leave the tray at most, and no slot comes to hold one it did not hold. -/
theorem State.KeepsTray.of_sublist (hclock : t.clock = s.clock) (hq : s.heat.kept → t.heat.kept)
    (htray : t.heat.tray.Sublist s.heat.tray)
    (hserials : ∀ h v, serialAt t.heads h = some v → serialAt s.heads h = some v) : s.KeepsTray t := by
  refine fun hkept hs => ⟨hq hkept, serialsKept_iff.2 ?_, fun ha ho => ⟨fun r hr => ?_, ?_⟩⟩
  · obtain ⟨hnodup, hheld⟩ := serialsKept_iff.1 hs
    refine ⟨(htray.map _).nodup hnodup, fun h v hv => ?_⟩
    obtain ⟨htray', hother⟩ := hheld h v (hserials h v hv)
    exact ⟨fun hm => htray' ((htray.map _).subset hm), fun h' hv' => hother h' (hserials h' v hv')⟩
  · rw [hclock]
    exact ha r (htray.subset hr)
  · unfold trayInOrder
    rw [hclock]
    exact ho.sublist htray

theorem State.TrayStands.keepsTray (hst : s.TrayStands t) : s.KeepsTray t := by
  refine .of_sublist hst.clock (fun hq => ?_) ?_ hst.serials
  · unfold HeatQueue.kept
    rw [hst.queue, hst.chute, hst.fullMark]
    exact hq
  · rw [HeatQueue.tray, hst.queue, hst.chute]
    exact .refl _

theorem State.KeepsTray.refl (s : State) : s.KeepsTray s := (TrayStands.refl s).keepsTray

theorem State.KeepsTray.foldl {α : Type} {f : State → α → State}
    (hf : ∀ (u : State) (a : α), u.KeepsTray (f u a)) (l : List α) (s : State) :
    s.KeepsTray (l.foldl f s) := by
  induction l generalizing s with
  | nil => exact .refl s
  | cons a l ih => exact (hf s a).trans (ih (f s a))

end Sys2Proof.Machine
end

section
/-! SUPPORT. What the shared operations leave of the tray and of the rivets at the heads. -/

namespace Sys2Proof.Machine

variable {s t u : State} {h : Slot}

section
variable (s : State)

/-! ### The view after an operation -/

@[simp] theorem State.setPort_tray (p : PortId) (q : Port) : (s.setPort p q).trayView = s.trayView := rfl
@[simp] theorem State.placeOn_tray (r : Rail) (e : Entry) : (s.placeOn r e).trayView = s.trayView := rfl
@[simp] theorem State.judgeFreeze_tray : s.judgeFreeze.trayView = s.trayView := rfl
@[simp] theorem State.setPlan_tray (q : PlanStore) : (s.setPlan q).trayView = s.trayView := rfl
@[simp] theorem State.changeHole_tray (i : Nat) (f : Hole → Hole) :
    (s.changeHole i f).trayView = s.trayView := rfl
@[simp] theorem State.testComplete_tray : s.testComplete.trayView = s.trayView := rfl
@[simp] theorem State.makePending_tray (p : PortId) (k : NoticeKind) :
    (s.makePending p k).trayView = s.trayView := by rw [makePending_eq]; rfl
@[simp] theorem State.noteTrouble_tray (a b : HeadState) : (s.noteTrouble a b).trayView = s.trayView := by
  rw [noteTrouble_eq]; rfl
@[simp] theorem State.writeLog_tray (i : Nat) (e : LogEvent) (a : Bool) :
    (s.writeLog i e a).trayView = s.trayView := by rw [writeLog_record]; rfl
@[simp] theorem State.raiseForHole_tray (c : DevClass) (i : Nat) (h : Slot) (a b : Int) :
    (s.raiseForHole c i h a b).trayView = s.trayView := by rw [raiseForHole_eq]; rfl
@[simp] theorem State.raiseUnbound_tray (c : DevClass) (a b : Int) :
    (s.raiseUnbound c a b).trayView = s.trayView := by rw [raiseUnbound_eq]; rfl
@[simp] theorem State.appendReply_tray (p : PortId) (kind : Byte) (r : Reply) :
    (s.appendReply p kind r).trayView = s.trayView := rfl
@[simp] theorem State.sendNotices_tray : s.sendNotices.trayView = s.trayView := by
  have hsent := s.sendNotices_eq
  generalize s.sendNotices = t at hsent ⊢
  rw [hsent]
  rfl

theorem State.raiseIf_tray {p : Prop} [Decidable p] (c : DevClass) (i : Nat) (h : Slot) (a b : Int) :
    (if p then s.raiseForHole c i h a b else s).trayView = s.trayView := by
  split
  · exact s.raiseForHole_tray c i h a b
  · rfl

/-! ### The end of a grant (R78, R115) -/

theorem State.setStatus_stands (h : Slot) {st : HeadStatus} (hst : st.holeGrant = none) :
    s.TrayStands (s.setStatus h st) := by
  unfold setStatus
  split
  · exact .refl s
  · exact .write rfl (by simp [Head.serial, hst])

theorem State.setLastHold_stands (h : Slot) (i : Nat) (c : DevClass) :
    s.TrayStands (s.setLastHold h i c) := by
  unfold setLastHold
  split
  · exact .refl s
  · rename_i hd hh
    refine .write rfl fun x hx => ?_
    rw [serialAt, hh]
    exact hx

theorem State.endMoveGrant_stands (h : Slot) {st : HeadStatus} (hst : st.holeGrant = none) :
    s.TrayStands (s.endMoveGrant h st) :=
  .trans (t := s.stopTimer h) (.of_view rfl) (setStatus_stands _ h hst)

/-- A rivet a grant holds when it ends is scrapped or spent: it goes to no tray and no other head (R115). -/
theorem State.endHoleGrant_stands (h : Slot) (g : HoleGrant) (spent : Bool) {st : HeadStatus}
    (hst : st.holeGrant = none) : s.TrayStands (s.endHoleGrant h g spent st) := by
  have hheat : s.TrayStands (s.setHeat (s.heat.releaseHead h (g.rivet.isSome && !spent))) := by
    rw [HeatQueue.releaseHead_eq]
    exact s.trayStands_setHeat rfl rfl rfl
  have hended : ∀ (u : State) (n : Nat), u.TrayStands (((u.clearPending (headPort h) .feedGiven).setLog
      { u.log with inFlight := n }).stopTimer h) := fun _ _ => .of_view rfl
  exact (hheat.trans (hended _ _)).trans (setStatus_stands _ h hst)

theorem State.endWithHold_stands (h : Slot) (hd : Head) (g : HoleGrant) (c : DevClass) {st : HeadStatus}
    (hst : st.holeGrant = none) : s.TrayStands (s.endWithHold h hd g c st) := by
  have hheld : s.TrayStands (s.changeHole g.hole (fun x => x.hold hd.kind.work c)) := .of_view rfl
  exact ((hheld.trans (endHoleGrant_stands _ h g false hst)).trans (.of_view (writeLog_tray ..))).trans
    (setLastHold_stands ..)

theorem State.raiseAndHold_stands (h : Slot) (hd : Head) (g : HoleGrant) (c : DevClass) {st : HeadStatus}
    (hst : st.holeGrant = none) (a b : Int) :
    s.TrayStands ((s.raiseForHole c g.hole h a b).endWithHold h hd g c st) :=
  .trans (.of_view (s.raiseForHole_tray c g.hole h a b)) (endWithHold_stands _ h hd g c hst)

end

/-- A head's rail is judged and its trouble noted (R87, R101). -/
theorem State.TrayStands.judged (hst : s.TrayStands t) (a b : HeadState) :
    s.TrayStands (t.judgeFreeze.noteTrouble a b) := hst.trans (.of_view (by simp))

theorem State.TrayStands.pended (hst : s.TrayStands t) (p : PortId) (k : NoticeKind) :
    s.TrayStands (t.makePending p k) := hst.trans (.of_view (by simp))

end Sys2Proof.Machine
end

section
/-! SUPPORT. The rules of the heads and their grants leave the tray as it stands (R64 to R86). -/

namespace Sys2Proof.Machine

variable {s t u : State} {h : Slot} {hd : Head}

/-! ### Heads without a grant (R64, R68, R83 to R85) -/

theorem ruleAttach_stands (s : State) (h : Slot) (b : List Byte) : s.TrayStands (ruleAttach h b s).1 := by
  unfold ruleAttach
  split
  · exact .refl s
  · split
    · split
      · unfold State.attachHead
        simp only
        split
        · exact .refl s
        · exact .write rfl (by simp [Head.serial, HeadStatus.holeGrant])
      · exact .refl s
    · exact .refl s

theorem State.detachHead_stands (s : State) (h : Slot) (r : Rail) : s.TrayStands (s.detachHead h r) :=
  .write (h := h) (v := none) rfl (by simp)

theorem ruleDetach_stands (s : State) (h : Slot) : s.TrayStands (ruleDetach h s).1 := by
  unfold ruleDetach
  split
  · exact .refl s
  · split
    · exact s.detachHead_stands h _
    · exact .refl s

theorem ruleHeadEvict_stands (s : State) (b : List Byte) : s.TrayStands (ruleHeadEvict b s).1 := by
  unfold ruleHeadEvict
  split
  · exact .refl s
  · split
    · exact .refl s
    · split
      · exact .refl s
      · exact (s.detachHead_stands _ _).judged _ _

/-- A head is put at a position with a status that holds no rivet, or the one the slot held. -/
theorem State.standAt_stands (x : Int) {status : HeadStatus} (hserial : ∀ v,
    status.holeGrant.bind (fun g => g.rivet.map Rivet.serial) = some v → serialAt s.heads h = some v) :
    s.TrayStands (s.standAt h hd x status) := .write rfl hserial

theorem State.putDown_stands (s : State) (h : Slot) (hd : Head) (x : Int) :
    s.TrayStands (s.putDown h hd x) :=
  (standAt_stands x (by simp [HeadStatus.holeGrant])).judged _ _

theorem ruleHaltAt_stands (s : State) (h : Slot) (b : List Byte) : s.TrayStands (ruleHaltAt h b s).1 := by
  unfold ruleHaltAt
  split
  · exact .refl s
  · split_ifs
    · exact s.putDown_stands h _ _
    · exact .refl s
    · exact .refl s

theorem ruleHeadRecover_stands (s : State) (b : List Byte) : s.TrayStands (ruleHeadRecover b s).1 := by
  unfold ruleHeadRecover
  split
  · split
    · unfold State.recoverHead
      split
      · exact .refl s
      · split
        · exact .refl s
        · simp only
          split
          · exact .refl s
          · exact s.putDown_stands _ _ _
    · exact .refl s
  · exact .refl s

/-! ### Grants (R65 to R71) -/

/-- A setting head is granted its hole UNFED, a drilling head without a set phase (R71). -/
theorem State.commitHole_stands (s : State) (h : Slot) (hd : Head) (c : Eligible) :
    s.TrayStands (s.commitHole h hd c).1 := by
  refine .write (h := h) (v := some { hd with status := .travelHole (s.grantRecord hd c) }) rfl fun x hx => ?_
  cases hk : hd.kind <;>
    simp [Head.serial, HeadStatus.holeGrant, HoleGrant.rivet, grantRecord, hk, SetPhase.rivet] at hx

theorem State.holdAtLimit_stands (s : State) (h : Slot) (hd : Head) (c : Eligible) :
    s.TrayStands (s.holdAtLimit h hd c).1 :=
  .trans (.of_view ((State.writeLog_tray ..).trans (s.changeHole_tray ..))) (setLastHold_stands ..)

theorem State.grantHole_stands (s : State) (h : Slot) (hd : Head) (c : Eligible) :
    s.TrayStands (s.grantHole h hd c).1 := by
  have hraise : s.TrayStands (s.raiseForHole .thermalLimit c.index h c.target.dRaw s.params.corrLimit) :=
    .of_view (by simp)
  unfold grantHole
  split
  · simp only
    split
    · exact hraise.trans (holdAtLimit_stands ..)
    · exact hraise.trans (commitHole_stands ..)
  · exact s.commitHole_stands h hd c

theorem ruleTake_stands (s : State) (h : Slot) (b : List Byte) : s.TrayStands (ruleTake h b s).1 := by
  unfold ruleTake
  split
  · exact .refl s
  · split
    · exact .refl s
    · unfold State.takeHole
      split
      · exact .refl s
      · split
        · exact .refl s
        · split
          · exact .refl s
          · split
            · exact .refl s
            · exact s.grantHole_stands h _ _

theorem ruleNext_stands (s : State) (h : Slot) : s.TrayStands (ruleNext h s).1 := by
  unfold ruleNext
  split
  · exact .refl s
  · split
    · exact .refl s
    · unfold State.nextHole
      split
      · exact .refl s
      · split
        · exact .refl s
        · exact s.grantHole_stands h _ _

theorem ruleMove_stands (s : State) (h : Slot) (b : List Byte) : s.TrayStands (ruleMove h b s).1 := by
  unfold ruleMove
  split
  · exact .refl s
  · split
    · exact .refl s
    · unfold State.moveTo
      split
      · exact .refl s
      · split
        · exact .refl s
        · exact .write rfl (by simp [Head.serial, HeadStatus.holeGrant])

/-! ### Arrival and PROGRESS (R72, R73) -/

theorem State.judgeArrival_stands (s : State) (h : Slot) (hd : Head) (g : HoleGrant) :
    s.TrayStands (s.judgeArrival h hd g).1 := by
  unfold judgeArrival
  split
  · exact .refl s
  · simp only
    split
    · exact .of_view (by simp)
    · exact s.raiseAndHold_stands h hd g .clampLost rfl _ _

theorem ruleArrived_stands (s : State) (h : Slot) : s.TrayStands (ruleArrived h s).1 := by
  unfold ruleArrived
  split
  · exact .refl s
  · rename_i hd hh
    split
    · exact .trans (State.standAt_stands _ (by simp [HeadStatus.holeGrant])) (.of_view rfl)
    · rename_i g hg
      have hstand : s.TrayStands (s.standAt h hd g.x (.work g)) := State.standAt_stands _ fun v hv => by
        rw [serialAt, hh, Option.bind_some, Head.serial, hg]
        exact hv
      have htimer : ∀ n, s.TrayStands ((s.standAt h hd g.x (.work g)).startTimer h .work n) :=
        fun _ => hstand.trans (.of_view rfl)
      exact (htimer _).trans (State.judgeArrival_stands ..)
    · exact .refl s

theorem ruleProgress_stands (s : State) (h : Slot) : s.TrayStands (ruleProgress h s).1 := by
  unfold ruleProgress
  split
  · exact .refl s
  · split
    · exact .of_view rfl
    · exact .refl s

/-! ### The ends of a grant (R75 to R78, R82, R86) -/

theorem State.abandonHole_stands (s : State) (h : Slot) (hd : Head) (g : HoleGrant) {st : HeadStatus}
    (hst : st.holeGrant = none) : s.TrayStands (s.abandonHole h hd g st) :=
  .trans (.of_view (s.changeHole_tray ..)) (endHoleGrant_stands _ h g false hst)

theorem ruleAbandon_stands (s : State) (h : Slot) : s.TrayStands (ruleAbandon h s).1 := by
  unfold ruleAbandon
  split
  · exact .refl s
  · split
    · exact (s.abandonHole_stands h _ _ rfl).trans (.of_view (State.noteTrouble_tray ..))
    · exact (s.endMoveGrant_stands h rfl).trans (.of_view (State.noteTrouble_tray ..))
    · exact s.abandonHole_stands h _ _ rfl
    · exact .refl s

theorem State.endWithReport_stands (s : State) (h : Slot) (hd : Head) (g : HoleGrant) (spent : Bool)
    (held : Option DevClass) (done : HoleState) (event : LogEvent) :
    s.TrayStands (s.endWithReport h hd g spent held done event) := by
  have hended : ∀ f e, s.TrayStands (((s.changeHole g.hole f).endHoleGrant h g spent .idle).writeLog
      g.hole e false) := fun f e =>
    (TrayStands.trans (.of_view (s.changeHole_tray g.hole f)) (endHoleGrant_stands _ h g spent rfl)).trans
      (.of_view (writeLog_tray ..))
  unfold endWithReport
  split
  · exact (hended _ _).trans (setLastHold_stands ..)
  · simp only
    split
    · exact (hended _ _).trans (.of_view (testComplete_tray _))
    · exact hended _ _

theorem ruleDrillDone_stands (s : State) (h : Slot) (b : List Byte) :
    s.TrayStands (ruleDrillDone h b s).1 := by
  unfold ruleDrillDone
  split
  · exact .refl s
  · split
    · split_ifs
      · exact .refl s
      · exact .refl s
      · split
        · exact .refl s
        · refine .trans (.of_view ?_) (State.endWithReport_stands ..)
          rw [State.raiseIf_tray, State.raiseIf_tray, State.changeHole_tray]
    · exact .refl s

theorem State.setReport_stands (s : State) (h : Slot) (hd : Head) (g : HoleGrant) (r : Rivet)
    (ram : Option Nat) : s.TrayStands (s.setReport h hd g r ram).1 := by
  unfold setReport
  refine .trans (.of_view ?_) (endWithReport_stands ..)
  split <;> simp

theorem ruleSetDone_stands (s : State) (h : Slot) : s.TrayStands (ruleSetDone h s).1 := by
  unfold ruleSetDone
  split
  · exact .refl s
  · split
    · split
      · exact .refl s
      · split
        · exact s.setReport_stands h _ _ _ _
        · exact s.setReport_stands h _ _ _ _
        · exact .refl s
    · exact .refl s

theorem State.expireTimer_stands (s : State) (h : Slot) : s.TrayStands (s.expireTimer h) := by
  unfold expireTimer
  split
  · exact .refl s
  · simp only
    split
    · exact ((s.raiseAndHold_stands h _ _ .workTimeout rfl _ _).pended _ _).judged _ _
    · exact (s.endMoveGrant_stands h rfl).judged _ _

theorem State.linkBreak_stands (s : State) (h : Slot) : s.TrayStands (s.linkBreak h) := by
  unfold linkBreak
  split
  · exact .refl s
  · simp only
    split
    · exact .refl s
    · exact .refl s
    · exact (s.raiseAndHold_stands h _ _ .linkBreak rfl _ _).judged _ _
    · exact (s.raiseAndHold_stands h _ _ .linkBreak rfl _ _).judged _ _
    · exact (s.endMoveGrant_stands h rfl).judged _ _
    · exact (s.setStatus_stands h rfl).judged _ _
    · exact (s.setStatus_stands h rfl).judged _ _

theorem State.takeBreak_stands (s : State) (p : PortId) : s.TrayStands (s.takeBreak p) := by
  have hport : s.TrayStands (s.setPort p s.ports[p].afterBreak) := .of_view rfl
  unfold takeBreak
  simp only
  split
  · exact hport.trans (linkBreak_stands _ _)
  · exact hport

end Sys2Proof.Machine
end

section
/-! SUPPORT. The rules of the tray keep its laws: rivets expire and are cleared, fed, handed over and placed
(R106 to R114). -/

namespace Sys2Proof.Machine

variable {s t u : State} {h : Slot} {hd : Head}

/-! ### Rivets leave the tray (R106, R110, R111) -/

/-- The tray alone changes, and rivets leave it at most. -/
theorem State.setHeat_keepsTray (s : State) {q : HeatQueue} (hq : s.heat.kept → q.kept)
    (ht : q.tray.Sublist s.heat.tray) : s.KeepsTray (s.setHeat q) :=
  .of_sublist rfl hq ht fun _ _ => id

theorem HeatQueue.takeOut_sublist (q : HeatQueue) (test : Rivet → Bool) :
    (q.takeOut test).tray.Sublist q.tray := by
  rw [tray_takeOut]
  exact List.eraseP_sublist

theorem State.expireRivet_keepsTray (s : State) (serial : BitVec 16) :
    s.KeepsTray (s.setHeat (s.heat.expire serial)) :=
  s.setHeat_keepsTray (q := s.heat.expire serial) (fun hq => HeatQueue.kept_takeOut hq fun r => r.serial == serial)
    (s.heat.takeOut_sublist fun r => r.serial == serial)

theorem State.expireClass_keepsTray (s : State) (c : RivetClass) : s.KeepsTray (s.expireClass c) :=
  .foldl (f := fun acc v => acc.setHeat (acc.heat.expire v)) (fun u v => u.expireRivet_keepsTray v) _ s

theorem ruleHeaterClear_keepsTray (s : State) : s.KeepsTray (ruleHeaterClear s).1 :=
  s.setHeat_keepsTray (q := s.heat.clear)
    (fun _ => ⟨by simp [HeatQueue.clear], by simp [HeatQueue.clear],
      fullMarkAfter_follows (n := 0) (by omega) s.heat.fullMark⟩) (List.nil_sublist _)

/-! ### A rivet goes to a head (R112, R114) -/

/-- A slot comes to hold a rivet whose serial is, but for that slot, neither in the tray that is left nor at
another slot. -/
theorem State.KeepsTray.hand {v : BitVec 16} (hclock : t.clock = s.clock) (hq : s.heat.kept → t.heat.kept)
    (htray : t.heat.tray.Sublist s.heat.tray)
    (hserials : ∀ h' x, serialAt t.heads h' = some x → serialAt s.heads h' = some x ∨ h' = h ∧ x = v)
    (hfresh : s.heat.kept → s.serialsKept →
      v ∉ t.heat.tray.map Rivet.serial ∧ ∀ h', serialAt s.heads h' = some v → h' = h) : s.KeepsTray t := by
  have hleft : s.KeepsTray { t with heads := s.heads } := .of_sublist hclock hq htray fun _ _ => id
  intro hkept hs
  obtain ⟨hqt, hst, horder⟩ := hleft hkept hs
  refine ⟨hqt, serialsKept_iff.2 ⟨(serialsKept_iff.1 hst).1, fun a x hx => ?_⟩, horder⟩
  obtain ⟨hfree, hother⟩ := hfresh hkept hs
  rcases hserials a x hx with hold | ⟨rfl, rfl⟩
  · obtain ⟨hnot, hone⟩ := (serialsKept_iff.1 hst).2 a x hold
    refine ⟨hnot, fun b hb => ?_⟩
    rcases hserials b x hb with hb | ⟨rfl, rfl⟩
    · exact hone b hb
    · exact (hother a hold).symm
  · exact ⟨hfree, fun b hb => (hserials b x hb).elim (hother b) And.left⟩

/-- A set phase is written to a head's grant and nothing else changes (R62). -/
theorem State.setPhase_eq (s : State) (h : Slot) (phase : SetPhase) :
    s.setPhase h phase = { s with heads := (s.setPhase h phase).heads } := by
  unfold setPhase
  split
  · split <;> rfl
  · rfl

/-- The serials after a slot's grant was given a set phase: the slot holds the phase's rivet, if it turned at
all. -/
theorem State.serialAt_setPhase (s : State) (h : Slot) {phase : SetPhase} {h' : Slot} {x : BitVec 16}
    (hx : serialAt (s.setPhase h phase).heads h' = some x) :
    serialAt s.heads h' = some x ∨ h' = h ∧ phase.rivet.map Rivet.serial = some x := by
  unfold setPhase at hx
  split at hx
  · split at hx
    · rw [setHead_heads, serialAt_set] at hx
      split at hx
      · rename_i e
        exact .inr ⟨e, hx⟩
      · exact .inl hx
    · exact .inl hx
  · exact .inl hx

/-- The age at ram is written beside the rivet a head holds (R117). -/
theorem State.ramCapture_stands (s : State) (h : Slot) : s.TrayStands (s.ramCapture h) := by
  unfold ramCapture
  split
  · rename_i hd hh
    split
    · rename_i g hk hg
      split
      · rename_i r hphase
        rw [setPhase_work hh hg]
        refine .write rfl fun x hx => ?_
        rw [serialAt, hh, Option.bind_some, Head.serial, hg]
        simpa [Head.serial, HeadStatus.holeGrant, HoleGrant.rivet, hphase, SetPhase.rivet] using hx
      · exact .refl s
    · exact .refl s
  · exact .refl s

/-- A set phase without a rivet leaves the slot without one. -/
theorem State.setPhase_stands (s : State) (h : Slot) {phase : SetPhase} (hphase : phase.rivet = none) :
    s.TrayStands (s.setPhase h phase) := by
  have hframe := s.setPhase_eq h phase
  refine ⟨by rw [hframe], by rw [hframe], by rw [hframe], by rw [hframe], fun h' x hx => ?_⟩
  rcases s.serialAt_setPhase h hx with hx | ⟨-, hx⟩
  · exact hx
  · simp [hphase] at hx

/-- The rivet FEED gives leaves the tray for the head (R112). -/
theorem State.feedGiven_keepsTray (h : Slot) {test : Rivet → Bool} {r : Rivet}
    (hr : s.heat.tray.find? test = some r) :
    s.KeepsTray ((s.setHeat (s.heat.takeOut test)).setPhase h (.fed r)) := by
  obtain ⟨pre, post, hl, herase⟩ := eraseP_of_find? hr
  have hheat : ((s.setHeat (s.heat.takeOut test)).setPhase h (.fed r)).heat = s.heat.takeOut test := by
    rw [setPhase_eq]
    rfl
  refine .hand (h := h) (v := r.serial) (by rw [setPhase_eq]; rfl) (fun hq => ?_) ?_ (fun h' x hx => ?_)
    fun _ hs => ?_
  · rw [hheat]
    exact HeatQueue.kept_takeOut hq test
  · rw [hheat]
    exact s.heat.takeOut_sublist test
  · exact (serialAt_setPhase _ h hx).imp_right fun ⟨e, hserial⟩ => ⟨e, (Option.some.inj hserial).symm⟩
  · obtain ⟨hnodup, hheld⟩ := serialsKept_iff.1 hs
    rw [hl] at hnodup hheld
    rw [hheat, s.heat.tray_takeOut, herase]
    refine ⟨fun hm => ?_, fun h' hv => absurd (by simp) (hheld h' _ hv).1⟩
    rw [List.map_append, List.map_cons, List.nodup_middle, ← List.map_append] at hnodup
    exact (List.nodup_cons.1 hnodup).1 hm

theorem ruleFeed_keepsTray (s : State) (h : Slot) : s.KeepsTray (ruleFeed h s).1 := by
  unfold ruleFeed
  split
  · exact .refl s
  · split
    · split_ifs
      · exact .refl s
      · exact .refl s
      · split
        · exact .refl s
        · unfold State.feedHead
          split
          · rename_i hr
            exact State.feedGiven_keepsTray h hr
          · exact ((s.trayStands_setHeat (q := { s.heat with waiting := s.heat.waiting ++ [h] }) rfl rfl
              rfl).trans (State.setPhase_stands _ h rfl)).keepsTray
    · exact .refl s

/-- The accepted rivet goes to a waiting head with a serial no rivet holds (R104, R114). -/
theorem State.handOver_keepsTray (s : State) (h : Slot) (c : RivetClass) (now : Clock) :
    s.KeepsTray (s.handOver h ⟨s.nextSerial, c, now⟩) := by
  have hstart : ∀ (u : State) n p k, u.TrayStands ((u.startTimer h .work n).makePending p k) :=
    fun _ _ _ _ => .of_view (makePending_tray ..)
  refine .trans (.hand (h := h) (v := s.nextSerial) ?_ ?_ ?_ (fun h' x hx => ?_) fun hq hs => ?_)
    (hstart (State.setPhase _ h _) _ _ _).keepsTray
  · rw [setPhase_eq]; rfl
  · rw [setPhase_eq]; exact id
  · rw [setPhase_eq]; exact .refl _
  · exact (serialAt_setPhase _ h hx).imp_right fun ⟨e, hserial⟩ => ⟨e, (Option.some.inj hserial).symm⟩
  · have hfree := nextSerial_free hq
    rw [mem_serialsHeld, not_or, not_exists] at hfree
    rw [setPhase_eq]
    exact ⟨hfree.1, fun h' hv => absurd hv (hfree.2 h')⟩

/-! ### A rivet joins the tray (R108) -/

/-- The accepted rivet joins the tray's end, with age 0 and a serial no rivet holds. -/
theorem State.placed_keepsTray {q : HeatQueue} (c : RivetClass)
    (hq : s.heat.kept → q.kept ∧ q.tray = s.heat.tray ++ [⟨s.nextSerial, c, s.clock⟩]) :
    s.KeepsTray (s.setHeat q) := by
  intro hkept hs
  obtain ⟨hqkept, htray⟩ := hq hkept
  have hfree := nextSerial_free hkept
  rw [mem_serialsHeld, not_or, not_exists] at hfree
  obtain ⟨htrayfree, hheadsfree⟩ := hfree
  obtain ⟨hnodup, hheld⟩ := serialsKept_iff.1 hs
  have hserials : q.tray.map Rivet.serial = s.heat.tray.map Rivet.serial ++ [s.nextSerial] := by simp [htray]
  refine ⟨hqkept, serialsKept_iff.2 ?_, fun ha ho => ⟨fun r hr => ?_, ?_⟩⟩
  · rw [setHeat_heat, hserials]
    refine ⟨?_, fun h v hv => ⟨fun hm => ?_, (hheld h v hv).2⟩⟩
    · exact List.nodup_append.2 ⟨hnodup, by simp, fun a ha b hb => by
        rw [List.mem_singleton.1 hb]
        exact fun e => htrayfree (e ▸ ha)⟩
    · rcases List.mem_append.1 hm with hm | hm
      · exact (hheld h v hv).1 hm
      · exact hheadsfree h (List.mem_singleton.1 hm ▸ hv)
  · rw [setHeat_heat, htray] at hr
    rcases List.mem_append.1 hr with hr | hr
    · exact ha r hr
    · rw [List.mem_singleton.1 hr]
      simp
  · unfold trayInOrder
    rw [setHeat_heat, htray]
    refine List.pairwise_append.2 ⟨ho, by simp, fun a _ b hb => ?_⟩
    rw [List.mem_singleton.1 hb]
    simp

theorem State.placeRivet_keepsTray (s : State) (c : RivetClass) : s.KeepsTray (s.placeRivet c).1 := by
  unfold placeRivet
  simp only
  split
  · exact s.handOver_keepsTray _ c s.clock
  · split
    · rename_i hroom
      have hroom : s.heat.queue.length < 6 := hroom
      refine placed_keepsTray c fun ⟨_, hfull, _⟩ => ?_
      have hchute : s.heat.chute = none := by
        cases hc : s.heat.chute with
        | none => rfl
        | some r => exact absurd (hfull (by simp [hc])) (by omega)
      have hmark := fullMarkAfter_follows (n := s.heat.queue.length + 1) (by omega) s.heat.fullMark
      refine ⟨⟨?_, ?_, ?_⟩, ?_⟩
      · simp [HeatQueue.append]; omega
      · simp [HeatQueue.append, HeatQueue.accept, hchute]
      · simpa only [HeatQueue.append, List.length_append, List.length_singleton] using hmark
      · simp [HeatQueue.tray, HeatQueue.append, HeatQueue.accept, hchute]
    · rename_i hfull
      have hfull : ¬s.heat.queue.length < 6 := hfull
      split
      · rename_i hchute
        refine placed_keepsTray c fun ⟨hsix, _, hmark⟩ => ⟨⟨hsix, fun _ => ?_, hmark⟩, ?_⟩
        · show s.heat.queue.length = 6
          omega
        · simp [HeatQueue.tray, HeatQueue.accept, Option.isNone_iff_eq_none.1 hchute]
      · exact (s.trayStands_setHeat (q := { s.heat with overrun := true }) rfl rfl rfl).keepsTray

theorem ruleRivetOut_keepsTray (s : State) (b : List Byte) : s.KeepsTray (ruleRivetOut b s).1 := by
  unfold ruleRivetOut
  simp only
  split
  · exact .refl s
  · split
    · exact .refl s
    · split_ifs
      · exact .refl s
      · exact (State.TrayStands.of_view (s.raiseUnbound_tray ..)).keepsTray
      · exact s.placeRivet_keepsTray _

end Sys2Proof.Machine
end

section
/-! SUPPORT. The rules that the tray has no part in leave it as it stands: the Thermal Unit, the terminals, the
Plan Store, the fences, the deviations, the log, the queries and the parameters. -/

namespace Sys2Proof.Machine

variable {s t u : State} {h : Slot}

/-! ### Thermal Unit (R29 to R34) -/

theorem State.raiseSubst_stands (s : State) (ks : List Nat) : s.TrayStands (s.raiseSubst ks) :=
  .foldl (fun u _ => .of_view (u.raiseUnbound_tray ..)) ks s

theorem State.changeSegments_stands (s : State) (f : Segment → Segment) :
    s.TrayStands (s.changeSegments f) :=
  .trans (t := s.setThermal (settleSegments (s.thermal.map f))) (.of_view rfl) (raiseSubst_stands ..)

theorem State.expireHold_stands (s : State) (k : Nat) : s.TrayStands (s.expireHold k) := by
  have hset : ∀ l, s.TrayStands (s.setThermal l) := fun _ => .of_view rfl
  exact (hset (settleSegments (s.thermal.modify k _))).trans (raiseSubst_stands ..)

theorem State.expireDueHolds_stands (s : State) : s.TrayStands s.expireDueHolds := by
  refine .foldl (fun u k => ?_) _ s
  split
  · exact u.expireHold_stands k
  · exact .refl u

/-! ### Clamp drops, edges and terminals (R80, R150 to R161) -/

theorem State.judgeDrop_stands (s : State) (bay : Nat) (h : Slot) : s.TrayStands (s.judgeDrop bay h) := by
  unfold judgeDrop
  split
  · exact .refl s
  · split
    · split
      · simp only
        split
        · exact .of_view (by simp)
        · exact (s.raiseAndHold_stands h _ _ .clampLost rfl _ _).pended _ _
      · exact .refl s
    · exact .refl s

theorem State.clampDrop_stands (s : State) (bay : Nat) : s.TrayStands (s.clampDrop bay) :=
  .foldl (fun u h => u.judgeDrop_stands bay h) _ s

theorem State.handOnEdge_stands (s : State) (r : Terminal) (active : Bool) :
    s.TrayStands (s.handOnEdge r active) := by
  unfold handOnEdge
  split
  · split
    · exact .refl s
    · exact s.clampDrop_stands _
  · split
    · exact s.ramCapture_stands _
    · exact .refl s
  · exact .refl s

theorem State.latchEdge_tray (s : State) (n : TermId) : (s.latchEdge n).trayView = s.trayView := by
  unfold latchEdge
  simp only
  split
  · split
    · rfl
    · rw [makePending_tray]
      rfl
  · rfl

theorem State.acceptEdge_stands (s : State) (n : TermId) (active : Bool) :
    s.TrayStands (s.acceptEdge n active) := by
  have hedge : s.TrayStands ((s.setTerminal n
      { s.terminals[n] with level := active, candidate := none }).handOnEdge s.terminals[n] active) :=
    .trans (t := s.setTerminal n _) (.of_view rfl) (handOnEdge_stands ..)
  unfold acceptEdge
  simp only
  split
  · exact hedge.trans (.of_view (latchEdge_tray ..))
  · exact hedge

theorem State.acceptCandidate_stands (s : State) (n : TermId) : s.TrayStands (s.acceptCandidate n) := by
  unfold acceptCandidate
  split
  · exact s.acceptEdge_stands n _
  · exact .refl s

theorem State.acceptDue_stands (s : State) : s.TrayStands s.acceptDue := by
  refine .foldl (fun u n => ?_) _ s
  split
  · exact u.acceptCandidate_stands n
  · exact .refl u

theorem State.changePin_stands (s : State) (n : TermId) (high : Bool) :
    s.TrayStands (s.changePin n high) := by
  have hterm : ∀ r, s.TrayStands ((s.setPin n high).setTerminal n r) := fun _ => .of_view rfl
  unfold changePin
  simp only
  split
  · unfold judgeRaw
    simp only
    split
    · exact hterm _
    · split
      · exact (hterm _).trans (acceptEdge_stands ..)
      · exact hterm _
  · exact .of_view rfl

theorem State.takeSample_stands (s : State) (n : TermId) (code : ProbeCode) :
    s.TrayStands (s.takeSample n code) := by
  have hterm : ∀ r, s.TrayStands (s.setTerminal n r) := fun _ => .of_view rfl
  unfold takeSample
  simp only
  split
  · split
    · exact (hterm _).trans (changeSegments_stands ..)
    · exact hterm _
  · split
    · exact (hterm _).trans (changeSegments_stands ..)
    · exact hterm _

theorem State.configure_stands (s : State) (f : TermFields) : s.TrayStands (s.configure f) := by
  have hterm : s.TrayStands (s.setTerminal f.terminal
    (s.terminals[f.terminal].configured f s.pinHigh[f.terminal] s.clock)) := .of_view rfl
  unfold configure
  simp only
  refine hterm.trans ?_
  unfold leaveMode
  split
  · split
    · split
      · exact clampDrop_stands ..
      · exact .refl _
    · exact .refl _
  · split
    · exact changeSegments_stands ..
    · exact .refl _
  · exact .refl _

theorem ruleTermConfig_stands (s : State) (b : List Byte) : s.TrayStands (ruleTermConfig b s).1 := by
  unfold ruleTermConfig
  split
  · exact .refl s
  · split_ifs
    · exact .refl s
    · exact .refl s
    · exact .refl s
    · exact s.configure_stands _

theorem ruleTermWrite_stands (s : State) (b : List Byte) : s.TrayStands (ruleTermWrite b s).1 := by
  unfold ruleTermWrite
  split <;> exact .of_view rfl

theorem ruleTermAck_stands (s : State) (b : List Byte) : s.TrayStands (ruleTermAck b s).1 := by
  unfold ruleTermAck
  split
  · exact .refl s
  · exact .foldl (f := fun acc n => acc.setTerminal n { acc.terminals[n] with pending := false })
      (fun _ _ => .of_view rfl) _ s

theorem ruleTermRead_stands (s : State) (b : List Byte) : s.TrayStands (ruleTermRead b s).1 := by
  unfold ruleTermRead
  split <;> exact .refl s

/-! ### The Plan Store (Chapter 1) -/

theorem State.dropFrame_stands (s : State) : s.TrayStands s.dropFrame := .of_view rfl

theorem rulePlanBegin_stands (s : State) (b : List Byte) : s.TrayStands (rulePlanBegin b s).1 := by
  unfold rulePlanBegin
  split_ifs <;> exact .of_view rfl

theorem rulePlanSegment_stands (s : State) (b : List Byte) : s.TrayStands (rulePlanSegment b s).1 := by
  unfold rulePlanSegment
  simp only
  split
  · exact .refl s
  · split
    · exact .refl s
    · split_ifs <;> exact .of_view rfl

theorem rulePlanBay_stands (s : State) (b : List Byte) : s.TrayStands (rulePlanBay b s).1 := by
  unfold rulePlanBay
  simp only
  split_ifs <;> exact .of_view rfl

theorem rulePlanHole_stands (s : State) (b : List Byte) : s.TrayStands (rulePlanHole b s).1 := by
  unfold rulePlanHole
  split
  · exact .refl s
  · split
    · exact .refl s
    · split <;> exact .of_view rfl

theorem rulePlanSeal_stands (s : State) : s.TrayStands (rulePlanSeal s).1 := by
  have htake : ∀ l, s.TrayStands ((s.setPlan { s.plan with state := .ready }).setThermal l) :=
    fun _ => .of_view rfl
  unfold rulePlanSeal
  split
  · exact .refl s
  · split
    · exact .refl s
    · exact (htake _).trans (State.raiseSubst_stands ..)

theorem rulePlanAbort_stands (s : State) : s.TrayStands (rulePlanAbort s).1 := by
  unfold rulePlanAbort
  split
  · exact s.dropFrame_stands
  · exact .refl s

theorem rulePlanRead_stands (s : State) (b : List Byte) : s.TrayStands (rulePlanRead b s).1 := by
  unfold rulePlanRead
  split_ifs <;> exact .refl s

theorem ruleDatum_stands (s : State) (b : List Byte) : s.TrayStands (ruleDatum b s).1 := by
  unfold ruleDatum
  split_ifs <;> exact .of_view rfl

theorem ruleHoleReleaseRedo_stands (s : State) (b : List Byte) :
    s.TrayStands (ruleHoleReleaseRedo b s).1 := by
  unfold ruleHoleReleaseRedo
  split_ifs
  · exact .refl s
  · exact .refl s
  · split
    · exact .refl s
    · split <;> exact .of_view rfl

theorem State.acceptHole_stands (s : State) (i : Nat) (x : Hole) (event : LogEvent) :
    s.TrayStands (s.acceptHole i x event) := by
  unfold acceptHole
  simp only
  split <;> exact .of_view (by simp)

theorem ruleHoleReleaseAccept_stands (s : State) (b : List Byte) :
    s.TrayStands (ruleHoleReleaseAccept b s).1 := by
  unfold ruleHoleReleaseAccept
  split
  · exact .refl s
  · split
    · exact .refl s
    · split
      · exact .refl s
      · split
        · exact .refl s
        · split
          · exact .refl s
          · split
            · exact .refl s
            · exact s.acceptHole_stands _ _ _

theorem ruleHoleExcuse_stands (s : State) (b : List Byte) : s.TrayStands (ruleHoleExcuse b s).1 := by
  unfold ruleHoleExcuse
  split
  · exact .refl s
  · split
    · exact .refl s
    · split
      · exact .refl s
      · split_ifs
        · exact .refl s
        · exact .refl s
        · exact .of_view (by simp [State.excuseHole])

theorem ruleFrameEnd_stands (s : State) : s.TrayStands (ruleFrameEnd s).1 := by
  unfold ruleFrameEnd
  split_ifs
  · exact .refl s
  · exact .refl s
  · exact .refl s
  · exact s.dropFrame_stands

/-! ### Fences, deviations, the log and the queries -/

theorem ruleFenceSet_stands (s : State) (b : List Byte) : s.TrayStands (ruleFenceSet b s).1 := by
  unfold ruleFenceSet
  simp only
  split
  · split
    · split <;> exact .of_view rfl
    · exact .refl s
  · exact .refl s

theorem ruleFenceClear_stands (s : State) (b : List Byte) : s.TrayStands (ruleFenceClear b s).1 := by
  unfold ruleFenceClear
  split
  · exact .refl s
  · split <;> exact .of_view rfl

theorem ruleDevMode_stands (s : State) (b : List Byte) : s.TrayStands (ruleDevMode b s).1 := by
  unfold ruleDevMode
  split
  · split <;> exact .of_view rfl
  · exact .refl s

theorem ruleDevClear_stands (s : State) (b : List Byte) : s.TrayStands (ruleDevClear b s).1 := by
  unfold ruleDevClear
  split <;> exact .of_view rfl

theorem ruleLogRead_stands (s : State) (b : List Byte) : s.TrayStands (ruleLogRead b s).1 := by
  unfold ruleLogRead
  simp only
  split <;> exact .of_view rfl

theorem ruleGetParam_stands (s : State) (b : List Byte) : s.TrayStands (ruleGetParam b s).1 := by
  unfold ruleGetParam
  split <;> exact .refl s

theorem ruleLineQuery_stands (s : State) (b : List Byte) : s.TrayStands (ruleLineQuery b s).1 := by
  unfold ruleLineQuery
  split <;> exact .refl s

/-! ### Writes of a parameter (R178) -/

/-- A write of a parameter does what the effect of its stored value does, or nothing. -/
theorem State.writeParam_keepsTray (s : State) (b : List Byte) {effect : Nat → State}
    (he : ∀ v, s.KeepsTray (effect v)) : s.KeepsTray (s.writeParam b effect).1 := by
  unfold writeParam
  split
  · exact .refl s
  · exact he _

theorem State.setParams_keepsTray (s : State) (q : Params) : s.KeepsTray (s.setParams q) :=
  (TrayStands.of_view rfl).keepsTray

theorem ruleSetParam_keepsTray (s : State) (b : List Byte) : s.KeepsTray (ruleSetParam b s).1 :=
  s.writeParam_keepsTray b fun _ => s.setParams_keepsTray _

theorem ruleSetProbeHold_keepsTray (s : State) (b : List Byte) : s.KeepsTray (ruleSetProbeHold b s).1 :=
  s.writeParam_keepsTray b fun _ => (s.setParams_keepsTray _).trans (State.expireDueHolds_stands _).keepsTray

theorem ruleSetStaleAction_keepsTray (s : State) (b : List Byte) :
    s.KeepsTray (ruleSetStaleAction b s).1 :=
  s.writeParam_keepsTray b fun _ => (State.TrayStands.of_view (State.judgeFreeze_tray _)).keepsTray

theorem ruleSetHeatMin_keepsTray (s : State) (b : List Byte) : s.KeepsTray (ruleSetHeatMin b s).1 :=
  s.writeParam_keepsTray b fun _ => s.setParams_keepsTray _

theorem ruleSetHeatMax_keepsTray (s : State) (b : List Byte) : s.KeepsTray (ruleSetHeatMax b s).1 :=
  s.writeParam_keepsTray b fun _ => s.setParams_keepsTray _

theorem ruleSetBudget_keepsTray (s : State) (b : List Byte) : s.KeepsTray (ruleSetBudget b s).1 :=
  s.writeParam_keepsTray b fun _ => (s.setParams_keepsTray _).trans (State.expireClass_keepsTray _ _)

theorem ruleSetLogThreshold_keepsTray (s : State) (b : List Byte) :
    s.KeepsTray (ruleSetLogThreshold b s).1 := s.setParams_keepsTray _

theorem ruleSetDebounceMs_keepsTray (s : State) (b : List Byte) :
    s.KeepsTray (ruleSetDebounceMs b s).1 :=
  s.writeParam_keepsTray b fun _ => (s.setParams_keepsTray _).trans (State.acceptDue_stands _).keepsTray

/-! ### The ports (R164 to R170) -/

theorem State.setPort_stands (s : State) (p : PortId) (q : Port) : s.TrayStands (s.setPort p q) :=
  .of_view (s.setPort_tray p q)

theorem State.receiveCharacter_stands (s : State) (p : PortId) (mark : Bool) (data : Byte)
    (stopHigh : Bool) : s.TrayStands (s.receiveCharacter p mark data stopHigh) := by
  unfold receiveCharacter
  simp only
  split <;> exact .of_view (by simp)

end Sys2Proof.Machine
end

section
/-! SUPPORT. Every step keeps the laws of the tray: the passing of time and the table of commands (R104, R109,
R120). -/

namespace Sys2Proof.Machine

variable {s t u : State}

/-! ### The passing of time (R89, R109) -/

/-- An age that can still count rises by one with the line clock (R89). -/
theorem age_succ {now since : Clock} (ha : (now - since).toNat < 4294967295) :
    (now + 1 - since).toNat = (now - since).toNat + 1 := by
  bv_omega

theorem State.tick_tray (s : State) : s.tick.heat = s.heat ∧ s.tick.heads = s.heads
    ∧ (s.tick.clock = s.clock ∨ s.tick.clock = s.clock + 1) := by
  unfold tick
  split
  · exact ⟨rfl, rfl, .inl rfl⟩
  · simp only
    split
    · exact ⟨rfl, rfl, .inl rfl⟩
    · exact ⟨rfl, rfl, .inr rfl⟩

/-- Rivets age together, so their order stands. -/
theorem State.trayInOrder_tick (ha : s.agesCount) (ho : s.trayInOrder) : s.tick.trayInOrder := by
  obtain ⟨hheat, -, hclock | hclock⟩ := s.tick_tray <;> unfold trayInOrder <;> rw [hheat, hclock]
  · exact ho
  · refine ho.imp_of_mem fun {a b} hma hmb hab => ?_
    rw [age_succ (ha a hma), age_succ (ha b hmb)]
    omega

/-! ### Takings and events -/

theorem takeMessage_keepsTray {p : PortId} {kind : Byte} {b : List Byte} {rule : State → Taken}
    (hr : ∀ u : State, u.KeepsTray (rule u).1) (h : takeMessage p kind b rule s = .next t) :
    s.KeepsTray t := by
  have hjudged : ∀ (m : Message) (u : State), u.KeepsTray (judgeMessage p m rule u).1 := fun m u => by
    unfold judgeMessage
    split_ifs
    · exact .refl u
    · exact .refl u
    · exact hr u
  have hsent : ∀ (u : State) (k : Byte) (r : Reply), u.TrayStands (u.appendReply p k r).sendNotices :=
    fun _ _ _ => .of_view (by simp)
  rcases takeMessage_cases h with ht | ⟨-, ht⟩ <;> rw [ht]
  · exact .refl s
  · exact ((s.setPort_stands p _).keepsTray.trans (hjudged _ _)).trans (hsent _ _ _).keepsTray

/-- A message whose rule leaves the tray as it stands keeps the laws. -/
theorem takeMessage_stands {p : PortId} {kind : Byte} {b : List Byte} {rule : State → Taken}
    (hr : ∀ u : State, u.TrayStands (rule u).1) (h : takeMessage p kind b rule s = .next t) :
    s.KeepsTray t := takeMessage_keepsTray (fun u => (hr u).keepsTray) h

theorem takeEvent_keepsTray {due : Bool} {effect : State → State}
    (he : ∀ u : State, u.KeepsTray (effect u)) (h : takeEvent due effect s = .next t) :
    s.KeepsTray t := by
  rcases takeEvent_cases h with ht | ⟨-, -, ht⟩ <;> rw [ht]
  · exact .refl s
  · exact (he s).trans (State.TrayStands.of_view (State.sendNotices_tray _)).keepsTray

theorem takeEvent_stands {due : Bool} {effect : State → State}
    (he : ∀ u : State, u.TrayStands (effect u)) (h : takeEvent due effect s = .next t) :
    s.KeepsTray t := takeEvent_keepsTray (fun u => (he u).keepsTray) h

/-- An event of a line or a pin follows the level while RESET_N is low, and is taken otherwise. -/
theorem levelOrEvent_stands {due : Bool} {effect : State → State} (hu : s.TrayStands u)
    (he : ∀ v : State, v.TrayStands (effect v))
    (h : (if s.inReset then .next u else takeEvent due effect s) = Host.Outcome.next t) :
    s.KeepsTray t := by
  split at h
  · exact Host.Outcome.next.inj h ▸ hu.keepsTray
  · exact takeEvent_stands he h

/-- A message that is a row's own is taken, and one of another row is ignored (log entry 7). -/
theorem ownRow_keepsTray {own : Bool} {taken : Host.Outcome State Fault Refusal}
    (ht : taken = .next t → s.KeepsTray t)
    (h : (if own then taken else .next s) = Host.Outcome.next t) : s.KeepsTray t := by
  split at h
  · exact ht h
  · exact Host.Outcome.next.inj h ▸ .refl s

theorem otherRow_keepsTray {own : Bool} {taken : Host.Outcome State Fault Refusal}
    (ht : taken = .next t → s.KeepsTray t)
    (h : (if own then .next s else taken) = Host.Outcome.next t) : s.KeepsTray t := by
  split at h
  · exact Host.Outcome.next.inj h ▸ .refl s
  · exact ht h

/-! ### The commands and the step -/

/-- At power-on the tray is empty and no head holds a rivet. -/
theorem execPowerOn_keepsTray (h : execPowerOn s = .next t) : s.KeepsTray t := by
  obtain rfl := Host.Outcome.next.inj h
  have hkept : State.reset.heat.kept := by decide
  have hserials : State.reset.serialsKept := by decide
  have horder : State.reset.agesCount ∧ State.reset.trayInOrder := by decide
  exact fun _ _ => ⟨hkept, hserials, fun _ _ => horder⟩

/-- Every command keeps the laws of the tray. -/
theorem exec_keepsTray (c : Instr) (h : exec c s = .next t) : s.KeepsTray t := by
  cases c with
  | powerOn => exact execPowerOn_keepsTray h
  | resetNAssert =>
    have hsame : s.TrayStands { s with inReset := true } := .of_view rfl
    exact Host.Outcome.next.inj h ▸ hsame.keepsTray
  | attach slot b => exact takeMessage_stands (fun u => ruleAttach_stands u slot b) h
  | detach slot b => exact takeMessage_stands (fun u => ruleDetach_stands u slot) h
  | next slot b => exact takeMessage_stands (fun u => ruleNext_stands u slot) h
  | take slot b => exact takeMessage_stands (fun u => ruleTake_stands u slot b) h
  | move slot b => exact takeMessage_stands (fun u => ruleMove_stands u slot b) h
  | arrived slot b => exact takeMessage_stands (fun u => ruleArrived_stands u slot) h
  | progress slot b => exact takeMessage_stands (fun u => ruleProgress_stands u slot) h
  | abandon slot b => exact takeMessage_stands (fun u => ruleAbandon_stands u slot) h
  | drillDone slot b => exact takeMessage_stands (fun u => ruleDrillDone_stands u slot b) h
  | feed slot b => exact takeMessage_keepsTray (fun u => ruleFeed_keepsTray u slot) h
  | setDone slot b => exact takeMessage_stands (fun u => ruleSetDone_stands u slot) h
  | haltAt slot b => exact takeMessage_stands (fun u => ruleHaltAt_stands u slot b) h
  | headQuery slot b => exact takeMessage_stands .refl h
  | planBegin b => exact takeMessage_stands (fun u => rulePlanBegin_stands u b) h
  | planSegment b => exact takeMessage_stands (fun u => rulePlanSegment_stands u b) h
  | planBay b => exact takeMessage_stands (fun u => rulePlanBay_stands u b) h
  | planHole b => exact takeMessage_stands (fun u => rulePlanHole_stands u b) h
  | planSeal b => exact takeMessage_stands rulePlanSeal_stands h
  | planAbort b => exact takeMessage_stands rulePlanAbort_stands h
  | planRead b => exact takeMessage_stands (fun u => rulePlanRead_stands u b) h
  | datum b => exact takeMessage_stands (fun u => ruleDatum_stands u b) h
  | fenceSet b => exact takeMessage_stands (fun u => ruleFenceSet_stands u b) h
  | fenceClear b => exact takeMessage_stands (fun u => ruleFenceClear_stands u b) h
  | holeReleaseRedo b => exact otherRow_keepsTray (takeMessage_stands fun u => ruleHoleReleaseRedo_stands u b) h
  | holeReleaseAccept b =>
    exact ownRow_keepsTray (takeMessage_stands fun u => ruleHoleReleaseAccept_stands u b) h
  | holeExcuse b => exact takeMessage_stands (fun u => ruleHoleExcuse_stands u b) h
  | headRecover b => exact takeMessage_stands (fun u => ruleHeadRecover_stands u b) h
  | headEvict b => exact takeMessage_stands (fun u => ruleHeadEvict_stands u b) h
  | devMode b => exact takeMessage_stands (fun u => ruleDevMode_stands u b) h
  | devClear b => exact takeMessage_stands (fun u => ruleDevClear_stands u b) h
  | devRead b => exact takeMessage_stands .refl h
  | logRead b => exact takeMessage_stands (fun u => ruleLogRead_stands u b) h
  | setParam b => exact otherRow_keepsTray (takeMessage_keepsTray fun u => ruleSetParam_keepsTray u b) h
  | setParamProbeHold b =>
    exact ownRow_keepsTray (takeMessage_keepsTray fun u => ruleSetProbeHold_keepsTray u b) h
  | setParamStaleAction b =>
    exact ownRow_keepsTray (takeMessage_keepsTray fun u => ruleSetStaleAction_keepsTray u b) h
  | setParamHeatMin b => exact ownRow_keepsTray (takeMessage_keepsTray fun u => ruleSetHeatMin_keepsTray u b) h
  | setParamHeatMax b => exact ownRow_keepsTray (takeMessage_keepsTray fun u => ruleSetHeatMax_keepsTray u b) h
  | setParamBudget b => exact ownRow_keepsTray (takeMessage_keepsTray fun u => ruleSetBudget_keepsTray u b) h
  | setParamLogThreshold b =>
    exact ownRow_keepsTray (takeMessage_keepsTray fun u => ruleSetLogThreshold_keepsTray u b) h
  | setParamDebounceMs b =>
    exact ownRow_keepsTray (takeMessage_keepsTray fun u => ruleSetDebounceMs_keepsTray u b) h
  | getParam b => exact takeMessage_stands (fun u => ruleGetParam_stands u b) h
  | termConfig b => exact takeMessage_stands (fun u => ruleTermConfig_stands u b) h
  | termWrite b => exact takeMessage_stands (fun u => ruleTermWrite_stands u b) h
  | termRead b => exact takeMessage_stands (fun u => ruleTermRead_stands u b) h
  | termAck b => exact takeMessage_stands (fun u => ruleTermAck_stands u b) h
  | heaterClear b => exact takeMessage_keepsTray ruleHeaterClear_keepsTray h
  | frameEnd b => exact takeMessage_stands ruleFrameEnd_stands h
  | lineQuery b => exact takeMessage_stands (fun u => ruleLineQuery_stands u b) h
  | rivetOut b => exact takeMessage_keepsTray (fun u => ruleRivetOut_keepsTray u b) h
  | heaterQuery b => exact takeMessage_stands .refl h
  | motionTimerExpiry slot => exact takeEvent_stands (fun u => u.expireTimer_stands slot) h
  | holdExpiry k => exact takeEvent_stands (fun u => u.expireHold_stands k) h
  | rivetExpiry serial => exact takeEvent_keepsTray (fun u => u.expireRivet_keepsTray serial) h
  | rawChange n high =>
    exact levelOrEvent_stands (u := s.setPin n high) (.of_view rfl) (fun u => u.changePin_stands n high) h
  | acceptance n => exact takeEvent_stands (fun u => u.acceptCandidate_stands n) h
  | probeSample n code => exact takeEvent_stands (fun u => u.takeSample_stands n code) h
  | characterArrival p mark data stopHigh =>
    exact levelOrEvent_stands (s.setPort_stands p _) (fun u => u.receiveCharacter_stands p mark data stopHigh) h
  | gapExpiry p => exact takeEvent_stands (fun u => u.setPort_stands p _) h
  | inBreak p => exact takeEvent_stands (fun u => u.setPort_stands p _) h
  | breakReturn p => exact levelOrEvent_stands (s.setPort_stands p _) (fun u => u.takeBreak_stands p) h
  | frameSent p => exact takeEvent_stands (fun u => u.setPort_stands p _) h
  | unknownKindMessage p kind b => exact otherRow_keepsTray (takeMessage_stands .refl) h
  | frameTransmitStart p => exact takeEvent_stands (fun u => u.setPort_stands p _) h
  | receiveLineFall p => exact levelOrEvent_stands (s.setPort_stands p _) (fun u => u.setPort_stands p _) h

/-- Settles O15: a command leaves the tray as it stands, takes rivets out of it, hands one to a head, or puts
one at its end with age 0; the passing of time ages all rivets alike. -/
theorem stepKeepsTheTrayAndItsSerials : Obligations.StepKeepsTheTrayAndItsSerials := by
  intro s t hq hs h
  unfold step at h
  split at h
  · obtain rfl := Host.Outcome.next.inj h
    obtain ⟨hheat, hheads, -⟩ := s.tick_tray
    have hheld : s.tick.serialsKept := by
      unfold State.serialsKept State.serialsHeld
      rw [hheat, hheads]
      exact hs
    exact ⟨hheat ▸ hq, hheld, State.trayInOrder_tick⟩
  · rename_i c rest _
    obtain ⟨hqt, hst, horder⟩ := exec_keepsTray (s := { s with pending := rest }) c h hq hs
    exact ⟨hqt, hst, fun ha ho => (horder ha ho).2⟩

end Sys2Proof.Machine
end

section
/-! SUPPORT. What leaves the tray: the rivet FEED gives, the ones that expire, and all at HEATER_CLEAR (R106,
R109 to R113). -/

namespace Sys2Proof.Machine

variable {s : State} {h : Slot} {q : HeatQueue} {test : Rivet → Bool} {pre post : List Rivet} {r : Rivet}

/-! ### The first rivet a test finds (R109) -/

/-- Taken out of the queue: the chute's rivet moves to the queue's end (R109). -/
theorem HeatQueue.takeOut_queue (hq : q.queue = pre ++ r :: post) (hpre : ∀ x ∈ pre, ¬test x = true)
    (hr : test r = true) : q.takeOut test = { q with
      queue := pre ++ post ++ q.chute.toList, chute := none
      fullMark := fullMarkAfter q.fullMark (pre ++ post ++ q.chute.toList).length } := by
  have hany : q.queue.any test = true := List.any_eq_true.2 ⟨r, by simp [hq], hr⟩
  have herase : q.queue.eraseP test = pre ++ post := by
    rw [hq, List.eraseP_append_right _ hpre, List.eraseP_cons_of_pos hr]
  rw [takeOut, if_pos hany, herase, afterRemoval]
  cases q.chute with
  | none => simp
  | some x => simp [Nat.add_assoc]

/-- Taken out of the chute, where the queue holds none (R109). -/
theorem HeatQueue.takeOut_chute (hqueue : ∀ x ∈ q.queue, ¬test x = true) (hc : q.chute = some r)
    (hr : test r = true) : q.takeOut test = { q with chute := none } := by
  have hany : ¬q.queue.any test = true := fun ha => by
    obtain ⟨x, hx, ht⟩ := List.any_eq_true.1 ha
    exact hqueue x hx ht
  rw [takeOut, if_neg hany, if_pos (by rw [hc]; exact hr)]

/-! ### FEED (R112, R113) -/

theorem ruleFeed_unfed {hd : Head} {g : HoleGrant} {hole : Hole} (hh : s.heads[h] = some hd)
    (hg : hd.status = .work g) (hk : hd.kind = .set) (hp : g.phase = some .unfed)
    (hx : s.plan.hole? g.hole = some hole) : ruleFeed h s = s.feedHead h hole.cls := by
  simp [ruleFeed, show s.heads[h.val] = some hd from hh, hg, hk, hp, hx]

/-- The tray and the set phase of a head at work are written. -/
theorem State.setHeat_setPhase {hd : Head} {g : HoleGrant} (q : HeatQueue) (hh : s.heads[h] = some hd)
    (hg : hd.status = .work g) (phase : SetPhase) : (s.setHeat q).setPhase h phase = { s with
      heat := q
      heads := s.heads.set h (some { hd with status := .work { g with phase := some phase } }) } :=
  setPhase_work (s := s.setHeat q) hh hg phase

/-- The first rivet of the class is given (R112). -/
theorem State.feedHead_given {hd : Head} {g : HoleGrant} {c : RivetClass} (hh : s.heads[h] = some hd)
    (hg : hd.status = .work g) (hr : s.heat.rivetOf c = some r) (hq : s.heat.takeOut (fun x => x.cls == c) = q) :
    s.feedHead h c = ({ s with
        heat := q
        heads := s.heads.set h (some { hd with status := .work { g with phase := some (.fed r) } }) },
      ⟨.given, 0, .rivetGiven r.serial r.cls (s.clock - r.heatOut).toNat⟩) := by
  simp only [feedHead, hr, hq, setHeat_setPhase _ hh hg]
  rfl

/-- With none of the class the head waits (R113). -/
theorem State.feedHead_wait {hd : Head} {g : HoleGrant} {c : RivetClass} (hh : s.heads[h] = some hd)
    (hg : hd.status = .work g) (hr : s.heat.rivetOf c = none) :
    s.feedHead h c = ({ s with
        heat := { s.heat with waiting := s.heat.waiting ++ [h] }
        heads := s.heads.set h (some { hd with status := .work { g with phase := some .feedWait } }) },
      ⟨.wait, 0, .none⟩) := by
  simp only [feedHead, hr, setHeat_setPhase _ hh hg]
  rfl

/-- Settles O36: the three cases are where the first rivet of the class stands. -/
theorem feedGivesARivetOrWaits : Obligations.FeedGivesARivetOrWaits := by
  intro h s hd g hole hready hh hg hk hp hx
  have hrule := ruleFeed_unfed (s := s.dequeued (headPort h)) hh hg hk hp hx
  have hfed : ∀ {s' : State} {reply : Reply},
      (s.dequeued (headPort h)).feedHead h hole.cls = (s', reply) →
      s'.ports = (s.dequeued (headPort h)).ports →
      exec (.feed h []) s
        = .next { s' with ports := repliedPorts s.ports (headPort h) kindFeed reply } := fun hf =>
    head_answered (n := 0) hready (by decide) rfl (hrule.trans hf)
  refine ⟨fun pre post r hq hr hpre => ?_, fun r hqueue hc hr => ?_, fun hnone => ?_⟩
  · have hfind : s.heat.rivetOf hole.cls = some r := by
      rw [HeatQueue.rivetOf, hq]
      refine List.find?_eq_some_iff_append.2 ⟨by simp [hr], pre, post ++ s.heat.chute.toList, by simp, ?_⟩
      exact fun x hm => by simpa using hpre x hm
    have hout := HeatQueue.takeOut_queue (test := fun x => x.cls == hole.cls) hq
      (fun x hm => by simpa using hpre x hm) (by simp [hr])
    exact hfed (State.feedHead_given hh hg hfind hout) rfl
  · have hfind : s.heat.rivetOf hole.cls = some r := by
      rw [HeatQueue.rivetOf, hc]
      refine List.find?_eq_some_iff_append.2 ⟨by simp [hr], s.heat.queue, [], rfl, ?_⟩
      exact fun x hm => by simpa using hqueue x hm
    have hout := HeatQueue.takeOut_chute (test := fun x => x.cls == hole.cls)
      (fun x hm => by simpa using hqueue x hm) hc (by simp [hr])
    exact hfed (State.feedHead_given hh hg hfind hout) rfl
  · have hfind : s.heat.rivetOf hole.cls = none :=
      List.find?_eq_none.2 fun x hm => by simpa using hnone x hm
    exact hfed (State.feedHead_wait hh hg hfind) rfl

end Sys2Proof.Machine
end

section
/-! SUPPORT. Rivets that expire: the one whose age has reached its budget, and in a write of a budget all of the
class that have reached it (R106, R110, R111). -/

namespace Sys2Proof.Machine

variable {s : State} {q : HeatQueue} {r : Rivet}

/-! ### HEATER_CLEAR (R110) -/

theorem HeatQueue.trayCount_eq (q : HeatQueue) : q.trayCount = (q.queue ++ q.chute.toList).length := by
  simp [trayCount]

theorem execHeaterClear_empties (hready : s.ready supervisorPort kindHeaterClear []) :
    execHeaterClear [] s = .next { s with
      heat := { s.heat with
        queue := [], chute := none, overrun := false, fullMark := false
        scrapped := min 4294967295 (s.heat.scrapped + (s.heat.queue ++ s.heat.chute.toList).length) }
      ports := repliedPorts s.ports supervisorPort kindHeaterClear
        ⟨.ok, 0, .discarded (s.heat.queue ++ s.heat.chute.toList).length⟩ } := by
  have hrule : ruleHeaterClear (s.dequeued supervisorPort)
      = ((s.dequeued supervisorPort).setHeat s.heat.clear, ⟨.ok, 0, .discarded s.heat.trayCount⟩) := rfl
  rw [← s.heat.trayCount_eq]
  exact supervisor_answered (n := 0) hready (by decide) rfl hrule rfl

/-! ### One rivet expires (R111) -/

/-- A rivet of the tray that has reached its budget is due. -/
theorem State.rivetExpiryDue_of (hr : r ∈ s.heat.queue ++ s.heat.chute.toList)
    (hage : s.params.budgets[r.cls] * 100 ≤ (s.clock - r.heatOut).toNat) :
    s.rivetExpiryDue r.serial = true := by
  have hdue : s.rivetDue r = true := decide_eq_true hage
  exact List.any_eq_true.2 ⟨r, hr, by simp [hdue]⟩

/-- An expiry that is due takes the rivet out and counts it as scrap; no notice is sent. -/
theorem execRivetExpiry_due {serial : BitVec 16} (hr : s.inReset = false) (hset : s.settled)
    (hdue : s.rivetExpiryDue serial = true) (hq : s.heat.takeOut (fun x => x.serial == serial) = q) :
    execRivetExpiry serial s = .next { s with
      heat := { q with scrapped := min 4294967295 (q.scrapped + 1) } } := by
  have hexpired : (s.setHeat (s.heat.expire serial)).sendNotices = s.setHeat (s.heat.expire serial) :=
    State.sendNotices_of_settled (s := s.setHeat _) hset
  have hnext := takeEvent_due (effect := fun x => x.setHeat (x.heat.expire serial)) hr hdue
  rw [hexpired, HeatQueue.expire, hq] at hnext
  exact hnext

/-! ### All rivets of a set of serials expire (R106) -/

/-- The rivets of some serials expire, in the order given. -/
def HeatQueue.expireAll (q : HeatQueue) (serials : List (BitVec 16)) : HeatQueue :=
  serials.foldl HeatQueue.expire q

theorem HeatQueue.expireAll_cons (q : HeatQueue) (v : BitVec 16) (vs : List (BitVec 16)) :
    q.expireAll (v :: vs) = (q.expire v).expireAll vs := rfl

/-- The expiries of a write change the Heat Queue alone. -/
theorem State.expireClass_eq (s : State) (c : RivetClass) : s.expireClass c = s.setHeat (s.heat.expireAll
    ((s.heat.tray.filter (fun r => r.cls == c && s.rivetDue r)).map Rivet.serial)) := by
  have hfold : ∀ (vs : List (BitVec 16)) (u : State),
      vs.foldl (fun acc v => acc.setHeat (acc.heat.expire v)) u = u.setHeat (u.heat.expireAll vs) := by
    intro vs
    induction vs with
    | nil => exact fun _ => rfl
    | cons v vs ih => exact fun u => ih _
  exact hfold _ s

/-- An expiry changes the tray, its full mark and the scrap count at most. -/
theorem HeatQueue.expire_eq (q : HeatQueue) (v : BitVec 16) : q.expire v = { q with
    queue := (q.expire v).queue, chute := (q.expire v).chute, fullMark := (q.expire v).fullMark
    scrapped := min 4294967295 (q.scrapped + 1) } := by
  unfold expire takeOut afterRemoval scrapOne saturatingSucc
  split
  · split <;> rfl
  · split <;> rfl

theorem HeatQueue.expireAll_eq (q : HeatQueue) (vs : List (BitVec 16)) : q.expireAll vs = { q with
    queue := (q.expireAll vs).queue, chute := (q.expireAll vs).chute
    fullMark := (q.expireAll vs).fullMark, scrapped := (q.expireAll vs).scrapped } := by
  induction vs generalizing q with
  | nil => rfl
  | cons v vs ih =>
    rw [expireAll_cons, ih, expire_eq]

/-- Each expiry counts, up to the count's limit. -/
theorem HeatQueue.expireAll_scrapped (q : HeatQueue) (vs : List (BitVec 16)) : (q.expireAll vs).scrapped
    = if vs = [] then q.scrapped else min 4294967295 (q.scrapped + vs.length) := by
  induction vs generalizing q with
  | nil => rfl
  | cons v vs ih =>
    have hone : (q.expire v).scrapped = min 4294967295 (q.scrapped + 1) := by rw [expire_eq]
    rw [expireAll_cons, ih, hone, if_neg (List.cons_ne_nil v vs), List.length_cons]
    split
    · rename_i hnil
      rw [hnil, List.length_nil]
    · omega

/-- Where no serial stands twice in the tray, an expiry leaves the rivets of the other serials, in order. -/
theorem HeatQueue.tray_expire (hq : (q.tray.map Rivet.serial).Nodup) (v : BitVec 16) :
    (q.expire v).tray = q.tray.filter (fun r => r.serial ≠ v) := by
  have hexpire : (q.expire v).tray = q.tray.eraseP (fun r => r.serial == v) := q.tray_takeOut _
  rw [hexpire]
  generalize q.tray = l at hq
  induction l with
  | nil => rfl
  | cons x l ih =>
    obtain ⟨hx, hl⟩ := List.nodup_cons.1 hq
    by_cases e : x.serial = v
    · have hothers : ∀ y ∈ l, decide (y.serial ≠ v) = true := fun y hy => by
        simpa [← e] using fun hy' : y.serial = x.serial => hx (hy' ▸ List.mem_map_of_mem hy)
      rw [List.eraseP_cons_of_pos (by simpa using e), List.filter_cons_of_neg (by simpa using e),
        List.filter_eq_self.2 hothers]
    · rw [List.eraseP_cons_of_neg (by simpa using e), List.filter_cons_of_pos (by simpa using e), ih hl]

theorem HeatQueue.tray_expireAll (hq : (q.tray.map Rivet.serial).Nodup) (vs : List (BitVec 16)) :
    (q.expireAll vs).tray = q.tray.filter (fun r => r.serial ∉ vs) := by
  induction vs generalizing q with
  | nil => simp [expireAll]
  | cons v vs ih =>
    have hone := tray_expire hq v
    have hnodup : ((q.expire v).tray.map Rivet.serial).Nodup := by
      rw [hone]
      exact (List.filter_sublist.map _).nodup hq
    rw [expireAll_cons, ih hnodup, hone, List.filter_filter]
    exact List.filter_congr fun r _ => by by_cases e : r.serial = v <;> simp [e]

/-- The rivets a test picks out of a tray expire by their serials: the others stay, in order. -/
theorem HeatQueue.tray_expirePicked (hq : (q.tray.map Rivet.serial).Nodup) (pick : Rivet → Bool) :
    (q.expireAll ((q.tray.filter pick).map Rivet.serial)).tray = q.tray.filter (fun r => !pick r) := by
  rw [tray_expireAll hq]
  refine List.filter_congr fun r hr => ?_
  have hmem : r.serial ∈ (q.tray.filter pick).map Rivet.serial ↔ pick r = true := by
    refine ⟨fun hm => ?_, fun hp => List.mem_map_of_mem (List.mem_filter.2 ⟨hr, hp⟩)⟩
    obtain ⟨x, hx, e⟩ := List.mem_map.1 hm
    obtain ⟨hx, hp⟩ := List.mem_filter.1 hx
    exact List.inj_on_of_nodup_map hq hx hr e ▸ hp
  by_cases hp : pick r = true <;> simp [hmem, hp]

/-! ### A write of a budget (R106, R178) -/

/-- The budget of a class is written. -/
def State.withBudget (s : State) (c : RivetClass) (v : Nat) : State :=
  s.setParams { s.params with budgets := s.params.budgets.set c v }

/-- A rivet of the class has reached the new budget: it does not stay. -/
theorem State.rivetDue_withBudget (s : State) (c : RivetClass) (v : Nat) (r : Rivet) :
    (r.cls == c && (s.withBudget c v).rivetDue r)
      = !decide (r.cls ≠ c ∨ (s.clock - r.heatOut).toNat < v * 100) := by
  by_cases e : r.cls = c
  · have hbudget : (s.withBudget c v).budgetMs r.cls = v * 100 := by simp [budgetMs, withBudget, e]
    rw [rivetDue, hbudget, e, BEq.rfl, Bool.true_and, ← decide_not]
    exact decide_eq_decide.2 (by simp [withBudget, age])
  · simp [e]

theorem ruleSetBudget_stores {b : List Byte} {c : RivetClass} {v : Nat} (hid : u8At b 0 = 15 + c.val)
    (hv : (v : Int) = max 50 (min 1200 (i32At b 1))) (s : State) : ruleSetBudget b s
      = ((s.withBudget c v).expireClass c,
        ⟨if i32At b 1 = v then .ok else .limited, 0, .parameter (b.getD 0 0) v⟩) := by
  have hclass : budgetClass (u8At b 0) = c := by
    unfold budgetClass
    rw [dif_pos (by omega)]
    exact Fin.ext (by simp [hid])
  have hrange : ∀ c : RivetClass, paramRange (15 + c.val) = some (50, 1200) := by decide
  have hrule : ruleSetBudget b s = s.writeParam b (fun v =>
      (s.withBudget (budgetClass (u8At b 0)) v).expireClass (budgetClass (u8At b 0))) := rfl
  rw [hrule, hclass]
  exact State.writeParam_stores _ (hid ▸ hrange c) hv

/-- What a write of a budget leaves of the tray, and what it scraps: the rivets of the class that have reached
the budget (R106). -/
theorem State.expireClass_withBudget (hq : s.serialsKept) (c : RivetClass) (v : Nat) :
    let stays : Rivet → Bool := fun r => decide (r.cls ≠ c ∨ (s.clock - r.heatOut).toNat < v * 100)
    ∃ q : HeatQueue, (s.withBudget c v).expireClass c = (s.withBudget c v).setHeat q
      ∧ q.tray = s.heat.tray.filter stays
      ∧ q.scrapped = (if s.heat.tray.all stays then s.heat.scrapped
          else min 4294967295 (s.heat.scrapped + s.heat.tray.countP (fun r => !stays r)))
      ∧ q = { s.heat with queue := q.queue, chute := q.chute, fullMark := q.fullMark
                          scrapped := q.scrapped } := by
  intro stays
  obtain ⟨hnodup, -⟩ := serialsKept_iff.1 hq
  have hpick : (fun r : Rivet => r.cls == c && (s.withBudget c v).rivetDue r) = fun r => !stays r :=
    funext (s.rivetDue_withBudget c v)
  refine ⟨s.heat.expireAll ((s.heat.tray.filter (fun r => !stays r)).map Rivet.serial), ?_, ?_, ?_,
    HeatQueue.expireAll_eq ..⟩
  · rw [expireClass_eq, hpick]
    rfl
  · rw [HeatQueue.tray_expirePicked hnodup]
    simp only [Bool.not_not]
  · rw [HeatQueue.expireAll_scrapped, List.length_map, ← List.countP_eq_length_filter]
    refine if_congr ?_ rfl rfl
    simp [List.filter_eq_nil_iff]

/-- Settles O43: one removal for an expiry, and one for each rivet a write of a budget picks out. -/
theorem rivetsLeaveTheTrayAsScrap : Obligations.RivetsLeaveTheTrayAsScrap := by
  refine ⟨fun s => execHeaterClear_empties, fun s pre post r hr hset hq hpre hage => ?_,
    fun s r hr hset hc hqueue hage => ?_, fun b s c v hready hl hid hv _ hserials => ?_⟩
  · have hdue := s.rivetExpiryDue_of (by simp [hq]) hage
    exact execRivetExpiry_due hr hset hdue
      (HeatQueue.takeOut_queue hq (fun x hx => by simpa using hpre x hx) (by simp))
  · have hdue := s.rivetExpiryDue_of (by simp [hc]) hage
    exact execRivetExpiry_due hr hset hdue
      (HeatQueue.takeOut_chute (fun x hx => by simpa using hqueue x hx) hc (by simp))
  · have hown : u8At b 0 ∈ [15, 16, 17, 18, 19, 20] := by
      simp
      omega
    have hexec : execSetParamBudget b s
        = takeMessage supervisorPort kindSetParam b (ruleSetBudget b) s := by
      simp [execSetParamBudget, writesOneOf_eq hl, hown]
    obtain ⟨q, hexpired, htray, hscrapped, hframe⟩ :=
      State.expireClass_withBudget (s := s.dequeued supervisorPort) hserials c v
    have hrule := ruleSetBudget_stores hid hv (s.dequeued supervisorPort)
    rw [hexpired] at hrule
    exact ⟨_, hexec.trans (supervisor_answered (n := 5) hready (by decide) hl hrule rfl), htray, hscrapped,
      hframe, rfl⟩

end Sys2Proof.Machine
end

section
/-! SUPPORT. The placement of a rivet from the heater (R104, R107, R108, R114). -/

namespace Sys2Proof.Machine

variable {s : State} {b : List Byte} {c : RivetClass} {h : Slot} {pre post : List Slot}

/-! ### The judgement of R107 -/

/-- While overrun is set every rivet is refused (R107). -/
theorem ruleRivetOut_overrun (ho : s.heat.overrun = true) :
    ruleRivetOut b s = (s, ⟨.overrun, 0, .rivetSerial none⟩) := by
  simp [ruleRivetOut, ho, refuse, refusal]

/-- A rivet outside the window raises HEAT_WINDOW (R107). -/
theorem ruleRivetOut_outside (ho : s.heat.overrun = false) (hc : u8At b 0 = c.val + 1)
    (htop : u16At b 1 ≤ 1400) (hw : u16At b 1 < s.params.heatMin ∨ s.params.heatMax < u16At b 1) :
    ruleRivetOut b s = ({ s with
      dev := raisedDev s .heatWindow none none (u16At b 1)
        (if u16At b 1 < s.params.heatMin then s.params.heatMin else s.params.heatMax : Nat)
      ports := s.flaggedPorts .heatWindow }, ⟨.rejectedTemp, 0, .rivetSerial none⟩) := by
  have hwindow : inRange s.params.heatMin s.params.heatMax (u16At b 1) = false := by
    rw [Bool.eq_false_iff, Ne, inRange_iff]
    omega
  have hrule : ruleRivetOut b s = s.rejectTemp (u16At b 1) := by
    simp [ruleRivetOut, ho, hc, rivetClassOfCode_number, inRange_iff.2 ⟨Nat.zero_le _, htop⟩, hwindow]
  rw [hrule, State.rejectTemp, State.raiseUnbound_eq, Nat.cast_ite]
  rfl

/-- A rivet within the window is placed (R108). -/
theorem ruleRivetOut_inside (ho : s.heat.overrun = false) (hc : u8At b 0 = c.val + 1)
    (htop : u16At b 1 ≤ 1400) (hlo : s.params.heatMin ≤ u16At b 1) (hhi : u16At b 1 ≤ s.params.heatMax) :
    ruleRivetOut b s = s.placeRivet c := by
  simp [ruleRivetOut, ho, hc, rivetClassOfCode_number, inRange_iff.2 ⟨Nat.zero_le _, htop⟩,
    inRange_iff.2 ⟨hlo, hhi⟩]

/-! ### The waiting heads (R108, R114) -/

/-- The head served is the first of the waiting list whose hole has the class. -/
theorem State.waitingFor_first (hw : s.heat.waiting = pre ++ h :: post)
    (hpre : ∀ w ∈ pre, s.classOf w ≠ some c) (hc : s.classOf h = some c) :
    s.waitingFor c = some h := by
  rw [waitingFor, hw, holeClass_eq]
  exact List.find?_eq_some_iff_append.2 ⟨by simpa using hc, pre, post, rfl, by simpa using hpre⟩

theorem State.waitingFor_none (hw : ∀ w ∈ s.heat.waiting, s.classOf w ≠ some c) :
    s.waitingFor c = none := by
  rw [waitingFor, holeClass_eq]
  exact List.find?_eq_none.2 (by simpa using hw)

/-- A head stands once in the list: without it, the others are left in their order. -/
theorem filter_ne_of_nodup (hn : (pre ++ h :: post).Nodup) :
    (pre ++ h :: post).filter (fun w => !(w == h)) = pre ++ post := by
  have hout : h ∉ pre ++ post := (List.nodup_middle.1 hn).notMem
  have hothers : ∀ w ∈ pre ++ post, (!(w == h)) = true := fun w hm => by
    simpa using fun e : w = h => hout (e ▸ hm)
  simp only [List.filter_append, List.filter_cons, BEq.rfl, Bool.not_true, Bool.false_eq_true, if_false]
  rw [← List.filter_append, List.filter_eq_self.2 hothers]

/-- The head at work is fed, its timer starts, and FEED_GIVEN is pending on its port (R114). -/
theorem State.handOver_eq {hd : Head} {g : HoleGrant} (hh : s.heads[h] = some hd)
    (hg : hd.status = .work g) (r : Rivet) : s.handOver h r = { s with
      heat := { s.heat with
        serialCounter := r.serial + 1, accepted := min 4294967295 (s.heat.accepted + 1)
        waiting := s.heat.waiting.filter (fun w => !(w == h)) }
      heads := s.heads.set h (some { hd with status := .work { g with phase := some (.fed r) } })
      timers := s.timers.set h (.counting .work s.params.workSetMs 0)
      ports := pendedPorts s.ports (headPort h) .feedGiven } := by
  simp only [handOver, setHeat_setPhase _ hh hg, makePending_eq]
  rfl

/-! ### The placement (R108) -/

theorem State.placeRivet_waiter (hw : s.waitingFor c = some h) :
    s.placeRivet c = (s.handOver h ⟨s.nextSerial, c, s.clock⟩,
      ⟨.ok, 0, .rivetSerial (some s.nextSerial)⟩) := by
  simp only [placeRivet, hw]
  rfl

theorem State.placeRivet_queue (hw : s.waitingFor c = none) (hq : s.heat.queue.length < 6) :
    s.placeRivet c = ({ s with heat := { s.heat with
        serialCounter := s.nextSerial + 1, accepted := min 4294967295 (s.heat.accepted + 1)
        queue := s.heat.queue ++ [⟨s.nextSerial, c, s.clock⟩]
        fullMark := fullMarkAfter s.heat.fullMark (s.heat.queue.length + 1) } },
      ⟨.ok, 0, .rivetSerial (some s.nextSerial)⟩) := by
  simp only [placeRivet, hw, Config.queueCapacity, if_pos hq]
  rfl

theorem State.placeRivet_chute (hw : s.waitingFor c = none) (hq : s.heat.queue.length = 6)
    (hc : s.heat.chute = none) :
    s.placeRivet c = ({ s with heat := { s.heat with
        serialCounter := s.nextSerial + 1, accepted := min 4294967295 (s.heat.accepted + 1)
        chute := some ⟨s.nextSerial, c, s.clock⟩ } },
      ⟨.ok, 0, .rivetSerial (some s.nextSerial)⟩) := by
  simp only [placeRivet, hw, Config.queueCapacity, hq, hc, Nat.lt_irrefl, if_false, Option.isNone_none,
    if_true]
  rfl

theorem State.placeRivet_overrun (hw : s.waitingFor c = none) (hq : s.heat.queue.length = 6)
    (hc : s.heat.chute.isSome) :
    s.placeRivet c = ({ s with heat := { s.heat with overrun := true } },
      ⟨.overrun, 0, .rivetSerial none⟩) := by
  obtain ⟨r, hr⟩ := Option.isSome_iff_exists.1 hc
  simp only [placeRivet, hw, Config.queueCapacity, hq, hr, Nat.lt_irrefl, if_false, Option.isNone_some,
    Bool.false_eq_true]
  rfl

/-! ### The taking of a RIVET_OUT (R172) -/

/-- A RIVET_OUT whose rule changes no port is answered. -/
theorem rivetOut_answered {s' : State} {r : Reply} (hready : s.ready heaterPort kindRivetOut b)
    (hl : b.length = 3) (hr : ruleRivetOut b (s.dequeued heaterPort) = (s', r))
    (hp : s'.ports = (s.dequeued heaterPort).ports) : exec (.rivetOut b) s
      = .next { s' with ports := repliedPorts s.ports heaterPort kindRivetOut r } :=
  takeMessage_answered hready.2 hready.1 (by decide) (lengthFits_heater (n := 3) (by decide) hl) hr hp

/-- A RIVET_OUT whose rule changes of the ports the pending sets at most is answered. -/
theorem rivetOut_message_answered {s' : State} {r : Reply} (hready : s.ready heaterPort kindRivetOut b)
    (hl : b.length = 3) (hr : ruleRivetOut b (s.dequeued heaterPort) = (s', r))
    (hp : OnlyPending (s.dequeued heaterPort).ports s'.ports) :
    ∃ ports : Vector Port 10, exec (.rivetOut b) s = .next { s' with ports := ports }
      ∧ AnsweredAt s { s' with ports := ports } heaterPort kindRivetOut r
      ∧ ∀ (q : PortId) (k : NoticeKind), s'.announced q k → State.announced { s' with ports := ports } q k :=
  (message_answered hready.1 (by decide) (lengthFits_heater (n := 3) (by decide) hl) hr hp).imp
    fun _ ⟨hnext, hans, _, hann⟩ => ⟨hnext, hans, hann⟩

/-- A rivet handed over: FEED_GIVEN is announced on the port of the head that waited (R114). -/
theorem rivetOut_handedOver {hd : Head} {g : HoleGrant} (hready : s.ready heaterPort kindRivetOut b)
    (hl : b.length = 3) (hinside : ruleRivetOut b (s.dequeued heaterPort) = (s.dequeued heaterPort).placeRivet c)
    (hnodup : s.heat.waiting.Nodup) (hw : s.heat.waiting = pre ++ h :: post)
    (hpre : ∀ w ∈ pre, s.classOf w ≠ some c) (hc : s.classOf h = some c)
    (hh : s.heads[h] = some hd) (hg : hd.status = .work g) :
    ∃ t : State, exec (.rivetOut b) s = .next t
      ∧ t.heat = { s.heat with
          serialCounter := s.nextSerial + 1, accepted := min 4294967295 (s.heat.accepted + 1)
          waiting := pre ++ post }
      ∧ t.heads = s.heads.set h
          (some { hd with status := .work { g with phase := some (.fed ⟨s.nextSerial, c, s.clock⟩) } })
      ∧ t.timers = s.timers.set h (.counting .work s.params.workSetMs 0)
      ∧ t.announced (headPort h) .feedGiven
      ∧ AnsweredAt s t heaterPort kindRivetOut ⟨.ok, 0, .rivetSerial (some s.nextSerial)⟩
      ∧ t = { s with heat := t.heat, heads := t.heads, timers := t.timers, ports := t.ports } := by
  have hfirst : (s.dequeued heaterPort).waitingFor c = some h := State.waitingFor_first hw hpre hc
  have hover := State.handOver_eq (s := s.dequeued heaterPort) hh hg ⟨s.nextSerial, c, s.clock⟩
  have hrule : ruleRivetOut b (s.dequeued heaterPort)
      = ((s.dequeued heaterPort).handOver h ⟨s.nextSerial, c, s.clock⟩,
        ⟨.ok, 0, .rivetSerial (some s.nextSerial)⟩) := hinside.trans (State.placeRivet_waiter hfirst)
  have hleft : (s.dequeued heaterPort).heat.waiting.filter (fun w => !(w == h)) = pre ++ post := by
    have hsame : (s.dequeued heaterPort).heat.waiting = pre ++ h :: post := hw
    rw [hsame]
    exact filter_ne_of_nodup (hw ▸ hnodup)
  have hnoted : ((s.dequeued heaterPort).handOver h ⟨s.nextSerial, c, s.clock⟩).announced (headPort h)
      .feedGiven := State.makePending_announced ..
  rw [hover, hleft] at hrule hnoted
  obtain ⟨ports, hnext, hans, hann⟩ := rivetOut_message_answered hready hl hrule (onlyPending_pended _ _ _)
  exact ⟨_, hnext, rfl, rfl, rfl, hann _ _ hnoted, hans, rfl⟩

/-- Settles O42: the judgement of R107, then the placement by its first free place. -/
theorem rivetOutIsPlacedOrRefused : Obligations.RivetOutIsPlacedOrRefused := by
  intro b s c hready hl hcls htop
  refine ⟨fun ho => ?_, fun ho hw => ?_, fun ho hlo hhi hkept hheads => ?_⟩
  · exact rivetOut_answered (s' := s.dequeued heaterPort) hready hl (ruleRivetOut_overrun ho) rfl
  · obtain ⟨ports, hnext, hans, -⟩ := rivetOut_message_answered hready hl
      (ruleRivetOut_outside (s := s.dequeued heaterPort) ho hcls htop hw) (onlyPending_flagged _ _)
    exact ⟨_, hnext, rfl, hans, rfl⟩
  · obtain ⟨n, hv, hfree, hheld⟩ := freeSerial_found (n := 16) (by omega) (State.length_serialsHeld hkept)
      s.heat.serialCounter
    have hinside : ruleRivetOut b (s.dequeued heaterPort) = (s.dequeued heaterPort).placeRivet c :=
      ruleRivetOut_inside ho hcls htop hlo hhi
    refine ⟨n, s.nextSerial, hv, hfree, hheld, fun pre post h hd g hw hpre hc hh hg => ?_, fun hnone => ?_⟩
    · exact rivetOut_handedOver hready hl hinside hheads.2 hw hpre hc hh hg
    · have hfor : (s.dequeued heaterPort).waitingFor c = none := State.waitingFor_none hnone
      refine ⟨fun hq => ?_, fun hq hc => ?_, fun hq hc => ?_⟩
      · exact rivetOut_answered hready hl (hinside.trans (State.placeRivet_queue hfor hq)) rfl
      · exact rivetOut_answered hready hl (hinside.trans (State.placeRivet_chute hfor hq hc)) rfl
      · exact rivetOut_answered hready hl (hinside.trans (State.placeRivet_overrun hfor hq hc)) rfl

end Sys2Proof.Machine
end

section
/-! SUPPORT. Accepted edges: what handing one on may write, and what the terminal's record becomes (R117,
R151 to R153). -/

namespace Sys2Proof.Machine

variable {s t u : State} {n : TermId} {active : Bool}

/-! ### What handing an edge on may write (R80, R117, R151) -/

/-- An edge is handed on: the blocks it may write, and the ports' pending sets. -/
structure State.HandedOn (s t : State) : Prop where
  frame : t = { s with heads := t.heads, timers := t.timers, plan := t.plan, log := t.log,
                       heat := t.heat, dev := t.dev, ports := t.ports }
  pending : OnlyPending s.ports t.ports

theorem State.HandedOn.refl (s : State) : s.HandedOn s := ⟨rfl, .refl _⟩

/-- The judgement of one head by a clamp drop writes of the ports the pending sets at most. -/
theorem State.judgeDrop_pending (s : State) (bay : Nat) (h : Slot) :
    OnlyPending s.ports (s.judgeDrop bay h).ports := by
  by_cases hs : s.spared bay h
  · rw [judgeDrop_spared hs]
    exact .refl _
  obtain ⟨hd, g, hh, hg, hb⟩ := not_spared.1 hs
  cases hm : s.modeOf .clampLost with
  | noting =>
    rw [judgeDrop_noting hh hg hb hm]
    exact onlyPending_raiseForHole _ _ _ _ _ _
  | holding =>
    have hm' : (s.raiseForHole .clampLost g.hole h bay 0).modeOf .clampLost = .holding := by
      rw [raiseForHole_eq]
      exact hm
    obtain ⟨w, hpending, -, heq⟩ := s.raiseAndHold_eq h hd g .clampLost .idle bay 0
    simp only [judgeDrop, hh, hg, hb, if_true, hm', heq, makePending_eq]
    exact hpending.trans (onlyPending_pended _ _ _)

theorem State.clampDrop_handedOn (s : State) (bay : Nat) : s.HandedOn (s.clampDrop bay) := by
  refine ⟨(s.dropOver_dropped bay (indices 8)).frame, ?_⟩
  unfold clampDrop
  generalize indices 8 = l
  induction l generalizing s with
  | nil => exact .refl _
  | cons h l ih => exact (s.judgeDrop_pending bay h).trans (ih _)

/-- The capture writes a FED rivet's age, or nothing. -/
theorem State.ramCapture_handedOn (s : State) (h : Slot) : s.HandedOn (s.ramCapture h) := by
  unfold ramCapture
  split
  · split
    · split
      · rw [setPhase_eq]
        exact ⟨rfl, .refl _⟩
      · exact .refl s
    · exact .refl s
  · exact .refl s

theorem State.handOnEdge_handedOn (s : State) (r : Terminal) (active : Bool) :
    s.HandedOn (s.handOnEdge r active) := by
  unfold handOnEdge
  split
  · split
    · exact .refl s
    · exact s.clampDrop_handedOn _
  · split
    · exact s.ramCapture_handedOn _
    · exact .refl s
  · exact .refl s

/-- The capture of a FED rivet (R117). -/
theorem State.ramCapture_fed {h : Slot} {hd : Head} {g : HoleGrant} {x : Rivet} (hh : s.heads[h] = some hd)
    (hk : hd.kind = .set) (hg : hd.status = .work g) (hp : g.phase = some (.fed x)) :
    s.ramCapture h = s.setHead h (some { hd with status := .work { g with
      phase := some (.rammed x (s.clock - x.heatOut).toNat) } }) := by
  have hcapture : s.ramCapture h = s.setPhase h (.rammed x (age s.clock x.heatOut)) := by
    simp only [ramCapture, hh, hk, hg, hp]
  exact hcapture.trans (setPhase_work hh hg _)

/-- Without a FED rivet there is nothing to capture. -/
theorem State.ramCapture_idle {h : Slot} (hidle : ∀ (hd : Head) (g : HoleGrant) (x : Rivet),
    s.heads[h] = some hd → hd.kind = .set → hd.status = .work g → g.phase ≠ some (.fed x)) :
    s.ramCapture h = s := by
  unfold ramCapture
  split
  · rename_i hd hh
    split
    · rename_i g hk hg
      split
      · rename_i x hp
        exact absurd hp (hidle hd g x hh hk hg)
      · rfl
    · rfl
  · rfl

/-! ### The record of a terminal whose edge is accepted (R151, R153) -/

/-- A terminal's record after an edge of it is accepted. -/
def Terminal.accepted (r : Terminal) (active : Bool) : Terminal :=
  { r with
    level := active, candidate := none
    pending := r.pending || (r.pendingEnable && edgeSelected r.edge active) }

/-- The state an accepted edge is handed on to: its terminal shows the new level and no candidate. -/
def State.levelled (s : State) (n : TermId) (active : Bool) : State :=
  s.setTerminal n { s.terminals[n] with level := active, candidate := none }

/-- The block that uses the function has done its part (R151). -/
def State.handed (s : State) (n : TermId) (active : Bool) : State :=
  (s.levelled n active).handOnEdge s.terminals[n] active

theorem State.handed_terminals (s : State) (n : TermId) (active : Bool) :
    (s.handed n active).terminals = s.terminals.set n
      { s.terminals[n] with level := active, candidate := none } := by
  rw [handed, (handOnEdge_handedOn _ s.terminals[n] active).frame]
  rfl

/-- The pending latch, and TERMINAL made pending on P8 where the latch was 0 (R153). -/
theorem State.latchEdge_eq {r : Terminal} (hr : s.terminals[n] = r) : s.latchEdge n = { s with
    terminals := s.terminals.set n { r with pending := r.pending || r.pendingEnable }
    ports := if r.pending = false ∧ (r.pending || r.pendingEnable) = true then
      pendedPorts s.ports supervisorPort .terminal else s.ports } := by
  have hkept : s.terminals.set n r = s.terminals := by
    rw [← hr]
    simp
  by_cases he : r.pendingEnable = true
  · have hlatch : s.latchEdge n = if r.pending = true then s.setTerminal n { r with pending := true }
        else (s.setTerminal n { r with pending := true }).makePending supervisorPort .terminal := by
      simp only [latchEdge, hr, if_pos he]
    have hset : (r.pending || r.pendingEnable) = true := by rw [he, Bool.or_true]
    rw [hlatch, hset]
    by_cases hp : r.pending = true
    · rw [if_pos hp, if_neg (by simp [hp])]
      rfl
    · rw [if_neg hp, if_pos ⟨Bool.eq_false_iff.2 hp, rfl⟩, makePending_eq]
      rfl
  · have hlatch : s.latchEdge n = s := by simp only [latchEdge, hr, if_neg he]
    have hsame : (r.pending || r.pendingEnable) = r.pending := by
      rw [Bool.eq_false_iff.2 he, Bool.or_false]
    rw [hlatch, hsame, hkept, if_neg (by simp)]

theorem Terminal.accepted_unselected {r : Terminal} (hsel : edgeSelected r.edge active = false) :
    r.accepted active = { r with level := active, candidate := none } := by
  simp [accepted, hsel]

theorem Terminal.accepted_selected {r : Terminal} (hsel : edgeSelected r.edge active = true) :
    r.accepted active = { r with
      level := active, candidate := none, pending := r.pending || r.pendingEnable } := by
  simp [accepted, hsel]

/-- An accepted edge: it is handed on, and its terminal's record is as the word for it says. -/
theorem State.acceptEdge_eq (s : State) (n : TermId) (active : Bool) :
    s.acceptEdge n active = { s.handed n active with
      terminals := s.terminals.set n (s.terminals[n].accepted active)
      ports := if s.terminals[n].pending = false ∧ (s.terminals[n].accepted active).pending = true then
        pendedPorts (s.handed n active).ports supervisorPort .terminal
        else (s.handed n active).ports } := by
  have hterm := s.handed_terminals n active
  have hrecord : (s.handed n active).terminals[n]
      = { s.terminals[n] with level := active, candidate := none } := by
    simp [hterm]
  have hedge : s.acceptEdge n active = if edgeSelected s.terminals[n].edge active then
      (s.handed n active).latchEdge n else s.handed n active := rfl
  cases hsel : edgeSelected s.terminals[n].edge active with
  | false =>
    rw [hedge, hsel, if_neg Bool.false_ne_true, Terminal.accepted_unselected hsel, ← hterm, if_neg (by simp)]
  | true =>
    rw [hedge, hsel, if_pos rfl, latchEdge_eq hrecord, hterm, Terminal.accepted_selected hsel,
      Vector.set_set]

/-! ### A raw change (R151) -/

/-- A raw change of a pin, away from reset (R151). -/
theorem execRawChange_due {high : Bool} (hr : s.inReset = false) (hpin : s.pinHigh[n] = !high) :
    exec (.rawChange n high) s = .next (s.changePin n high).sendNotices := by
  have hdue : (!(s.pinHigh[n] == high)) = true := by
    rw [hpin]
    cases high <;> rfl
  have hraw : exec (.rawChange n high) s
      = takeEvent (!(s.pinHigh[n] == high)) (fun x => x.changePin n high) s := by
    show execRawChange n high s = _
    rw [execRawChange, hr, if_neg Bool.false_ne_true]
  rw [hraw, takeEvent_due hr hdue]

/-- A candidate that has stood for DEBOUNCE_MS is due (R151). -/
theorem State.acceptanceDue_iff : s.acceptanceDue n = true ↔ ∃ c : Candidate,
    s.terminals[n].mode = .switchIn ∧ s.terminals[n].candidate = some c
      ∧ s.params.debounceMs ≤ (s.clock - c.since).toNat := by
  cases hc : s.terminals[n].candidate with
  | none => simp only [acceptanceDue, hc, Bool.and_false, Bool.false_eq_true, reduceCtorEq, false_and,
      and_false, exists_false]
  | some c =>
    simp only [acceptanceDue, hc, Bool.and_eq_true, beq_iff_eq, decide_eq_true_eq, Option.some.injEq,
      exists_eq_left', exists_and_left]
    rfl

theorem execAcceptance_due {c : Candidate} (hr : s.inReset = false) (hm : s.terminals[n].mode = .switchIn)
    (hc : s.terminals[n].candidate = some c) (hage : s.params.debounceMs ≤ (s.clock - c.since).toNat) :
    exec (.acceptance n) s = .next (s.acceptEdge n c.active).sendNotices := by
  have haccept : s.acceptCandidate n = s.acceptEdge n c.active := by simp only [State.acceptCandidate, hc]
  have hexec : exec (.acceptance n) s
      = takeEvent (s.acceptanceDue n) (fun x => x.acceptCandidate n) s := rfl
  rw [hexec, takeEvent_due hr (State.acceptanceDue_iff.2 ⟨c, hm, hc, hage⟩), haccept]

/-- The raw level is a candidate of its terminal from now on. -/
def State.withCandidate (s : State) (n : TermId) (active : Bool) : State :=
  s.setTerminal n { s.terminals[n] with candidate := some ⟨active, s.clock⟩ }

theorem State.changePin_other {high : Bool} (hm : s.terminals[n].mode ≠ .switchIn) :
    s.changePin n high = s.setPin n high := if_neg hm

theorem State.changePin_switch {high : Bool} (hm : s.terminals[n].mode = .switchIn) :
    s.changePin n high = (s.setPin n high).judgeRaw n (activeThrough s.terminals[n].polarity high) :=
  if_pos hm

/-- A raw level that is the debounced one discards the candidate. -/
theorem State.judgeRaw_back (ha : active = s.terminals[n].level) : s.judgeRaw n active
    = s.setTerminal n { s.terminals[n] with candidate := none } := if_pos ha

/-- A raw level away from the debounced one is a candidate, accepted at once where DEBOUNCE_MS is 0. -/
theorem State.judgeRaw_away (ha : active ≠ s.terminals[n].level) : s.judgeRaw n active
    = if s.params.debounceMs = 0 then (s.withCandidate n active).acceptEdge n active
      else s.withCandidate n active := if_neg ha

/-- A raw change that leaves the ports sends nothing. -/
theorem execRawChange_settled {high : Bool} (hr : s.inReset = false) (hs : s.settled)
    (hpin : s.pinHigh[n] = !high) (ht : s.changePin n high = t) (hp : t.ports = s.ports) :
    exec (.rawChange n high) s = .next t := by
  have hset : t.settled := fun q => hp ▸ hs q
  rw [execRawChange_due hr hpin, ht, State.sendNotices_of_settled hset]

/-! ### The accepted edge, part by part (R117, R151, R153) -/

/-- The edge goes nowhere: no clamp drop and no FED rivet to capture. -/
theorem State.handed_nowhere (hclamp : ∀ bay : Fin 24, s.terminals[n].function = .clampBay bay → active = true)
    (hram : ∀ (h : Slot) (hd : Head) (g : HoleGrant) (x : Rivet), s.terminals[n].function = .ram h →
      edgeSelected s.terminals[n].edge active = true → s.heads[h] = some hd → hd.kind = .set →
      hd.status = .work g → g.phase ≠ some (.fed x)) :
    s.handed n active = s.levelled n active := by
  unfold handed handOnEdge
  split
  · rename_i bay hf
    exact if_pos (hclamp bay hf)
  · rename_i h hf
    split
    · rename_i hsel
      exact ramCapture_idle fun hd g x hh hk hg => hram h hd g x hf hsel hh hk hg
    · rfl
  · rfl

theorem State.handed_clampDrop {bay : Fin 24} (hf : s.terminals[n].function = .clampBay bay) :
    s.handed n false = (s.levelled n false).clampDrop bay.val := by
  simp only [handed, handOnEdge, hf, Bool.false_eq_true, if_false]

theorem State.handed_ram {h : Slot} (hf : s.terminals[n].function = .ram h)
    (hsel : edgeSelected s.terminals[n].edge active = true) :
    s.handed n active = (s.levelled n active).ramCapture h := by
  simp only [handed, handOnEdge, hf, hsel, if_true]

/-- A pending latch that an accepted edge sets is announced on P8 (R153). -/
theorem State.acceptEdge_announced (hp : s.terminals[n].pending = false)
    (hset : (s.terminals[n].accepted active).pending = true) :
    (s.acceptEdge n active).announced supervisorPort .terminal := by
  rw [acceptEdge_eq, if_pos ⟨hp, hset⟩]
  exact .inl (mem_pendedPorts _ _ _)

/-! ### A write of DEBOUNCE_MS (R152) -/

/-- A terminal's record after its candidate was judged against a debounce time. -/
def Terminal.judged (r : Terminal) (debounceMs : Nat) (now : Clock) : Terminal :=
  match r.candidate with
  | some c => if r.mode = .switchIn ∧ debounceMs ≤ (now - c.since).toNat then r.accepted c.active else r
  | none => r

theorem Terminal.judged_due {r : Terminal} {c : Candidate} {v : Nat} {now : Clock} (hm : r.mode = .switchIn)
    (hc : r.candidate = some c) (hage : v ≤ (now - c.since).toNat) :
    r.judged v now = r.accepted c.active := by
  simp only [judged, hc]
  exact if_pos ⟨hm, hage⟩

theorem Terminal.judged_not_due {r : Terminal} {v : Nat} {now : Clock}
    (h : ∀ c : Candidate, r.mode = .switchIn → r.candidate = some c → (now - c.since).toNat < v) :
    r.judged v now = r := by
  unfold judged
  split
  · rename_i c hc
    exact if_neg fun ⟨hm, hage⟩ => absurd (h c hm hc) (by omega)
  · rfl

/-- The candidates of some terminals were judged: what the write reads of a state stands, the ports differ in
their pending sets at most, and each of the terminals has its record judged. -/
structure State.Judged (l : List TermId) (s t : State) : Prop where
  params : t.params = s.params
  clock : t.clock = s.clock
  pending : OnlyPending s.ports t.ports
  own : ∀ n ∈ l, t.terminals[n] = s.terminals[n].judged s.params.debounceMs s.clock
  other : ∀ n ∉ l, t.terminals[n] = s.terminals[n]

/-- The candidate of a terminal is accepted if it is due (R152). -/
def State.acceptIfDue (s : State) (n : TermId) : State :=
  if s.acceptanceDue n then s.acceptCandidate n else s

theorem State.acceptEdge_judged {c : Candidate} (hm : s.terminals[n].mode = .switchIn)
    (hc : s.terminals[n].candidate = some c) (hage : s.params.debounceMs ≤ (s.clock - c.since).toNat) :
    Judged [n] s (s.acceptEdge n c.active) := by
  have hhanded : (s.levelled n c.active).HandedOn (s.handed n c.active) := handOnEdge_handedOn ..
  have hpending : OnlyPending s.ports (s.handed n c.active).ports := hhanded.pending
  rw [acceptEdge_eq]
  refine ⟨by rw [hhanded.frame]; rfl, by rw [hhanded.frame]; rfl, ?_, fun m hm' => ?_, fun m hm' => ?_⟩
  · dsimp only
    split
    · exact hpending.trans (onlyPending_pended _ _ _)
    · exact hpending
  · obtain rfl := List.mem_singleton.1 hm'
    rw [Terminal.judged_due hm hc hage]
    exact Vector.getElem_set_self _
  · have hne : n.val ≠ m.val := fun e => hm' (List.mem_singleton.2 (Fin.ext e.symm))
    exact Vector.getElem_set_ne n.isLt m.isLt hne

theorem State.acceptIfDue_judged (s : State) (n : TermId) : Judged [n] s (s.acceptIfDue n) := by
  by_cases hdue : s.acceptanceDue n = true
  · obtain ⟨c, hm, hc, hage⟩ := acceptanceDue_iff.1 hdue
    have haccept : s.acceptIfDue n = s.acceptEdge n c.active := by
      simp only [acceptIfDue, hdue, if_true, acceptCandidate, hc]
    exact haccept ▸ acceptEdge_judged hm hc hage
  · have hkept : s.terminals[n].judged s.params.debounceMs s.clock = s.terminals[n] :=
      Terminal.judged_not_due fun c hm hc =>
        lt_of_not_ge fun hage => hdue (acceptanceDue_iff.2 ⟨c, hm, hc, hage⟩)
    rw [acceptIfDue, if_neg hdue]
    refine ⟨rfl, rfl, .refl _, fun m hm => ?_, fun _ _ => rfl⟩
    obtain rfl := List.mem_singleton.1 hm
    exact hkept.symm

theorem State.Judged.cons {l : List TermId} (hn : n ∉ l) (h : Judged [n] s t) (h' : Judged l t u) :
    Judged (n :: l) s u where
  params := h'.params.trans h.params
  clock := h'.clock.trans h.clock
  pending := h.pending.trans h'.pending
  own m hm := by
    rcases List.mem_cons.1 hm with rfl | hm
    · rw [h'.other m hn, h.own m (by simp)]
    · have hne : m ∉ [n] := fun e => hn (List.mem_singleton.1 e ▸ hm)
      rw [h'.own m hm, h.other m hne, h.params, h.clock]
  other m hm := by
    obtain ⟨hne, hm⟩ := not_or.1 (mt List.mem_cons.2 hm)
    rw [h'.other m hm, h.other m (by simpa using hne)]

theorem State.acceptDue_judged (s : State) : Judged (indices 40) s s.acceptDue := by
  have hover : ∀ l : List TermId, l.Nodup → ∀ s : State, Judged l s (l.foldl acceptIfDue s) := by
    intro l hl
    induction l with
    | nil => exact fun s => ⟨rfl, rfl, .refl _, by simp, fun _ _ => rfl⟩
    | cons n l ih =>
      obtain ⟨hn, hl⟩ := List.nodup_cons.1 hl
      exact fun s => (s.acceptIfDue_judged n).cons hn (ih hl _)
  exact hover _ (List.nodup_finRange 40) s

/-- The write stores the time, then judges every candidate by it (R152). -/
theorem ruleSetDebounceMs_stores {b : List Byte} {v : Nat} (hid : u8At b 0 = 22)
    (hv : (v : Int) = max 0 (min 255 (i32At b 1))) (s : State) : ruleSetDebounceMs b s
      = ((s.setParams { s.params with debounceMs := v }).acceptDue,
        ⟨if i32At b 1 = v then .ok else .limited, 0, .parameter 22 v⟩) := by
  have hrange : paramRange (u8At b 0) = some (0, 255) := hid ▸ rfl
  have hname : b.getD 0 0 = 22 := by
    rw [← ofNat_u8At, hid]
    rfl
  rw [← hname]
  exact State.writeParam_stores _ hrange hv

/-- The taking of the write: every terminal's record is judged by the new time. -/
theorem setDebounceMs_taken {b : List Byte} {v : Nat} (ht : s.takes supervisorPort ⟨kindSetParam, b⟩ = true)
    (hl : b.length = 5) (hid : u8At b 0 = 22) (hv : (v : Int) = max 0 (min 255 (i32At b 1))) :
    ∃ t : State, exec (.setParamDebounceMs b) s = .next t
      ∧ t.params = { s.params with debounceMs := v }
      ∧ (∀ n : TermId, t.terminals[n] = s.terminals[n].judged v s.clock)
      ∧ AnsweredAt s t supervisorPort kindSetParam
          ⟨if i32At b 1 = v then .ok else .limited, 0, .parameter 22 v⟩ := by
  have hexec : exec (.setParamDebounceMs b) s
      = takeMessage supervisorPort kindSetParam b (ruleSetDebounceMs b) s :=
    if_pos (by simp [writesOneOf_eq hl, hid])
  have hrule := ruleSetDebounceMs_stores hid hv (s.dequeued supervisorPort)
  have hjudged := ((s.dequeued supervisorPort).setParams { s.params with debounceMs := v }).acceptDue_judged
  have hsame : (s.dequeued supervisorPort).params = s.params := rfl
  rw [hsame] at hrule
  generalize State.acceptDue _ = u at hrule hjudged
  obtain ⟨ports, hnext, hans⟩ := supervisor_message_answered (n := 5) ht (by decide) hl hrule hjudged.pending
  exact ⟨_, hexec.trans hnext, hjudged.params, fun n => hjudged.own n (List.mem_finRange n), hans⟩

/-! ### The obligation -/

/-- The taking of an acceptance: the state the edge was handed on in, with the terminal's record and what was
announced. -/
theorem acceptance_taken {c : Candidate} (hr : s.inReset = false) (hm : s.terminals[n].mode = .switchIn)
    (hc : s.terminals[n].candidate = some c) (hage : s.params.debounceMs ≤ (s.clock - c.since).toNat) :
    ∃ ports : Vector Port 10, exec (.acceptance n) s = .next { s.handed n c.active with
        terminals := s.terminals.set n (s.terminals[n].accepted c.active), ports := ports }
      ∧ (s.terminals[n].pending = false → (s.terminals[n].accepted c.active).pending = true →
        State.announced { s.handed n c.active with
          terminals := s.terminals.set n (s.terminals[n].accepted c.active), ports := ports }
          supervisorPort .terminal) := by
  have hsent := (s.acceptEdge n c.active).sendNotices_eq
  have hnext := execAcceptance_due hr hm hc hage
  have hnoted := fun hp hset => State.announced_sendNotices (s.acceptEdge_announced (n := n)
    (active := c.active) hp hset)
  generalize (s.acceptEdge n c.active).sendNotices = t at hsent hnext hnoted
  rw [State.acceptEdge_eq] at hsent
  generalize t.ports = ports at hsent
  subst hsent
  exact ⟨ports, hnext, hnoted⟩


/-- A raw change of a pin, case by case (R151). -/
theorem rawChange_judged {high : Bool} (hr : s.inReset = false) (hs : s.settled)
    (hpin : s.pinHigh[n] = !high) :
    let r := s.terminals[n]
    let active := activeThrough r.polarity high
    (r.mode ≠ .switchIn → exec (.rawChange n high) s = .next (s.setPin n high))
    ∧ (r.mode = .switchIn → active = r.level → exec (.rawChange n high) s
        = .next ((s.setPin n high).setTerminal n { r with candidate := none }))
    ∧ (r.mode = .switchIn → active ≠ r.level → 0 < s.params.debounceMs → exec (.rawChange n high) s
        = .next ((s.setPin n high).withCandidate n active))
    ∧ (r.mode = .switchIn → active ≠ r.level → s.params.debounceMs = 0 → exec (.rawChange n high) s
        = exec (.acceptance n) ((s.setPin n high).withCandidate n active)) := by
  intro r active
  refine ⟨fun hm => ?_, fun hm ha => ?_, fun hm ha hd => ?_, fun hm ha hd => ?_⟩
  · exact execRawChange_settled hr hs hpin (State.changePin_other hm) rfl
  · exact execRawChange_settled hr hs hpin
      ((State.changePin_switch hm).trans (State.judgeRaw_back ha)) rfl
  · have hjudge := (State.changePin_switch (high := high) hm).trans (State.judgeRaw_away ha)
    rw [if_neg (show (s.setPin n high).params.debounceMs ≠ 0 from hd.ne')] at hjudge
    exact execRawChange_settled hr hs hpin hjudge rfl
  · have hjudge := (State.changePin_switch (high := high) hm).trans (State.judgeRaw_away ha)
    rw [if_pos (show (s.setPin n high).params.debounceMs = 0 from hd)] at hjudge
    have hrecord : ((s.setPin n high).withCandidate n active).terminals[n]
        = { r with candidate := some ⟨active, s.clock⟩ } := Vector.getElem_set_self _
    have haccept := execAcceptance_due (s := (s.setPin n high).withCandidate n active)
      (c := ⟨active, s.clock⟩) hr (by rw [hrecord]; exact hm) (by rw [hrecord]) (hd.le.trans (Nat.zero_le _))
    rw [execRawChange_due hr hpin, hjudge, haccept]

/-- Settles O52: a raw change by its four cases, an acceptance by where its edge goes, and a write of
DEBOUNCE_MS as one judgement of every terminal. -/
theorem switchLevelsAreDebounced : Obligations.SwitchLevelsAreDebounced := by
  refine ⟨fun n high s hr hs hpin => rawChange_judged hr hs hpin,
    fun n c s hr hm hc hage => ?_, fun b s v ht hl hid hv => ?_⟩
  · obtain ⟨ports, hnext, hnoted⟩ := acceptance_taken hr hm hc hage
    refine ⟨_, hnext, rfl, hnoted, fun bay hf hfall => ?_, fun h hd g x hf hsel hh hk hg hp => ?_,
      fun hclamp hram => ?_⟩
    · intro u
      have hhanded : s.handed n c.active = u := by
        rw [hfall]
        exact State.handed_clampDrop hf
      rw [← hhanded]
      exact ⟨rfl, rfl, rfl, rfl, rfl, rfl⟩
    · have hcapture := State.ramCapture_fed (s := s.levelled n c.active) hh hk hg hp
      exact congrArg State.heads ((State.handed_ram hf hsel).trans hcapture)
    · rw [State.handed_nowhere hclamp hram]
      rfl
  · obtain ⟨t, hnext, hparams, hterminals, hans⟩ := setDebounceMs_taken ht hl hid hv
    refine ⟨t, hnext, hparams, fun n hwait => ?_, fun n c hm hc hage => ?_, hans⟩
    · rw [hterminals, Terminal.judged_not_due hwait]
    · rw [hterminals, Terminal.judged_due hm hc hage]
      rfl

end Sys2Proof.Machine
end

section
/-! SUPPORT. The parameters and the Deviation Unit: the laws of R125, R128 and R178, and the changes that keep
them. -/

namespace Sys2Proof.Machine

/-! ### The parameters in their ranges (R105, R144, R178) -/

/-- Every parameter in its range, field by field, so that a write restates one field and keeps the rest. -/
structure Params.Bounded (q : Params) : Prop where
  alpha : q.alpha ≤ 2000
  corrLimit : q.corrLimit ≤ 5000
  probeHold : q.probeHold ≤ 600
  clearDrill : 10000 ≤ q.clearDrill ∧ q.clearDrill ≤ 150000
  clearSet : 10000 ≤ q.clearSet ∧ q.clearSet ≤ 150000
  diaTol : q.diaTol ≤ 100
  stackTol : q.stackTol ≤ 500
  travelBaseMs : q.travelBaseMs ≤ 60000
  travelSpeed : 10 ≤ q.travelSpeed ∧ q.travelSpeed ≤ 1000
  workDrillMs : 1000 ≤ q.workDrillMs ∧ q.workDrillMs ≤ 600000
  workSetMs : 1000 ≤ q.workSetMs ∧ q.workSetMs ≤ 600000
  heatWindow : 600 ≤ q.heatMin ∧ q.heatMin ≤ q.heatMax ∧ q.heatMax ≤ 1300
  budgets : ∀ c : RivetClass, 50 ≤ q.budgets[c] ∧ q.budgets[c] ≤ 1200
  logThreshold : q.logThreshold ∈ [1, 16, 48, 64]
  debounceMs : q.debounceMs ≤ 255

variable {q : Params}

theorem Params.kept_iff : q.kept ↔ q.Bounded :=
  ⟨fun ⟨h1, h2, h3, h4, h5, h6, h7, h8, h9, h10, h11, h12, h13, h14, h15⟩ =>
    ⟨h1, h2, h3, h4, h5, h6, h7, h8, h9, h10, h11, h12, h13, h14, h15⟩,
  fun ⟨h1, h2, h3, h4, h5, h6, h7, h8, h9, h10, h11, h12, h13, h14, h15⟩ =>
    ⟨h1, h2, h3, h4, h5, h6, h7, h8, h9, h10, h11, h12, h13, h14, h15⟩⟩

/-- A generic write of a value in the range of its id. -/
theorem Params.Bounded.put {id lo hi v : Nat} (hq : q.Bounded) (hr : paramRange id = some (lo, hi))
    (hlo : lo ≤ v) (hhi : v ≤ hi) : (q.put id v).Bounded := by
  unfold Params.put
  split <;> simp only [paramRange, Option.some.injEq, Prod.mk.injEq] at hr
  case h_11 => exact hq
  all_goals obtain ⟨rfl, rfl⟩ := hr
  · exact { hq with alpha := hhi }
  · exact { hq with corrLimit := hhi }
  · exact { hq with clearDrill := ⟨hlo, hhi⟩ }
  · exact { hq with clearSet := ⟨hlo, hhi⟩ }
  · exact { hq with diaTol := hhi }
  · exact { hq with stackTol := hhi }
  · exact { hq with travelBaseMs := hhi }
  · exact { hq with travelSpeed := ⟨hlo, hhi⟩ }
  · exact { hq with workDrillMs := ⟨hlo, hhi⟩ }
  · exact { hq with workSetMs := ⟨hlo, hhi⟩ }

theorem Params.Bounded.setBudget {v : Nat} (hq : q.Bounded) (c : RivetClass) (hlo : 50 ≤ v)
    (hhi : v ≤ 1200) : Params.Bounded { q with budgets := q.budgets.set c v } := by
  refine { hq with budgets := fun d => ?_ }
  simp only [Fin.getElem_fin, Vector.getElem_set]
  split
  · exact ⟨hlo, hhi⟩
  · exact hq.budgets d

theorem saturate_bounds {lo hi : Nat} (hle : lo ≤ hi) (x : Int) :
    lo ≤ saturate lo hi x ∧ saturate lo hi x ≤ hi := by
  unfold saturate
  omega

theorem roundThreshold_mem (x : Int) : roundThreshold x ∈ [1, 16, 48, 64] := by
  unfold roundThreshold
  split_ifs <;> decide

/-! ### Flags and modes (R124 to R128, R133, R134) -/

variable {d : DeviationUnit} {s t u : State}

theorem DevClass.mem_allClasses (c : DevClass) : c ∈ allClasses := by cases c <;> decide

/-- A flag stands after a clear unless its class is among those cleared (R134). -/
theorem clearFlags_get (flags : Vector Bool 10) (l : List DevClass) (c : DevClass) :
    (clearFlags flags l)[c.index] = (flags[c.index] && !decide (c ∈ l)) := by
  unfold clearFlags
  induction l generalizing flags with
  | nil => simp
  | cons a l ih =>
    rw [List.foldl_cons, ih]
    by_cases e : c = a
    · subst e
      simp
    · have : a.index.val ≠ c.index.val := fun e' => e (DevClass.index_inj (Fin.ext e'.symm))
      simp [e, this]

/-- The first-deviation record goes with its class (R134). -/
theorem DeviationUnit.clear_first (d : DeviationUnit) (l : List DevClass) :
    (d.clear l).first = d.first.filter (fun f => !decide (f.cls ∈ l)) := by
  unfold clear
  cases d.first with
  | none => rfl
  | some f => by_cases h : f.cls ∈ l <;> simp [Option.filter, h]

theorem DeviationUnit.kept_clear (l : List DevClass) (hd : d.kept) : (d.clear l).kept := by
  obtain ⟨hfirst, hwork, hlink⟩ := hd
  refine ⟨?_, hwork, hlink⟩
  rw [clear_first]
  cases hf : d.first with
  | none => rfl
  | some f =>
    by_cases hmem : f.cls ∈ l
    · simp [hmem]
    · have hflag : d.flags[f.cls.index] = true := by simpa [hf] using hfirst
      have hstands : (d.clear l).flags[f.cls.index] = true :=
        (clearFlags_get d.flags l f.cls).trans (by simp [hflag, hmem])
      simpa [hmem] using hstands

/-- The fixed classes are the two whose mode the law names, so another mode may be set (R125, R133). -/
theorem DeviationUnit.kept_setMode {c : DevClass} (hc : c.fixed = false) (m : DevMode) (hd : d.kept) :
    (d.setMode c m).kept := by
  obtain ⟨hfirst, hwork, hlink⟩ := hd
  have hother : ∀ e : DevClass, e.fixed = true → (d.setMode c m).modes[e.index] = d.modes[e.index] := by
    intro e he
    have hne : c.index.val ≠ e.index.val := fun h => by
      rw [DevClass.index_inj (Fin.ext h), he] at hc
      cases hc
    simp [setMode, hne]
  exact ⟨hfirst, (hother .workTimeout rfl).trans hwork, (hother .linkBreak rfl).trans hlink⟩

/-- A raising sets the flag of the class its record would bear, and clears none (R126, R128). -/
theorem kept_raisedDev (c : DevClass) (hole : Option Nat) (head : Option Slot) (a b : Int)
    (hd : s.dev.kept) : (raisedDev s c hole head a b).kept := by
  obtain ⟨hfirst, hwork, hlink⟩ := hd
  refine ⟨?_, hwork, hlink⟩
  cases hf : s.dev.first with
  | none => simp [raisedDev, hf]
  | some f =>
    have hflag : s.dev.flags[f.cls.index] = true := by simpa [hf] using hfirst
    have hstands : (raisedDev s c hole head a b).flags[f.cls.index] = true := by
      rw [raisedDev_flags, hflag, Bool.true_or]
    simpa [raisedDev, hf] using hstands

/-! ### Changes that keep the laws -/

/-- What the laws of the parameters and the Deviation Unit read of a state. -/
def State.settings (s : State) : Params × DeviationUnit := (s.params, s.dev)

/-- A change that keeps the parameters in their ranges and the laws of the Deviation Unit. -/
structure State.KeepsSettings (s t : State) : Prop where
  params : s.params.kept → t.params.kept
  dev : s.dev.kept → t.dev.kept

theorem State.KeepsSettings.same (h : t.settings = s.settings) : s.KeepsSettings t := by
  obtain ⟨hparams, hdev⟩ := Prod.mk.inj h
  exact ⟨fun hs => hparams ▸ hs, fun hs => hdev ▸ hs⟩

theorem State.KeepsSettings.refl (s : State) : s.KeepsSettings s := .same rfl

theorem State.KeepsSettings.trans (h : s.KeepsSettings t) (h' : t.KeepsSettings u) : s.KeepsSettings u :=
  ⟨h'.params ∘ h.params, h'.dev ∘ h.dev⟩

/-- The change is followed by one that writes neither. -/
theorem State.KeepsSettings.thenSame (h : s.KeepsSettings t) (h' : u.settings = t.settings) :
    s.KeepsSettings u := h.trans (.same h')

theorem State.KeepsSettings.foldl {α : Type} {f : State → α → State}
    (hf : ∀ (u : State) (a : α), u.KeepsSettings (f u a)) (l : List α) (s : State) :
    s.KeepsSettings (l.foldl f s) := by
  induction l generalizing s with
  | nil => exact .refl s
  | cons a l ih => exact (hf s a).trans (ih (f s a))

/-- The parameters are written within their ranges. -/
theorem State.KeepsSettings.setParams (h : s.params.Bounded → q.Bounded) :
    s.KeepsSettings (s.setParams q) :=
  ⟨fun hs => Params.kept_iff.2 (h (Params.kept_iff.1 hs)), id⟩

theorem State.raiseForHole_settings (s : State) (c : DevClass) (i : Nat) (h : Slot) (a b : Int) :
    s.KeepsSettings (s.raiseForHole c i h a b) := by
  rw [raiseForHole_eq]
  exact ⟨id, kept_raisedDev c _ _ a b⟩

theorem State.raiseUnbound_settings (s : State) (c : DevClass) (a b : Int) :
    s.KeepsSettings (s.raiseUnbound c a b) := by
  rw [raiseUnbound_eq]
  exact ⟨id, kept_raisedDev c _ _ a b⟩

theorem State.raiseIf_settings {p : Prop} [Decidable p] (s : State) (c : DevClass) (i : Nat) (h : Slot)
    (a b : Int) : s.KeepsSettings (if p then s.raiseForHole c i h a b else s) := by
  split
  · exact s.raiseForHole_settings c i h a b
  · exact .refl s

/-! ### The operations that write neither -/

section
variable (s : State)

@[simp] theorem State.makePending_settings (p : PortId) (k : NoticeKind) :
    (s.makePending p k).settings = s.settings := by rw [makePending_eq]; rfl
@[simp] theorem State.noteTrouble_settings (a b : HeadState) :
    (s.noteTrouble a b).settings = s.settings := by rw [noteTrouble_eq]; rfl
@[simp] theorem State.judgeFreeze_settings : s.judgeFreeze.settings = s.settings := rfl
@[simp] theorem State.writeLog_settings (i : Nat) (e : LogEvent) (a : Bool) :
    (s.writeLog i e a).settings = s.settings := by rw [writeLog_record]; rfl
@[simp] theorem State.changeHole_settings (i : Nat) (f : Hole → Hole) :
    (s.changeHole i f).settings = s.settings := rfl
@[simp] theorem State.testComplete_settings : s.testComplete.settings = s.settings := rfl
@[simp] theorem State.setPlan_settings (p : PlanStore) : (s.setPlan p).settings = s.settings := rfl
@[simp] theorem State.setHeat_settings (q : HeatQueue) : (s.setHeat q).settings = s.settings := rfl
@[simp] theorem State.setTerminal_settings (n : TermId) (r : Terminal) :
    (s.setTerminal n r).settings = s.settings := rfl
@[simp] theorem State.setPort_settings (p : PortId) (q : Port) : (s.setPort p q).settings = s.settings := rfl
@[simp] theorem State.startTimer_settings (h : Slot) (stage : TimerStage) (n : Nat) :
    (s.startTimer h stage n).settings = s.settings := rfl
@[simp] theorem State.setStatus_settings (h : Slot) (status : HeadStatus) :
    (s.setStatus h status).settings = s.settings := by rw [setStatus_eq]; rfl
@[simp] theorem State.setLastHold_settings (h : Slot) (i : Nat) (c : DevClass) :
    (s.setLastHold h i c).settings = s.settings := by rw [setLastHold_eq]; rfl
@[simp] theorem State.endMoveGrant_settings (h : Slot) (status : HeadStatus) :
    (s.endMoveGrant h status).settings = s.settings := by rw [endMoveGrant_eq]; rfl
@[simp] theorem State.endHoleGrant_settings (h : Slot) (g : HoleGrant) (spent : Bool)
    (status : HeadStatus) : (s.endHoleGrant h g spent status).settings = s.settings := by
  rw [endHoleGrant_eq]; rfl
@[simp] theorem State.endWithHold_settings (h : Slot) (hd : Head) (g : HoleGrant) (c : DevClass)
    (status : HeadStatus) : (s.endWithHold h hd g c status).settings = s.settings := by simp [endWithHold]
@[simp] theorem State.endWithReport_settings (h : Slot) (hd : Head) (g : HoleGrant) (spent : Bool)
    (held : Option DevClass) (done : HoleState) (event : LogEvent) :
    (s.endWithReport h hd g spent held done event).settings = s.settings := by
  unfold endWithReport
  split
  · simp
  · simp only
    split <;> simp
@[simp] theorem State.putDown_settings (h : Slot) (hd : Head) (x : Int) :
    (s.putDown h hd x).settings = s.settings := State.noteTrouble_settings _ _ _
@[simp] theorem State.detachHead_settings (h : Slot) (r : Rail) :
    (s.detachHead h r).settings = s.settings := rfl
@[simp] theorem State.setPhase_settings (h : Slot) (phase : SetPhase) :
    (s.setPhase h phase).settings = s.settings := by
  unfold setPhase
  split
  · split <;> rfl
  · rfl
@[simp] theorem State.ramCapture_settings (h : Slot) : (s.ramCapture h).settings = s.settings := by
  unfold ramCapture
  split
  · split
    · split <;> simp
    · rfl
  · rfl
@[simp] theorem State.latchEdge_settings (n : TermId) : (s.latchEdge n).settings = s.settings := by
  unfold latchEdge
  simp only
  split
  · split <;> simp
  · rfl
@[simp] theorem State.appendReply_settings (p : PortId) (kind : Byte) (r : Reply) :
    (s.appendReply p kind r).settings = s.settings := rfl
@[simp] theorem State.sendNotices_settings : s.sendNotices.settings = s.settings := by
  have hsent := s.sendNotices_eq
  generalize s.sendNotices = t at hsent ⊢
  rw [hsent]
  rfl
@[simp] theorem State.tick_settings : s.tick.settings = s.settings := by
  unfold tick
  split
  · rfl
  · simp only
    split <;> rfl

/-- A fold of operations that write neither writes neither. -/
theorem State.foldl_settings {α : Type} {f : State → α → State}
    (hf : ∀ u a, (f u a).settings = u.settings) (l : List α) :
    (l.foldl f s).settings = s.settings := by
  induction l generalizing s with
  | nil => rfl
  | cons a l ih => exact (ih (f s a)).trans (hf s a)

end

end Sys2Proof.Machine
end

section
/-! SUPPORT. The events and the rules of the messages keep the parameters in their ranges and the laws of the
Deviation Unit. Most write neither; the others raise a class, or write within a range. -/

namespace Sys2Proof.Machine

variable (s : State)

/-! ### A raising, and a grant that ends by it (R15, R87, R101) -/

theorem State.raiseAndHold_settings (c : DevClass) (h : Slot) (hd : Head) (g : HoleGrant)
    (status : HeadStatus) (a b : Int) :
    s.KeepsSettings ((s.raiseForHole c g.hole h a b).endWithHold h hd g c status) :=
  (s.raiseForHole_settings c g.hole h a b).thenSame (State.endWithHold_settings ..)

/-- A head's rail is judged and its trouble noted. -/
theorem State.KeepsSettings.judged {s t : State} (hst : s.KeepsSettings t) (a b : HeadState) :
    s.KeepsSettings (t.judgeFreeze.noteTrouble a b) :=
  hst.thenSame ((State.noteTrouble_settings ..).trans t.judgeFreeze_settings)

/-! ### Raisings of the Thermal Unit and the terminals (R30 to R33, R80, R150 to R155) -/

theorem State.raiseSubst_settings (ks : List Nat) : s.KeepsSettings (s.raiseSubst ks) :=
  .foldl (fun u _ => u.raiseUnbound_settings ..) ks s

theorem State.settled_settings (l : List Segment) (ks : List Nat) :
    s.KeepsSettings ((s.setThermal l).raiseSubst ks) :=
  .trans (t := s.setThermal l) (.same rfl) (raiseSubst_settings _ ks)

theorem State.expireDueHolds_settings : s.KeepsSettings s.expireDueHolds := by
  refine .foldl (fun u k => ?_) _ s
  split
  · exact u.settled_settings ..
  · exact .refl u

theorem State.judgeDrop_settings (bay : Nat) (h : Slot) : s.KeepsSettings (s.judgeDrop bay h) := by
  unfold judgeDrop
  split
  · exact .refl s
  · split
    · split
      · simp only
        split
        · exact s.raiseForHole_settings ..
        · exact (s.raiseAndHold_settings ..).thenSame (State.makePending_settings ..)
      · exact .refl s
    · exact .refl s

theorem State.clampDrop_settings (bay : Nat) : s.KeepsSettings (s.clampDrop bay) :=
  .foldl (fun u h => u.judgeDrop_settings bay h) _ s

theorem State.handOnEdge_settings (r : Terminal) (active : Bool) :
    s.KeepsSettings (s.handOnEdge r active) := by
  unfold handOnEdge
  split
  · split
    · exact .refl s
    · exact s.clampDrop_settings _
  · split
    · exact .same (s.ramCapture_settings _)
    · exact .refl s
  · exact .refl s

theorem State.acceptEdge_settings (n : TermId) (active : Bool) :
    s.KeepsSettings (s.acceptEdge n active) := by
  have hedge : s.KeepsSettings ((s.setTerminal n
      { s.terminals[n] with level := active, candidate := none }).handOnEdge s.terminals[n] active) :=
    .trans (.same (s.setTerminal_settings n _)) (handOnEdge_settings ..)
  unfold acceptEdge
  simp only
  split
  · exact hedge.thenSame (latchEdge_settings ..)
  · exact hedge

theorem State.acceptCandidate_settings (n : TermId) : s.KeepsSettings (s.acceptCandidate n) := by
  unfold acceptCandidate
  split
  · exact s.acceptEdge_settings n _
  · exact .refl s

theorem State.acceptDue_settings : s.KeepsSettings s.acceptDue := by
  refine .foldl (fun u n => ?_) _ s
  split
  · exact u.acceptCandidate_settings n
  · exact .refl u

theorem State.changePin_settings (n : TermId) (high : Bool) : s.KeepsSettings (s.changePin n high) := by
  have hterm : ∀ r, s.KeepsSettings ((s.setPin n high).setTerminal n r) := fun _ => .same rfl
  unfold changePin
  simp only
  split
  · unfold judgeRaw
    simp only
    split
    · exact hterm _
    · split
      · exact (hterm _).trans (acceptEdge_settings ..)
      · exact hterm _
  · exact .same rfl

theorem State.takeSample_settings (n : TermId) (code : ProbeCode) :
    s.KeepsSettings (s.takeSample n code) := by
  have hterm : ∀ r, s.KeepsSettings (s.setTerminal n r) := fun _ => .same rfl
  unfold takeSample
  simp only
  split
  · split
    · exact (hterm _).trans (settled_settings ..)
    · exact hterm _
  · split
    · exact (hterm _).trans (settled_settings ..)
    · exact hterm _

theorem State.leaveMode_settings (n : TermId) (old : Terminal) : s.KeepsSettings (s.leaveMode n old) := by
  unfold leaveMode
  split
  · split
    · split
      · exact s.clampDrop_settings _
      · exact .refl s
    · exact .refl s
  · split
    · exact s.settled_settings ..
    · exact .refl s
  · exact .refl s

/-! ### Raisings of the heads (R69, R73, R75, R76, R82, R86) -/

theorem State.grantHole_settings (h : Slot) (hd : Head) (c : Eligible) :
    s.KeepsSettings (s.grantHole h hd c).1 := by
  have hraised := s.raiseForHole_settings .thermalLimit c.index h c.target.dRaw s.params.corrLimit
  unfold grantHole
  split
  · simp only
    split
    · exact hraised.thenSame (by simp [holdAtLimit])
    · exact hraised.thenSame rfl
  · exact .same rfl

theorem ruleTake_settings (h : Slot) (b : List Byte) : s.KeepsSettings (ruleTake h b s).1 := by
  unfold ruleTake
  split
  · exact .refl s
  · split
    · exact .refl s
    · unfold State.takeHole
      split
      · exact .refl s
      · split
        · exact .refl s
        · split
          · exact .refl s
          · split
            · exact .refl s
            · exact s.grantHole_settings ..

theorem ruleNext_settings (h : Slot) : s.KeepsSettings (ruleNext h s).1 := by
  unfold ruleNext
  split
  · exact .refl s
  · split
    · exact .refl s
    · unfold State.nextHole
      split
      · exact .refl s
      · split
        · exact .refl s
        · exact s.grantHole_settings ..

theorem State.judgeArrival_settings (h : Slot) (hd : Head) (g : HoleGrant) :
    s.KeepsSettings (s.judgeArrival h hd g).1 := by
  unfold judgeArrival
  split
  · exact .refl s
  · simp only
    split
    · exact s.raiseForHole_settings ..
    · exact s.raiseAndHold_settings ..

theorem ruleArrived_settings (h : Slot) : s.KeepsSettings (ruleArrived h s).1 := by
  have htimer : ∀ (hd : Head) (x : Int) (status : HeadStatus) (n : Nat),
      s.KeepsSettings ((s.standAt h hd x status).startTimer h .work n) := fun _ _ _ _ => .same rfl
  unfold ruleArrived
  split
  · exact .refl s
  · split
    · exact .same rfl
    · exact (htimer ..).trans (State.judgeArrival_settings ..)
    · exact .refl s

theorem ruleDrillDone_settings (h : Slot) (b : List Byte) : s.KeepsSettings (ruleDrillDone h b s).1 := by
  have hwrite : ∀ i f, s.KeepsSettings (s.changeHole i f) := fun _ _ => .same rfl
  unfold ruleDrillDone
  split
  · exact .refl s
  · split
    · split_ifs
      · exact .refl s
      · exact .refl s
      · split
        · exact .refl s
        · exact (((hwrite _ _).trans (State.raiseIf_settings ..)).trans (State.raiseIf_settings ..)).thenSame
            (State.endWithReport_settings ..)
    · exact .refl s

theorem State.setReport_settings (h : Slot) (hd : Head) (g : HoleGrant) (r : Rivet) (ram : Option Nat) :
    s.KeepsSettings (s.setReport h hd g r ram).1 := by
  have hwrite : ∀ f, s.KeepsSettings (s.changeHole g.hole f) := fun _ => .same rfl
  unfold setReport
  refine .thenSame ?_ (endWithReport_settings ..)
  split
  · exact (hwrite _).trans (raiseForHole_settings ..)
  · exact (hwrite _).trans (raiseForHole_settings ..)
  · exact hwrite _

theorem ruleSetDone_settings (h : Slot) : s.KeepsSettings (ruleSetDone h s).1 := by
  unfold ruleSetDone
  split
  · exact .refl s
  · split
    · split
      · exact .refl s
      · split
        · exact s.setReport_settings ..
        · exact s.setReport_settings ..
        · exact .refl s
    · exact .refl s

theorem State.expireTimer_settings (h : Slot) : s.KeepsSettings (s.expireTimer h) := by
  unfold expireTimer
  split
  · exact .refl s
  · simp only
    split
    · exact ((s.raiseAndHold_settings ..).thenSame (State.makePending_settings ..)).judged _ _
    · exact .same (by simp)

theorem State.linkBreak_settings (h : Slot) : s.KeepsSettings (s.linkBreak h) := by
  unfold linkBreak
  split
  · exact .refl s
  · simp only
    split
    · exact .refl s
    · exact .refl s
    · exact (s.raiseAndHold_settings ..).judged _ _
    · exact (s.raiseAndHold_settings ..).judged _ _
    · exact .same (by simp)
    · exact .same (by simp)
    · exact .same (by simp)

theorem State.takeBreak_settings (p : PortId) : s.KeepsSettings (s.takeBreak p) := by
  have hport : s.KeepsSettings (s.setPort p s.ports[p].afterBreak) := .same rfl
  unfold takeBreak
  simp only
  split
  · exact hport.trans (linkBreak_settings _ _)
  · exact hport

/-! ### Heads without a raising (R64, R68, R72, R77, R83 to R85) -/

theorem ruleAttach_settings (h : Slot) (b : List Byte) : (ruleAttach h b s).1.settings = s.settings := by
  unfold ruleAttach
  split
  · rfl
  · split
    · split
      · unfold State.attachHead
        simp only
        split <;> rfl
      · rfl
    · rfl

theorem ruleDetach_settings (h : Slot) : (ruleDetach h s).1.settings = s.settings := by
  unfold ruleDetach
  split
  · rfl
  · split <;> rfl

theorem ruleMove_settings (h : Slot) (b : List Byte) : (ruleMove h b s).1.settings = s.settings := by
  unfold ruleMove
  split
  · rfl
  · split
    · rfl
    · unfold State.moveTo
      split
      · rfl
      · split <;> rfl

theorem ruleProgress_settings (h : Slot) : (ruleProgress h s).1.settings = s.settings := by
  unfold ruleProgress
  split
  · rfl
  · split <;> rfl

theorem ruleAbandon_settings (h : Slot) : (ruleAbandon h s).1.settings = s.settings := by
  unfold ruleAbandon
  split
  · rfl
  · split <;> simp [State.abandonHole, refuse]

theorem ruleHaltAt_settings (h : Slot) (b : List Byte) : (ruleHaltAt h b s).1.settings = s.settings := by
  unfold ruleHaltAt
  split
  · rfl
  · split_ifs <;> simp [refuse]

theorem ruleHeadRecover_settings (b : List Byte) : (ruleHeadRecover b s).1.settings = s.settings := by
  unfold ruleHeadRecover
  split
  · split
    · unfold State.recoverHead
      split
      · rfl
      · split
        · rfl
        · simp only
          split <;> simp [refuseOverlap]
    · rfl
  · rfl

theorem ruleHeadEvict_settings (b : List Byte) : (ruleHeadEvict b s).1.settings = s.settings := by
  unfold ruleHeadEvict
  split
  · rfl
  · split
    · rfl
    · split <;> simp [refuse]

/-! ### The tray (R106 to R114) -/

theorem ruleFeed_settings (h : Slot) : (ruleFeed h s).1.settings = s.settings := by
  unfold ruleFeed
  split
  · rfl
  · split
    · split_ifs
      · rfl
      · rfl
      · split
        · rfl
        · unfold State.feedHead
          split <;> simp
    · rfl

theorem State.placeRivet_settings (c : RivetClass) : (s.placeRivet c).1.settings = s.settings := by
  unfold placeRivet
  simp only
  split
  · simp [handOver]
  · split_ifs <;> rfl

theorem ruleRivetOut_settings (b : List Byte) : s.KeepsSettings (ruleRivetOut b s).1 := by
  unfold ruleRivetOut
  simp only
  split
  · exact .refl s
  · split
    · exact .refl s
    · split_ifs
      · exact .refl s
      · exact s.raiseUnbound_settings ..
      · exact .same (s.placeRivet_settings _)

theorem State.expireClass_settings (c : RivetClass) : (s.expireClass c).settings = s.settings :=
  s.foldl_settings (f := fun acc v => acc.setHeat (acc.heat.expire v)) (fun _ _ => rfl) _

/-! ### The Plan Store (Chapter 1) -/

theorem rulePlanBegin_settings (b : List Byte) : (rulePlanBegin b s).1.settings = s.settings := by
  unfold rulePlanBegin
  split_ifs <;> rfl

theorem rulePlanSegment_settings (b : List Byte) : (rulePlanSegment b s).1.settings = s.settings := by
  unfold rulePlanSegment
  simp only
  split
  · rfl
  · split
    · rfl
    · split_ifs <;> rfl

theorem rulePlanBay_settings (b : List Byte) : (rulePlanBay b s).1.settings = s.settings := by
  unfold rulePlanBay
  simp only
  split_ifs <;> rfl

theorem rulePlanHole_settings (b : List Byte) : (rulePlanHole b s).1.settings = s.settings := by
  unfold rulePlanHole
  split
  · rfl
  · split
    · rfl
    · split <;> rfl

theorem rulePlanSeal_settings : s.KeepsSettings (rulePlanSeal s).1 := by
  have hseal : s.KeepsSettings (s.setPlan { s.plan with state := .ready }) := .same rfl
  unfold rulePlanSeal
  split
  · exact .refl s
  · split
    · exact .refl s
    · exact hseal.trans (State.settled_settings ..)

theorem rulePlanAbort_settings : (rulePlanAbort s).1.settings = s.settings := by
  unfold rulePlanAbort
  split <;> rfl

theorem rulePlanRead_settings (b : List Byte) : (rulePlanRead b s).1.settings = s.settings := by
  unfold rulePlanRead
  split_ifs <;> rfl

theorem ruleDatum_settings (b : List Byte) : (ruleDatum b s).1.settings = s.settings := by
  unfold ruleDatum
  split_ifs <;> rfl

theorem ruleHoleReleaseRedo_settings (b : List Byte) :
    (ruleHoleReleaseRedo b s).1.settings = s.settings := by
  unfold ruleHoleReleaseRedo
  split_ifs
  · rfl
  · rfl
  · split
    · rfl
    · split <;> rfl

theorem State.acceptHole_settings (i : Nat) (x : Hole) (event : LogEvent) :
    (s.acceptHole i x event).settings = s.settings := by
  unfold acceptHole
  simp only
  split <;> simp

theorem ruleHoleReleaseAccept_settings (b : List Byte) :
    (ruleHoleReleaseAccept b s).1.settings = s.settings := by
  unfold ruleHoleReleaseAccept
  split
  · rfl
  · split
    · rfl
    · split
      · rfl
      · split
        · rfl
        · split
          · rfl
          · split
            · rfl
            · exact s.acceptHole_settings ..

theorem ruleHoleExcuse_settings (b : List Byte) : (ruleHoleExcuse b s).1.settings = s.settings := by
  unfold ruleHoleExcuse
  split
  · rfl
  · split
    · rfl
    · split
      · rfl
      · split_ifs
        · rfl
        · rfl
        · simp [State.excuseHole]

theorem ruleFrameEnd_settings : (ruleFrameEnd s).1.settings = s.settings := by
  unfold ruleFrameEnd
  split_ifs <;> rfl

/-! ### Fences, deviations, the log and the queries -/

theorem ruleFenceSet_settings (b : List Byte) : (ruleFenceSet b s).1.settings = s.settings := by
  unfold ruleFenceSet
  simp only
  split
  · split
    · split <;> rfl
    · rfl
  · rfl

theorem ruleFenceClear_settings (b : List Byte) : (ruleFenceClear b s).1.settings = s.settings := by
  unfold ruleFenceClear
  split
  · rfl
  · split <;> rfl

theorem ruleDevMode_settings (b : List Byte) : s.KeepsSettings (ruleDevMode b s).1 := by
  unfold ruleDevMode
  split
  · split
    · exact .refl s
    · rename_i hfixed
      exact ⟨id, DeviationUnit.kept_setMode (Bool.eq_false_of_not_eq_true hfixed) _⟩
  · exact .refl s

theorem ruleDevClear_settings (b : List Byte) : s.KeepsSettings (ruleDevClear b s).1 := by
  unfold ruleDevClear
  split
  · exact .refl s
  · exact ⟨id, DeviationUnit.kept_clear _⟩

theorem ruleLogRead_settings (b : List Byte) : (ruleLogRead b s).1.settings = s.settings := by
  unfold ruleLogRead
  simp only
  split <;> rfl

theorem ruleGetParam_settings (b : List Byte) : (ruleGetParam b s).1.settings = s.settings := by
  unfold ruleGetParam
  split <;> rfl

theorem ruleLineQuery_settings (b : List Byte) : (ruleLineQuery b s).1.settings = s.settings := by
  unfold ruleLineQuery
  split <;> rfl

/-! ### Terminals (R149, R150, R154, R161) -/

theorem ruleTermConfig_settings (b : List Byte) : s.KeepsSettings (ruleTermConfig b s).1 := by
  unfold ruleTermConfig
  split
  · exact .refl s
  · split_ifs
    · exact .refl s
    · exact .refl s
    · exact .refl s
    · exact .trans (.same (s.setTerminal_settings _ _)) (State.leaveMode_settings ..)

theorem ruleTermWrite_settings (b : List Byte) : (ruleTermWrite b s).1.settings = s.settings := by
  unfold ruleTermWrite
  split <;> rfl

theorem ruleTermAck_settings (b : List Byte) : (ruleTermAck b s).1.settings = s.settings := by
  unfold ruleTermAck
  split
  · rfl
  · exact s.foldl_settings (f := fun acc n => acc.setTerminal n { acc.terminals[n] with pending := false })
      (fun _ _ => rfl) _

theorem ruleTermRead_settings (b : List Byte) : (ruleTermRead b s).1.settings = s.settings := by
  unfold ruleTermRead
  split <;> rfl

/-! ### Characters (R167 to R169) -/

theorem State.receiveCharacter_settings (p : PortId) (mark : Bool) (data : Byte) (stopHigh : Bool) :
    (s.receiveCharacter p mark data stopHigh).settings = s.settings := by
  unfold receiveCharacter
  simp only
  split <;> simp

end Sys2Proof.Machine
end

section
/-! SUPPORT. Every step keeps the parameters in their ranges and the laws of the Deviation Unit: the writes of
a parameter, then the table of commands (R105, R125, R128, R144, R178). -/

namespace Sys2Proof.Machine

variable {s t u : State} {b : List Byte}

/-! ### Writes of a parameter (R178) -/

/-- What a write does, it does with a value in the range of its id. -/
theorem State.writeParam_settings {effect : Nat → State}
    (he : ∀ lo hi v, paramRange (u8At b 0) = some (lo, hi) → lo ≤ v → v ≤ hi → s.KeepsSettings (effect v)) :
    s.KeepsSettings (s.writeParam b effect).1 := by
  unfold writeParam
  split
  · exact .refl s
  · rename_i lo hi hr
    obtain ⟨-, -, hle⟩ := paramRange_bounds hr
    obtain ⟨hlo, hhi⟩ := saturate_bounds hle (writtenValue b)
    exact he lo hi _ hr hlo hhi

/-- A write of a parameter whose id, and so whose range, is known. -/
theorem State.writeParam_settings_of_range {effect : Nat → State} {lo hi : Nat}
    (hr : paramRange (u8At b 0) = some (lo, hi))
    (he : ∀ v, lo ≤ v → v ≤ hi → s.KeepsSettings (effect v)) : s.KeepsSettings (s.writeParam b effect).1 :=
  writeParam_settings fun lo' hi' v hr' => by
    obtain ⟨rfl, rfl⟩ := Prod.mk.inj (Option.some.inj (hr.symm.trans hr'))
    exact he v

theorem ruleSetParam_settings (s : State) (b : List Byte) : s.KeepsSettings (ruleSetParam b s).1 :=
  State.writeParam_settings fun _ _ _ hr hlo hhi => .setParams fun hq => hq.put hr hlo hhi

theorem ruleSetProbeHold_settings (s : State) (hid : u8At b 0 = 3) :
    s.KeepsSettings (ruleSetProbeHold b s).1 :=
  State.writeParam_settings_of_range (by rw [hid]; rfl) fun v _ hhi =>
    .trans (t := s.setParams { s.params with probeHold := v })
      (.setParams fun hq => { hq with probeHold := hhi }) (State.expireDueHolds_settings _)

theorem ruleSetStaleAction_settings (s : State) (b : List Byte) :
    s.KeepsSettings (ruleSetStaleAction b s).1 :=
  State.writeParam_settings fun _ _ v _ _ _ =>
    .thenSame (t := s.setParams { s.params with staleFreeze := decide (v = 1) })
      (.setParams fun hq => { hq with }) (State.judgeFreeze_settings _)

theorem ruleSetHeatMin_settings (s : State) (hid : u8At b 0 = 13) :
    s.KeepsSettings (ruleSetHeatMin b s).1 :=
  State.writeParam_settings_of_range (by rw [hid]; rfl) fun v hlo hhi => .setParams fun hq => by
    obtain ⟨-, -, hmax⟩ := hq.heatWindow
    exact { hq with heatWindow := ⟨hlo, Nat.le_max_left .., Nat.max_le.2 ⟨hhi, hmax⟩⟩ }

theorem ruleSetHeatMax_settings (s : State) (hid : u8At b 0 = 14) :
    s.KeepsSettings (ruleSetHeatMax b s).1 :=
  State.writeParam_settings_of_range (by rw [hid]; rfl) fun v hlo hhi => .setParams fun hq => by
    obtain ⟨hmin, -, -⟩ := hq.heatWindow
    exact { hq with heatWindow := ⟨Nat.le_min.2 ⟨hlo, hmin⟩, Nat.min_le_left .., hhi⟩ }

theorem paramRange_budget {id : Nat} (hid : id ∈ [15, 16, 17, 18, 19, 20]) :
    paramRange id = some (50, 1200) := by
  revert id
  decide

theorem ruleSetBudget_settings (s : State) (hid : u8At b 0 ∈ [15, 16, 17, 18, 19, 20]) :
    s.KeepsSettings (ruleSetBudget b s).1 :=
  State.writeParam_settings_of_range (paramRange_budget hid) fun v hlo hhi =>
    .thenSame (t := s.setParams { s.params with budgets := s.params.budgets.set (budgetClass (u8At b 0)) v })
      (.setParams fun hq => hq.setBudget _ hlo hhi) (State.expireClass_settings _ _)

theorem ruleSetLogThreshold_settings (s : State) (b : List Byte) :
    s.KeepsSettings (ruleSetLogThreshold b s).1 :=
  .setParams fun hq => { hq with logThreshold := roundThreshold_mem _ }

theorem ruleSetDebounceMs_settings (s : State) (hid : u8At b 0 = 22) :
    s.KeepsSettings (ruleSetDebounceMs b s).1 :=
  State.writeParam_settings_of_range (by rw [hid]; rfl) fun v _ hhi =>
    .trans (t := s.setParams { s.params with debounceMs := v })
      (.setParams fun hq => { hq with debounceMs := hhi }) (State.acceptDue_settings _)

/-! ### Takings and events -/

theorem takeMessage_settings {p : PortId} {kind : Byte} {rule : State → Taken}
    (hr : ∀ u : State, u.KeepsSettings (rule u).1) (h : takeMessage p kind b rule s = .next t) :
    s.KeepsSettings t := by
  have hjudged : ∀ (m : Message) (u : State), u.KeepsSettings (judgeMessage p m rule u).1 := fun m u => by
    unfold judgeMessage
    split_ifs
    · exact .refl u
    · exact .refl u
    · exact hr u
  rcases takeMessage_cases h with ht | ⟨-, ht⟩ <;> rw [ht]
  · exact .refl s
  · exact ((State.KeepsSettings.same (s.setPort_settings p _)).trans (hjudged _ _)).thenSame
      ((State.sendNotices_settings _).trans (State.appendReply_settings ..))

/-- A message whose rule writes neither. -/
theorem takeMessage_same {p : PortId} {kind : Byte} {rule : State → Taken}
    (hr : ∀ u : State, (rule u).1.settings = u.settings) (h : takeMessage p kind b rule s = .next t) :
    s.KeepsSettings t := takeMessage_settings (fun u => .same (hr u)) h

theorem takeEvent_settings {due : Bool} {effect : State → State}
    (he : ∀ u : State, u.KeepsSettings (effect u)) (h : takeEvent due effect s = .next t) :
    s.KeepsSettings t := by
  rcases takeEvent_cases h with ht | ⟨-, -, ht⟩ <;> rw [ht]
  · exact .refl s
  · exact (he s).thenSame (State.sendNotices_settings _)

/-- An event that writes neither. -/
theorem takeEvent_same {due : Bool} {effect : State → State}
    (he : ∀ u : State, (effect u).settings = u.settings) (h : takeEvent due effect s = .next t) :
    s.KeepsSettings t := takeEvent_settings (fun u => .same (he u)) h

/-- An event of a line or a pin follows the level while RESET_N is low, and is taken otherwise. -/
theorem levelOrEvent_settings {due : Bool} {effect : State → State} (hu : u.settings = s.settings)
    (he : ∀ v : State, v.KeepsSettings (effect v))
    (h : (if s.inReset then .next u else takeEvent due effect s) = Host.Outcome.next t) :
    s.KeepsSettings t := by
  split at h
  · exact Host.Outcome.next.inj h ▸ .same hu
  · exact takeEvent_settings he h

/-- A message that is a row's own is taken, and one of another row is ignored (log entry 7). -/
theorem ownRow_settings {own : Bool} {taken : Host.Outcome State Fault Refusal}
    (ht : own = true → taken = .next t → s.KeepsSettings t)
    (h : (if own then taken else .next s) = Host.Outcome.next t) : s.KeepsSettings t := by
  split at h
  · exact ht ‹_› h
  · exact Host.Outcome.next.inj h ▸ .refl s

theorem otherRow_settings {own : Bool} {taken : Host.Outcome State Fault Refusal}
    (ht : taken = .next t → s.KeepsSettings t)
    (h : (if own then .next s else taken) = Host.Outcome.next t) : s.KeepsSettings t := by
  split at h
  · exact Host.Outcome.next.inj h ▸ .refl s
  · exact ht h

/-- A write of a row's own ids: the id its payload names is one of them. -/
theorem ownWrite_settings {ids : List Nat} {rule : State → Taken}
    (hr : u8At b 0 ∈ ids → ∀ u : State, u.KeepsSettings (rule u).1)
    (h : (if writesOneOf ids b then takeMessage supervisorPort kindSetParam b rule s else .next s)
      = .next t) : s.KeepsSettings t := by
  refine ownRow_settings (fun hown => takeMessage_settings (hr ?_)) h
  simp only [writesOneOf, Bool.and_eq_true, List.contains_iff_mem] at hown
  exact hown.2

/-! ### The commands and the step -/

/-- The defaults are in their ranges, and no deviation stands at power-on (R125, R163, R178). -/
theorem execPowerOn_settings (h : execPowerOn s = .next t) : s.KeepsSettings t := by
  obtain rfl := Host.Outcome.next.inj h
  have hparams : State.reset.params.kept := by decide
  have hdev : State.reset.dev.kept := by decide
  exact ⟨fun _ => hparams, fun _ => hdev⟩

/-- Every command keeps the parameters in their ranges and the laws of the Deviation Unit. -/
theorem exec_settings (c : Instr) (h : exec c s = .next t) : s.KeepsSettings t := by
  cases c with
  | powerOn => exact execPowerOn_settings h
  | resetNAssert => exact Host.Outcome.next.inj h ▸ .same rfl
  | attach slot b => exact takeMessage_same (fun u => ruleAttach_settings u slot b) h
  | detach slot b => exact takeMessage_same (fun u => ruleDetach_settings u slot) h
  | next slot b => exact takeMessage_settings (fun u => ruleNext_settings u slot) h
  | take slot b => exact takeMessage_settings (fun u => ruleTake_settings u slot b) h
  | move slot b => exact takeMessage_same (fun u => ruleMove_settings u slot b) h
  | arrived slot b => exact takeMessage_settings (fun u => ruleArrived_settings u slot) h
  | progress slot b => exact takeMessage_same (fun u => ruleProgress_settings u slot) h
  | abandon slot b => exact takeMessage_same (fun u => ruleAbandon_settings u slot) h
  | drillDone slot b => exact takeMessage_settings (fun u => ruleDrillDone_settings u slot b) h
  | feed slot b => exact takeMessage_same (fun u => ruleFeed_settings u slot) h
  | setDone slot b => exact takeMessage_settings (fun u => ruleSetDone_settings u slot) h
  | haltAt slot b => exact takeMessage_same (fun u => ruleHaltAt_settings u slot b) h
  | headQuery slot b => exact takeMessage_same (fun _ => rfl) h
  | planBegin b => exact takeMessage_same (fun u => rulePlanBegin_settings u b) h
  | planSegment b => exact takeMessage_same (fun u => rulePlanSegment_settings u b) h
  | planBay b => exact takeMessage_same (fun u => rulePlanBay_settings u b) h
  | planHole b => exact takeMessage_same (fun u => rulePlanHole_settings u b) h
  | planSeal b => exact takeMessage_settings rulePlanSeal_settings h
  | planAbort b => exact takeMessage_same rulePlanAbort_settings h
  | planRead b => exact takeMessage_same (fun u => rulePlanRead_settings u b) h
  | datum b => exact takeMessage_same (fun u => ruleDatum_settings u b) h
  | fenceSet b => exact takeMessage_same (fun u => ruleFenceSet_settings u b) h
  | fenceClear b => exact takeMessage_same (fun u => ruleFenceClear_settings u b) h
  | holeReleaseRedo b =>
    exact otherRow_settings (takeMessage_same fun u => ruleHoleReleaseRedo_settings u b) h
  | holeReleaseAccept b =>
    exact ownRow_settings (fun _ => takeMessage_same fun u => ruleHoleReleaseAccept_settings u b) h
  | holeExcuse b => exact takeMessage_same (fun u => ruleHoleExcuse_settings u b) h
  | headRecover b => exact takeMessage_same (fun u => ruleHeadRecover_settings u b) h
  | headEvict b => exact takeMessage_same (fun u => ruleHeadEvict_settings u b) h
  | devMode b => exact takeMessage_settings (fun u => ruleDevMode_settings u b) h
  | devClear b => exact takeMessage_settings (fun u => ruleDevClear_settings u b) h
  | devRead b => exact takeMessage_same (fun _ => rfl) h
  | logRead b => exact takeMessage_same (fun u => ruleLogRead_settings u b) h
  | setParam b => exact otherRow_settings (takeMessage_settings fun u => ruleSetParam_settings u b) h
  | setParamProbeHold b =>
    exact ownWrite_settings (fun hid u => ruleSetProbeHold_settings u (List.mem_singleton.1 hid)) h
  | setParamStaleAction b => exact ownWrite_settings (fun _ u => ruleSetStaleAction_settings u b) h
  | setParamHeatMin b =>
    exact ownWrite_settings (fun hid u => ruleSetHeatMin_settings u (List.mem_singleton.1 hid)) h
  | setParamHeatMax b =>
    exact ownWrite_settings (fun hid u => ruleSetHeatMax_settings u (List.mem_singleton.1 hid)) h
  | setParamBudget b => exact ownWrite_settings (fun hid u => ruleSetBudget_settings u hid) h
  | setParamLogThreshold b => exact ownWrite_settings (fun _ u => ruleSetLogThreshold_settings u b) h
  | setParamDebounceMs b =>
    exact ownWrite_settings (fun hid u => ruleSetDebounceMs_settings u (List.mem_singleton.1 hid)) h
  | getParam b => exact takeMessage_same (fun u => ruleGetParam_settings u b) h
  | termConfig b => exact takeMessage_settings (fun u => ruleTermConfig_settings u b) h
  | termWrite b => exact takeMessage_same (fun u => ruleTermWrite_settings u b) h
  | termRead b => exact takeMessage_same (fun u => ruleTermRead_settings u b) h
  | termAck b => exact takeMessage_same (fun u => ruleTermAck_settings u b) h
  | heaterClear b => exact takeMessage_same (fun _ => rfl) h
  | frameEnd b => exact takeMessage_same ruleFrameEnd_settings h
  | lineQuery b => exact takeMessage_same (fun u => ruleLineQuery_settings u b) h
  | rivetOut b => exact takeMessage_settings (fun u => ruleRivetOut_settings u b) h
  | heaterQuery b => exact takeMessage_same (fun _ => rfl) h
  | motionTimerExpiry slot => exact takeEvent_settings (fun u => u.expireTimer_settings slot) h
  | holdExpiry k => exact takeEvent_settings (fun u => u.settled_settings ..) h
  | rivetExpiry serial => exact takeEvent_same (fun u => u.setHeat_settings _) h
  | rawChange n high =>
    exact levelOrEvent_settings (u := s.setPin n high) rfl (fun u => u.changePin_settings n high) h
  | acceptance n => exact takeEvent_settings (fun u => u.acceptCandidate_settings n) h
  | probeSample n code => exact takeEvent_settings (fun u => u.takeSample_settings n code) h
  | characterArrival p mark data stopHigh =>
    exact levelOrEvent_settings (s.setPort_settings p _)
      (fun u => .same (u.receiveCharacter_settings p mark data stopHigh)) h
  | gapExpiry p => exact takeEvent_same (fun u => u.setPort_settings p _) h
  | inBreak p => exact takeEvent_same (fun u => u.setPort_settings p _) h
  | breakReturn p => exact levelOrEvent_settings (s.setPort_settings p _) (fun u => u.takeBreak_settings p) h
  | frameSent p => exact takeEvent_same (fun u => u.setPort_settings p _) h
  | unknownKindMessage p kind b => exact otherRow_settings (takeMessage_same fun _ => rfl) h
  | frameTransmitStart p => exact takeEvent_same (fun u => u.setPort_settings p _) h
  | receiveLineFall p =>
    exact levelOrEvent_settings (s.setPort_settings p _) (fun u => .same (u.setPort_settings p _)) h

/-- Settles O13: a command writes neither, writes a parameter within its range, raises a class with its flag,
or clears or sets what R133 and R134 let it; the passing of time writes neither. -/
theorem stepKeepsParametersAndDeviations : Obligations.StepKeepsParametersAndDeviations := by
  intro s t hparams hdev h
  unfold step at h
  split at h
  · obtain rfl := Host.Outcome.next.inj h
    have hticked : s.KeepsSettings s.tick := .same s.tick_settings
    exact ⟨hticked.params hparams, hticked.dev hdev⟩
  · rename_i c rest _
    obtain ⟨hp, hd⟩ := exec_settings (s := { s with pending := rest }) c h
    exact ⟨hp hparams, hd hdev⟩

end Sys2Proof.Machine
end

section
/-! SUPPORT. What a raising leaves, and the messages DEV_MODE, DEV_CLEAR and LOG_READ (R126 to R128, R133, R134,
R143). -/

namespace Sys2Proof.Machine

variable {s : State} {b : List Byte}

/-! ### A raising (R126 to R128) -/

/-- Settles O39: each raising by its equation; the mark it makes changes no state, so it writes the hole table
alone. -/
theorem raisingFlagsMarksAndFillsTheFirst : Obligations.RaisingFlagsMarksAndFillsTheFirst := by
  refine ⟨fun s c i h a b hole hx => ?_, fun s c a b => s.raiseUnbound_eq c a b⟩
  intro t
  have ht : t = _ := s.raiseForHole_eq c i h a b
  have hplan : t.plan = s.plan.changeHole i (fun x => x.mark c) := s.raiseForHole_plan c i h a b
  refine ⟨?_, ?_, fun j hj => ?_, congrArg State.dev ht, congrArg State.ports ht, ?_⟩
  · rw [hplan, PlanStore.hole?_changeHole_of hx, Hole.mark_eq]
  · rw [hplan, ← PlanStore.changeHole_mark]
  · rw [hplan, PlanStore.hole?_changeHole_other _ _ hj]
  · rw [ht]

/-! ### DEV_MODE (R133) -/

theorem devClassOfCode_number (c : DevClass) : devClassOfCode c.number = some c := by cases c <;> rfl

theorem devModeOfCode_code (m : DevMode) : devModeOfCode m.code = some m := by cases m <;> rfl

theorem DevClass.fixed_iff (c : DevClass) : c.fixed = true ↔ c = .workTimeout ∨ c = .linkBreak := by
  cases c <;> simp [fixed]

theorem ruleDevMode_defined {c : DevClass} {m : DevMode} (hc : u8At b 0 = c.number)
    (hm : u8At b 1 = m.code) : ruleDevMode b s =
      if c.fixed then (s, ⟨.badField, 0, .none⟩)
      else (s.setDev (s.dev.setMode c m), ⟨.ok, 0, .modeInForce m⟩) := by
  simp only [ruleDevMode, hc, hm, devClassOfCode_number, devModeOfCode_code,
    refuse_eq (by decide : kindDevMode ≠ kindRivetOut)]

theorem execDevMode_answered {c : DevClass} {m : DevMode} (hready : s.ready supervisorPort kindDevMode b)
    (hl : b.length = 2) (hc : u8At b 0 = c.number) (hm : u8At b 1 = m.code) :
    execDevMode b s = .next (if c.fixed
      then { s with ports := repliedPorts s.ports supervisorPort kindDevMode ⟨.badField, 0, .none⟩ }
      else { s with
        dev := s.dev.setMode c m
        ports := repliedPorts s.ports supervisorPort kindDevMode ⟨.ok, 0, .modeInForce m⟩ }) := by
  have hrule := ruleDevMode_defined (s := s.dequeued supervisorPort) hc hm
  split_ifs at hrule ⊢
  · exact supervisor_refused (n := 2) hready (by decide) hl hrule
  · exact supervisor_answered (n := 2) hready (by decide) hl hrule rfl

/-! ### DEV_CLEAR (R134) -/

/-- The classes whose bits are set: bit c - 1 for class c (R179). -/
def classesOf (n : Nat) : List DevClass := allClasses.filter (fun c => n.testBit c.index.val)

theorem classSetOfCode_of_lt {n : Nat} (h : n < 1024) : classSetOfCode n = some (classesOf n) := if_pos h

theorem decide_mem_classesOf (n : Nat) (c : DevClass) :
    decide (c ∈ classesOf n) = n.testBit (c.number - 1) := by
  simp [classesOf, c.mem_allClasses, DevClass.number]

theorem ruleDevClear_defined (hset : u16At b 0 < 1024) :
    let d := s.dev.clear (classesOf (u16At b 0))
    ruleDevClear b s = (s.setDev d, ⟨.ok, 0, .flagsLeft d.flags d.first.isSome⟩) := by
  simp only [ruleDevClear, classSetOfCode_of_lt hset]

/-- The flags left are those whose class has no bit in the set, and so is the record (R134). -/
theorem execDevClear_cleared (hready : s.ready supervisorPort kindDevClear b) (hl : b.length = 2)
    (hset : u16At b 0 < 1024) : ∃ flags : Vector Bool 10,
      (∀ c : DevClass, flags[c.index] = (s.dev.flags[c.index] && !(u16At b 0).testBit (c.number - 1)))
      ∧ let first := s.dev.first.filter (fun f => !(u16At b 0).testBit (f.cls.number - 1))
        execDevClear b s = .next { s with
          dev := { s.dev with flags := flags, first := first }
          ports := repliedPorts s.ports supervisorPort kindDevClear
            ⟨.ok, 0, .flagsLeft flags first.isSome⟩ } := by
  have hfirst : (s.dev.clear (classesOf (u16At b 0))).first
      = s.dev.first.filter (fun f => !(u16At b 0).testBit (f.cls.number - 1)) := by
    simp only [DeviationUnit.clear_first, decide_mem_classesOf]
  have hrule := ruleDevClear_defined (s := s.dequeued supervisorPort) hset
  refine ⟨clearFlags s.dev.flags (classesOf (u16At b 0)), fun c => ?_, ?_⟩
  · rw [clearFlags_get, decide_mem_classesOf]
  · refine (supervisor_answered (n := 2) hready (by decide) hl hrule rfl).trans ?_
    rw [← hfirst]
    rfl

theorem execDevClear_undefined (hready : s.ready supervisorPort kindDevClear b) (hl : b.length = 2)
    (hset : 1024 ≤ u16At b 0) : execDevClear b s = .next { s with
      ports := repliedPorts s.ports supervisorPort kindDevClear ⟨.badField, 0, .none⟩ } := by
  refine supervisor_refused (n := 2) hready (by decide) hl ?_
  simp only [ruleDevClear, classSetOfCode, if_neg (Nat.not_lt.2 hset)]
  exact refuse_eq (by decide) _ _

/-! ### LOG_READ (R143) -/

theorem execLogRead_answered (hready : s.ready supervisorPort kindLogRead b) (hl : b.length = 1) :
    execLogRead b s = .next (if u8At b 0 = 1 ∨ u8At b 0 = 2
      then { s with
        log := { s.log with records := s.log.records.drop (u8At b 0) }
        ports := repliedPorts s.ports supervisorPort kindLogRead
          ⟨.ok, 0, .logRecords (s.log.records.take (u8At b 0)) (s.log.records.length - u8At b 0)⟩ }
      else { s with
        ports := repliedPorts s.ports supervisorPort kindLogRead ⟨.badField, 0, .none⟩ }) := by
  have hrange : inRange 1 2 (u8At b 0) = true ↔ u8At b 0 = 1 ∨ u8At b 0 = 2 := by
    rw [inRange_iff]
    omega
  split_ifs with hn
  · refine supervisor_answered (n := 1) (s' := (s.dequeued supervisorPort).setLog
      (s.log.dropOldest (u8At b 0))) hready (by decide) hl ?_ rfl
    simp [ruleLogRead, hrange.2 hn, CompletionLog.dropOldest]
  · refine supervisor_refused (n := 1) hready (by decide) hl ?_
    simp only [ruleLogRead, Bool.eq_false_of_not_eq_true (mt hrange.1 hn)]
    exact refuse_eq (by decide) _ _

/-- Settles O41: the three messages, each in the forms its rule accepts and refuses. -/
theorem modesFlagsAndRecordsAreHandled : Obligations.ModesFlagsAndRecordsAreHandled := by
  refine ⟨fun b s c m hready hl hc hm => ?_,
    fun b s hready hl => ⟨execDevClear_cleared hready hl, execDevClear_undefined hready hl⟩,
    fun b s => execLogRead_answered⟩
  rw [← if_congr c.fixed_iff rfl rfl]
  exact execDevMode_answered hready hl hc hm

end Sys2Proof.Machine
end

section
/-! SUPPORT. SET_DONE: the report, the class it may raise for its hole, and the end of the grant with the rivet
spent (R14, R76, R78, R115). -/

namespace Sys2Proof.Machine

variable {s : State} {h : Slot} {hd : Head} {g : HoleGrant} {r : Rivet} {ram : Option Nat}

/-! ### The raising of a set report (R76, R126 to R129) -/

/-- At most one class is raised for a hole, with its two details. -/
def State.raiseOne (s : State) (i : Nat) (h : Slot) : Option (DevClass × Nat × Nat) → State
  | none => s
  | some (c, a, b) => s.raiseForHole c i h a b

/-- The Deviation Unit after at most one raising for a hole. -/
def State.devRaised (s : State) (i : Nat) (h : Slot) : Option (DevClass × Nat × Nat) → DeviationUnit
  | none => s.dev
  | some (c, a, b) => raisedDev s c (some i) (some h) a b

theorem State.devRaised_changeHole (s : State) (f : Hole → Hole) (i : Nat) (h : Slot)
    (raised : Option (DevClass × Nat × Nat)) :
    (s.changeHole i f).devRaised i h raised = s.devRaised i h raised := by
  cases raised with
  | none => rfl
  | some c => simp only [devRaised, raisedDev, changeHole_plan, PlanStore.changeHole_header]; rfl

/-- The raising marks a hole that was written before without a change of its state. -/
theorem State.raiseOne_eq {q : PlanStore} {i : Nat} {f : Hole → Hole} (hf : ∀ x : Hole, x.SameStand (f x))
    (h : Slot) (raised : Option (DevClass × Nat × Nat)) (hp : s.plan = q.changeHole i f) :
    ∃ ports : Vector Port 10, OnlyPending s.ports ports ∧ s.raiseOne i h raised = { s with
      plan := q.changeHole i (fun x =>
        { f x with marks := joinMarks (f x).marks (raised.map Prod.fst).toList })
      dev := s.devRaised i h raised
      ports := ports } := by
  cases raised with
  | none => exact ⟨s.ports, OnlyPending.refl _, congrArg (fun p => { s with plan := p }) hp⟩
  | some c =>
    obtain ⟨c, a, b⟩ := c
    refine ⟨_, onlyPending_flagged s c, (s.raiseForHole_eq c i h a b).trans ?_⟩
    rw [hp, PlanStore.changeHole_changeHole _ _ _ hf]
    simp only [Hole.mark_eq]
    rfl

/-- A raising changes no mode, so the class holds the hole if it did before (R124, R131). -/
theorem State.raiseOne_holdingClass (s : State) (i : Nat) (h : Slot)
    (raised : Option (DevClass × Nat × Nat)) :
    (s.raiseOne i h raised).holdingClass (raised.map Prod.fst).toList
      = (raised.map Prod.fst).filter (fun c => s.modeOf c == .holding) := by
  cases raised with
  | none => rfl
  | some c =>
    obtain ⟨c, a, b⟩ := c
    have hmodes : (s.raiseForHole c i h a b).dev.modes = s.dev.modes := by
      rw [raiseForHole_eq]
      rfl
    refine (holdingClass_eq hmodes [c]).trans ?_
    cases hm : s.modeOf c <;> simp [hm, Option.filter]

/-- COLD_SET when the age at ram is above the budget, NO_RAM when no ram was captured (R76, R129). -/
def State.setRaised (s : State) (r : Rivet) : Option Nat → Option (DevClass × Nat × Nat)
  | none => some (.noRam, r.serial.toNat, (s.clock - r.heatOut).toNat)
  | some a => if s.budgetMs r.cls < a then some (.coldSet, a, s.budgetMs r.cls) else none

/-! ### The end of the grant (R14, R21, R78, R115) -/

/-- The completion test by the frame state it leaves (R21). -/
theorem PlanStore.testComplete_restate (q : PlanStore) : q.testComplete = { q with
    state := if q.state = .working ∧ q.counters.stateCounts[4] + q.counters.stateCounts[6] = q.holeCount
      then .complete else q.state } := by
  unfold testComplete
  split_ifs <;> simp_all [HoleState.code]

/-- A done report that spends the rivet: the hole is HELD or SET, the frame may be complete, and nothing is
scrapped (R14, R21, R78, R115). -/
theorem State.endWithReport_spent (s : State) (held : Option DevClass) (event : LogEvent) :
    let q := s.plan.changeHole g.hole (fun x => x.judged hd.kind held .set)
    ∃ ports : Vector Port 10, OnlyPending s.ports ports ∧
      s.endWithReport h hd g true held .set event = { s with
        plan := { q with
          state := if held = none ∧ q.state = .working ∧
              q.counters.stateCounts[4] + q.counters.stateCounts[6] = q.holeCount
            then .complete else q.state }
        heads := s.heads.set h (s.heads[h].map (fun hd => { hd with
          status := .idle
          lastHold := match held with
            | some c => some ⟨g.hole, c, s.clock⟩
            | none => hd.lastHold }))
        timers := s.timers.set h .stopped
        log :=
          { records := s.log.records ++ [⟨s.log.sequence, g.hole,
              (match held with
                | some c => .held h g.x none c
                | none => event), false, s.clock⟩]
            sequence := s.log.sequence + 1, inFlight := s.log.inFlight - 1 }
        heat := { s.heat with waiting := s.heat.waiting.filter (fun w => w ≠ h) }
        ports := ports } := by
  intro q
  have hpending := (onlyPending_endHoleGrant
    (s.changeHole g.hole (fun x => x.judged hd.kind held .set)) h g true .idle).trans
    (onlyPending_recorded _)
  refine ⟨_, hpending, ?_⟩
  cases held with
  | none =>
    have htest := q.testComplete_restate
    simp only [true_and]
    rw [← htest]
    simp only [endWithReport, writeLog_record, endHoleGrant_eq, HeatQueue.releaseHead_eq,
      Bool.not_true, Bool.and_false]
    rfl
  | some c =>
    simp only [endWithReport, writeLog_record, setLastHold_eq, endHoleGrant_eq, heads_set_set,
      HeatQueue.releaseHead_eq, Bool.not_true, Bool.and_false, reduceCtorEq, false_and, if_false]
    rfl

/-! ### SET_DONE (R14, R76) -/

/-- A hole with the set report of a SET_DONE and the classes raised for it (R14, R127). -/
def Hole.setReported (report : SetReport) (l : List DevClass) (x : Hole) : Hole :=
  { x with setReport := some report, marks := joinMarks x.marks l }

theorem Hole.sameStand_setReported (report : SetReport) (l : List DevClass) (x : Hole) :
    x.SameStand (x.setReported report l) := ⟨rfl, rfl, rfl⟩

/-- A set report is written, its class is raised, and under HOLDING that class judges the hole, by which the
grant ends (R76, R131). -/
theorem State.setReport_eq (s : State) :
    let raised := s.setRaised r ram
    let held := (raised.map Prod.fst).filter (fun c => s.modeOf c == .holding)
    let report : SetReport := ⟨h, r.serial, r.cls, ram, g.x, s.clock⟩
    s.setReport h hd g r ram =
      (((s.changeHole g.hole (Hole.withSetReport report)).raiseOne g.hole h raised).endWithReport h hd g true
          held .set (.set h g.x r.serial ram),
        ⟨doneCode held, 0, if held.isSome then .heldHole g.hole else .none⟩) := by
  intro raised held report
  have hheld : held = ((s.changeHole g.hole (Hole.withSetReport report)).raiseOne g.hole h
      raised).holdingClass (raised.map Prod.fst).toList :=
    (raiseOne_holdingClass (s.changeHole g.hole _) g.hole h raised).symm
  rw [hheld]
  unfold setReport
  cases ram with
  | none => rfl
  | some a =>
    by_cases hcold : s.budgetMs r.cls < a
    · have hraised : raised = some (.coldSet, a, s.budgetMs r.cls) := if_pos hcold
      rw [hraised]
      simp only [if_pos hcold]
      rfl
    · have hraised : raised = none := if_neg hcold
      rw [hraised]
      simp only [if_neg hcold]
      rfl

/-- What a SET_DONE leaves: the hole reported, marked and judged, the rivet spent and the grant ended (R14, R76,
R78, R115). -/
theorem State.setReport_ended (s : State) :
    let raised := s.setRaised r ram
    let held := (raised.map Prod.fst).filter (fun c => s.modeOf c == .holding)
    let report : SetReport := ⟨h, r.serial, r.cls, ram, g.x, s.clock⟩
    let q := s.plan.changeHole g.hole (fun x =>
      (x.setReported report (raised.map Prod.fst).toList).judged hd.kind held .set)
    ∃ ports : Vector Port 10, OnlyPending s.ports ports ∧ s.setReport h hd g r ram = ({ s with
        plan := { q with
          state := if held = none ∧ q.state = .working ∧
              q.counters.stateCounts[4] + q.counters.stateCounts[6] = q.holeCount
            then .complete else q.state }
        heads := s.heads.set h (s.heads[h].map (fun hd => { hd with
          status := .idle
          lastHold := match held with
            | some c => some ⟨g.hole, c, s.clock⟩
            | none => hd.lastHold }))
        timers := s.timers.set h .stopped
        log :=
          { records := s.log.records ++ [⟨s.log.sequence, g.hole,
              (match held with
                | some c => .held h g.x none c
                | none => .set h g.x r.serial ram), false, s.clock⟩]
            sequence := s.log.sequence + 1, inFlight := s.log.inFlight - 1 }
        heat := { s.heat with waiting := s.heat.waiting.filter (fun w => w ≠ h) }
        dev := s.devRaised g.hole h raised
        ports := ports }, ⟨doneCode held, 0, if held.isSome then .heldHole g.hole else .none⟩) := by
  intro raised held report q
  obtain ⟨raisedPorts, hflagged, hraise⟩ := raiseOne_eq (s := s.changeHole g.hole _)
    (Hole.sameStand_withSetReport report) h raised rfl
  rw [devRaised_changeHole] at hraise
  obtain ⟨ports, hrecorded, hend⟩ := endWithReport_spent (h := h) (hd := hd) (g := g)
    { s with
      plan := s.plan.changeHole g.hole (Hole.setReported report (raised.map Prod.fst).toList)
      dev := s.devRaised g.hole h raised
      ports := raisedPorts } held (.set h g.x r.serial ram)
  have hplan := PlanStore.changeHole_changeHole s.plan g.hole (fun x => x.judged hd.kind held .set)
    (Hole.sameStand_setReported report (raised.map Prod.fst).toList)
  rw [hplan] at hend
  refine ⟨ports, hflagged.trans hrecorded, (setReport_eq s).trans ?_⟩
  exact congrArg (fun v : State => (v, (⟨doneCode held, 0,
    if held.isSome then .heldHole g.hole else .none⟩ : Reply)))
    ((congrArg (fun u : State => u.endWithReport h hd g true held .set (.set h g.x r.serial ram))
      hraise).trans hend)

/-- The set phase of a head with a rivet, before and after its ram (R62). -/
def rivetPhase (r : Rivet) : Option Nat → SetPhase
  | none => .fed r
  | some a => .rammed r a

theorem ruleSetDone_rivet (hh : s.heads[h] = some hd) (hg : hd.status = .work g) (hk : hd.kind = .set)
    (hp : g.phase = some (rivetPhase r ram)) : ruleSetDone h s = s.setReport h hd g r ram := by
  cases ram <;> simp [ruleSetDone, hh, hg, hk, hp, rivetPhase]

theorem Hole.judged_set (x : Hole) (held : Option DevClass) :
    x.judged .set held .set = { x with
      state := if held.isSome then .held else .set
      grantHead := none, heldFrom := held.map (fun _ => .setting), heldClass := held } := by
  cases held <;> rfl

/-- Settles O35: a SET_DONE by its report, the class it may raise and the end of its grant. -/
theorem setDoneSpendsTheRivet : Obligations.SetDoneSpendsTheRivet := by
  intro h s hd g hole r ram ht hh hg hk hx hphase budget raised held
  obtain ⟨ports, hpending, hreport⟩ := State.setReport_ended (h := h) (hd := hd) (g := g) (r := r)
    (ram := ram) (s.dequeued (headPort h))
  have hraised : (s.dequeued (headPort h)).setRaised r ram = raised := by cases ram <;> rfl
  rw [hraised] at hreport
  have hrule := (ruleSetDone_rivet (s := s.dequeued (headPort h)) hh hg hk
    (hphase.trans (by cases ram <;> rfl))).trans hreport
  obtain ⟨w, hnext, hans, -⟩ := head_message_answered ht (n := 0) (by decide) rfl hrule hpending
  refine ⟨_, hnext, (PlanStore.hole?_changeHole_of hx).trans ?_,
    (PlanStore.onlyHoleChanged s.plan g.hole _).restate _ _, ?_, heads_set_map hh _, rfl, rfl, rfl, ?_,
    hans, rfl⟩
  · rw [hk, Hole.judged_set]
    rfl
  · simp only [PlanStore.changeHole_state, PlanStore.holeCount_changeHole]
    rfl
  · clear_value raised
    cases raised <;> rfl

end Sys2Proof.Machine
end

section
/-! SUPPORT. The law of the Completion Log: the numbers of its records, the slots that hold a HOLE grant, and
the moves that keep a place for every grant (R138, R140, R141). -/

namespace Sys2Proof.Machine

/-! ### The numbers of the records (R138) -/

/-- The records bear the consecutive numbers that end just below the counter. -/
def CompletionLog.numbered (l : CompletionLog) : Prop :=
  l.records.map LogRecord.sequence =
    (List.range l.records.length).map (fun i => l.sequence - BitVec.ofNat 16 (l.records.length - i))

/-- The log with a record at its end and the counter past it (R138). -/
def CompletionLog.join (l : CompletionLog) (r : LogRecord) : CompletionLog :=
  { l with records := l.records ++ [r], sequence := l.sequence + 1 }

theorem CompletionLog.numbered_iff {l : CompletionLog} : l.numbered ↔
    ∀ (i : Nat) (hi : i < l.records.length),
      l.records[i].sequence = l.sequence - BitVec.ofNat 16 (l.records.length - i) := by
  constructor
  · intro h i hi
    simpa [hi] using congrArg (·[i]?) h
  · intro h
    refine List.ext_getElem (by simp) fun i hi _ => ?_
    simpa using h i (by simpa using hi)

/-- The record that joins takes the counter's number, and every older one stands one further below it. -/
theorem CompletionLog.numbered.join {l : CompletionLog} {r : LogRecord} (hl : l.numbered)
    (hr : r.sequence = l.sequence) : (l.join r).numbered := by
  rw [numbered_iff] at hl ⊢
  intro i hi
  simp only [CompletionLog.join, List.length_append, List.length_singleton] at hi ⊢
  by_cases hlast : i = l.records.length
  · subst hlast
    simp [hr]
  · have hold : i < l.records.length := by omega
    have hplace : l.records.length + 1 - i = l.records.length - i + 1 := by omega
    rw [List.getElem_append_left hold, hl i hold, hplace, BitVec.ofNat_add]
    exact (add_sub_add_right_eq_sub ..).symm

/-- The records that are left when the oldest go keep their numbers (R143). -/
theorem CompletionLog.numbered.dropOldest {l : CompletionLog} (hl : l.numbered) (n : Nat) :
    (l.dropOldest n).numbered := by
  rw [numbered_iff] at hl ⊢
  intro i hi
  simp only [CompletionLog.dropOldest, List.length_drop, List.getElem_drop] at hi ⊢
  rw [hl (n + i) (by omega), Nat.sub_sub]

/-! ### The slots that hold a HOLE grant (R140) -/

/-- The slots that hold a HOLE grant. -/
def State.grantedSlots (s : State) : Finset Slot := {h | (workAt s.heads h).isSome}

variable {s t u : State} {h : Slot}

theorem State.mem_grantedSlots : h ∈ s.grantedSlots ↔ (workAt s.heads h).isSome := by
  simp [grantedSlots]

/-- The grants that are counted head by head are those of the slots with work. -/
theorem State.holeGrants_eq_card (s : State) : s.holeGrants = s.grantedSlots.card := by
  have hrow : s.heads.toList = (List.finRange 8).map (fun h => s.heads[h]) :=
    List.ext_getElem (by simp) (by simp)
  have hwork : ∀ h : Slot,
      (s.heads[h].bind (fun hd => hd.status.holeGrant)).isSome = (workAt s.heads h).isSome := by
    intro h
    rw [workAt]
    cases s.heads[h] with
    | none => rfl
    | some hd => exact Option.isSome_map.symm
  rw [holeGrants, grantedSlots, hrow, List.countP_map, List.countP_eq_length_filter, Finset.card_def,
    Finset.filter_val, Fin.univ_def]
  simp [Function.comp_def, ← hwork]

/-- The slots' work stands, and with it the number of grants. -/
theorem State.holeGrants_same (hw : ∀ h, workAt t.heads h = workAt s.heads h) :
    t.holeGrants = s.holeGrants := by
  simp only [holeGrants_eq_card, grantedSlots, hw]

/-- A slot without work is granted a hole. -/
theorem State.holeGrants_grant {w : HeadKind × Nat} (hs : workAt s.heads h = none)
    (hw : ∀ h', workAt t.heads h' = if h' = h then some w else workAt s.heads h') :
    t.holeGrants = s.holeGrants + 1 := by
  have hslots : t.grantedSlots = insert h s.grantedSlots := by
    ext h'
    by_cases e : h' = h <;> simp [mem_grantedSlots, hw, e]
  rw [holeGrants_eq_card, holeGrants_eq_card, hslots,
    Finset.card_insert_of_notMem (by simp [mem_grantedSlots, hs])]

/-- A slot's grant ends. -/
theorem State.holeGrants_end {w : HeadKind × Nat} (hs : workAt s.heads h = some w)
    (hw : ∀ h', workAt t.heads h' = if h' = h then none else workAt s.heads h') :
    t.holeGrants + 1 = s.holeGrants := by
  have hslots : t.grantedSlots = s.grantedSlots.erase h := by
    ext h'
    by_cases e : h' = h <;> simp [mem_grantedSlots, hw, e]
  rw [holeGrants_eq_card, holeGrants_eq_card, hslots,
    Finset.card_erase_add_one (by simp [mem_grantedSlots, hs])]

/-! ### The moves of the log (R138 to R143) -/

/-- What the law of the log reads of a state: the log, and the work of each slot. -/
def State.logView (s : State) : CompletionLog × (Slot → Option (HeadKind × Nat)) :=
  (s.log, workAt s.heads)

theorem State.logView_eq (hl : t.log = s.log) (hw : ∀ h, workAt t.heads h = workAt s.heads h) :
    t.logView = s.logView := Prod.ext hl (funext hw)

/-- What one move does to the log and the slots' work. -/
inductive LogMove (s t : State) : Prop
  /-- The log and every HOLE grant stand. -/
  | stay (hv : t.logView = s.logView)
  /-- A slot is granted a hole where a place is free, and the place is kept for it (R140, R141). -/
  | grant (h : Slot) (w : HeadKind × Nat) (hroom : s.headroomForOne = true)
      (hs : workAt s.heads h = none) (hl : t.log = { s.log with inFlight := s.log.inFlight + 1 })
      (hw : ∀ h', workAt t.heads h' = if h' = h then some w else workAt s.heads h')
  /-- A record is written to a free place (R139, R141). -/
  | write (r : LogRecord) (hroom : s.headroomForOne = true) (hr : r.sequence = s.log.sequence)
      (hl : t.log = s.log.join r) (hw : ∀ h, workAt t.heads h = workAt s.heads h)
  /-- A HOLE grant ends without a record (R77, R140). -/
  | release (h : Slot) (w : HeadKind × Nat) (hs : workAt s.heads h = some w)
      (hl : t.log = { s.log with inFlight := s.log.inFlight - 1 })
      (hw : ∀ h', workAt t.heads h' = if h' = h then none else workAt s.heads h')
  /-- A HOLE grant ends, and its record takes the place kept for it (R78, R139, R140). -/
  | report (h : Slot) (w : HeadKind × Nat) (r : LogRecord) (hs : workAt s.heads h = some w)
      (hr : r.sequence = s.log.sequence)
      (hl : t.log = { s.log.join r with inFlight := s.log.inFlight - 1 })
      (hw : ∀ h', workAt t.heads h' = if h' = h then none else workAt s.heads h')
  /-- The oldest records leave (R143). -/
  | read (n : Nat) (hl : t.log = s.log.dropOldest n) (hw : ∀ h, workAt t.heads h = workAt s.heads h)
  /-- The part starts with no record and no grant (R163). -/
  | restart (hl : t.log = .empty) (hw : ∀ h, workAt t.heads h = none)

theorem CompletionLog.numbered_empty : CompletionLog.empty.numbered := rfl

theorem State.logKept_iff : s.logKept ↔ s.log.inFlight = s.holeGrants
    ∧ s.log.records.length + s.log.inFlight ≤ 64 ∧ s.log.numbered := Iff.rfl

/-- Every move keeps a place for every grant, and the numbers of the records. -/
theorem LogMove.logKept (hm : LogMove s t) (hs : s.logKept) : t.logKept := by
  rw [State.logKept_iff] at hs ⊢
  obtain ⟨hcount, hfits, hnum⟩ := hs
  cases hm with
  | stay hv =>
    obtain ⟨hl, hw⟩ := Prod.mk.inj hv
    rw [hl, State.holeGrants_same (congrFun hw)]
    exact ⟨hcount, hfits, hnum⟩
  | grant h w hroom hs hl hw =>
    have hgrants := State.holeGrants_grant hs hw
    have hplace := headroomForOne_iff.1 hroom
    rw [hl]
    exact ⟨by simp only; omega, by simp only; omega, hnum⟩
  | write r hroom hr hl hw =>
    have hgrants := State.holeGrants_same hw
    have hplace := headroomForOne_iff.1 hroom
    rw [hl, hgrants]
    exact ⟨hcount, by simp only [CompletionLog.join, List.length_append, List.length_singleton]; omega,
      hnum.join hr⟩
  | release h w hs hl hw =>
    have hgrants := State.holeGrants_end hs hw
    rw [hl]
    exact ⟨by simp only; omega, by simp only; omega, hnum⟩
  | report h w r hs hr hl hw =>
    have hgrants := State.holeGrants_end hs hw
    rw [hl]
    exact ⟨by simp only; omega,
      by simp only [CompletionLog.join, List.length_append, List.length_singleton]; omega, hnum.join hr⟩
  | read n hl hw =>
    rw [hl, State.holeGrants_same hw]
    exact ⟨hcount, by simp only [CompletionLog.dropOldest, List.length_drop]; omega, hnum.dropOldest n⟩
  | restart hl hw =>
    have hnone : t.grantedSlots = ∅ := by
      ext h
      simp [State.mem_grantedSlots, hw]
    rw [hl, State.holeGrants_eq_card, hnone]
    exact ⟨rfl, Nat.zero_le _, CompletionLog.numbered_empty⟩

/-- A run of moves of the log. -/
def LogMoves : State → State → Prop := Relation.ReflTransGen LogMove

theorem LogMoves.logKept (hm : LogMoves s t) (hs : s.logKept) : t.logKept := by
  induction hm with
  | refl => exact hs
  | tail _ hm ih => exact hm.logKept ih

theorem LogMoves.refl (s : State) : LogMoves s s := Relation.ReflTransGen.refl

theorem LogMoves.one (hm : LogMove s t) : LogMoves s t := .single hm

theorem LogMoves.trans (h : LogMoves s t) (h' : LogMoves t u) : LogMoves s u :=
  Relation.ReflTransGen.trans h h'

theorem LogMoves.same (hv : t.logView = s.logView) : LogMoves s t := .single (.stay hv)

/-- The moves are followed by an operation that leaves the log and the grants. -/
theorem LogMoves.thenSame (h : LogMoves s t) (hv : u.logView = t.logView) : LogMoves s u :=
  h.trans (.same hv)

/-- A fold of operations, each a run of moves, is a run of moves. -/
theorem LogMoves.foldl {α : Type} {f : State → α → State} (hf : ∀ u a, LogMoves u (f u a))
    (l : List α) (s : State) : LogMoves s (l.foldl f s) := by
  induction l generalizing s with
  | nil => exact .refl s
  | cons a l ih => exact (hf s a).trans (ih (f s a))

end Sys2Proof.Machine
end

section
/-! SUPPORT. What the shared operations leave of the log and of the slots' work, and the moves of the operations
that write them. -/

namespace Sys2Proof.Machine

variable {s t u : State} {h : Slot} {hd : Head} {g : HoleGrant} {w : HeadKind × Nat}

section
variable (s : State)

/-! ### The operations that leave both -/

@[simp] theorem State.setPort_logView (p : PortId) (q : Port) : (s.setPort p q).logView = s.logView := rfl
@[simp] theorem State.setTerminal_logView (n : TermId) (r : Terminal) :
    (s.setTerminal n r).logView = s.logView := rfl
@[simp] theorem State.setPlan_logView (q : PlanStore) : (s.setPlan q).logView = s.logView := rfl
@[simp] theorem State.setHeat_logView (q : HeatQueue) : (s.setHeat q).logView = s.logView := rfl
@[simp] theorem State.setParams_logView (q : Params) : (s.setParams q).logView = s.logView := rfl
@[simp] theorem State.setThermal_logView (l : List Segment) : (s.setThermal l).logView = s.logView := rfl
@[simp] theorem State.startTimer_logView (h : Slot) (stage : TimerStage) (n : Nat) :
    (s.startTimer h stage n).logView = s.logView := rfl
@[simp] theorem State.changeHole_logView (i : Nat) (f : Hole → Hole) :
    (s.changeHole i f).logView = s.logView := rfl
@[simp] theorem State.testComplete_logView : s.testComplete.logView = s.logView := rfl
@[simp] theorem State.judgeFreeze_logView : s.judgeFreeze.logView = s.logView := rfl
@[simp] theorem State.makePending_logView (p : PortId) (k : NoticeKind) :
    (s.makePending p k).logView = s.logView := by rw [makePending_eq]; rfl
@[simp] theorem State.noteTrouble_logView (a b : HeadState) : (s.noteTrouble a b).logView = s.logView := by
  rw [noteTrouble_eq]; rfl
@[simp] theorem State.raiseForHole_logView (c : DevClass) (i : Nat) (h : Slot) (a b : Int) :
    (s.raiseForHole c i h a b).logView = s.logView := by rw [raiseForHole_eq]; rfl
@[simp] theorem State.raiseUnbound_logView (c : DevClass) (a b : Int) :
    (s.raiseUnbound c a b).logView = s.logView := by rw [raiseUnbound_eq]; rfl
@[simp] theorem State.appendReply_logView (p : PortId) (kind : Byte) (r : Reply) :
    (s.appendReply p kind r).logView = s.logView := rfl
@[simp] theorem State.sendNotices_logView : s.sendNotices.logView = s.logView := by
  have hsent := s.sendNotices_eq
  generalize s.sendNotices = t at hsent ⊢
  rw [hsent]
  rfl
@[simp] theorem State.tick_logView : s.tick.logView = s.logView := by
  unfold tick
  split
  · rfl
  · simp only
    split <;> rfl
@[simp] theorem State.latchEdge_logView (n : TermId) : (s.latchEdge n).logView = s.logView := by
  unfold latchEdge
  simp only
  split
  · split <;> simp
  · rfl

theorem State.raiseIf_logView {p : Prop} [Decidable p] (c : DevClass) (i : Nat) (h : Slot) (a b : Int) :
    (if p then s.raiseForHole c i h a b else s).logView = s.logView := by split <;> simp

theorem State.raiseOne_logView (i : Nat) (h : Slot) (raised : Option (DevClass × Nat × Nat)) :
    (s.raiseOne i h raised).logView = s.logView := by cases raised <;> simp [raiseOne]

/-- A fold of operations that leave both leaves both. -/
theorem State.foldl_logView {α : Type} {f : State → α → State} (hf : ∀ u a, (f u a).logView = u.logView)
    (l : List α) : (l.foldl f s).logView = s.logView := by
  induction l generalizing s with
  | nil => rfl
  | cons a l ih => exact (ih (f s a)).trans (hf s a)

@[simp] theorem State.raiseSubst_logView (ks : List Nat) : (s.raiseSubst ks).logView = s.logView :=
  s.foldl_logView (f := fun (acc : State) (k : Nat) =>
    acc.raiseUnbound .probeSubst (k : Int) ((valueUsed acc.thermal k).getD 0)) (fun _ _ => by simp) ks

@[simp] theorem State.changeSegments_logView (f : Segment → Segment) :
    (s.changeSegments f).logView = s.logView :=
  raiseSubst_logView (s.setThermal _) _

@[simp] theorem State.expireHold_logView (k : Nat) : (s.expireHold k).logView = s.logView :=
  raiseSubst_logView (s.setThermal _) _

@[simp] theorem State.expireDueHolds_logView : s.expireDueHolds.logView = s.logView :=
  s.foldl_logView (fun u k => by split <;> simp) _

@[simp] theorem State.expireClass_logView (c : RivetClass) : (s.expireClass c).logView = s.logView :=
  s.foldl_logView (f := fun acc v => acc.setHeat (acc.heat.expire v)) (fun _ _ => rfl) _

/-! ### Heads whose work stands -/

theorem State.setLastHold_log (h : Slot) (i : Nat) (c : DevClass) : (s.setLastHold h i c).log = s.log := by
  rw [setLastHold_eq]

@[simp] theorem State.setLastHold_logView (h : Slot) (i : Nat) (c : DevClass) :
    (s.setLastHold h i c).logView = s.logView :=
  logView_eq (s.setLastHold_log h i c) (workAt_setLastHold s h i c)

@[simp] theorem State.setPhase_logView (h : Slot) (phase : SetPhase) :
    (s.setPhase h phase).logView = s.logView := by
  unfold setPhase
  split
  · rename_i hd hh
    split
    · rename_i g hg
      refine logView_eq rfl (workAt_set_same ?_)
      rw [workAt_of_head hh, Head.holeWork, hg]
      rfl
    · rfl
  · rfl

@[simp] theorem State.ramCapture_logView (h : Slot) : (s.ramCapture h).logView = s.logView := by
  unfold ramCapture
  split
  · split
    · split <;> simp
    · rfl
  · rfl

end

/-! ### What a view fixes -/

theorem State.log_of_view (hv : t.logView = s.logView) : t.log = s.log := (Prod.mk.inj hv).1

theorem State.workAt_of_view (hv : t.logView = s.logView) (h : Slot) :
    workAt t.heads h = workAt s.heads h := congrFun (Prod.mk.inj hv).2 h

theorem State.headroomForOne_of_view (hv : t.logView = s.logView) :
    t.headroomForOne = s.headroomForOne := by
  rw [headroomForOne, headroomForOne, log_of_view hv]

/-- A slot without work is written a head that has none. -/
theorem LogMoves.setHead_idle {v : Option Head} (hs : workAt s.heads h = none)
    (hv : v.bind Head.holeWork = none) (hl : t.log = s.log) (ht : t.heads = s.heads.set h v) :
    LogMoves s t :=
  .same (State.logView_eq hl fun h' => by rw [ht]; exact workAt_set_same (hv.trans hs.symm) h')

/-! ### A record (R138, R139) -/

theorem State.writeLog_joins (s : State) (i : Nat) (event : LogEvent) (accepted : Bool) :
    (s.writeLog i event accepted).log = s.log.join ⟨s.log.sequence, i, event, accepted, s.clock⟩ := by
  rw [writeLog_record]
  rfl

/-- A place that was free before an operation that leaves the log takes the record after it. -/
theorem State.writeLog_logged (hv : t.logView = s.logView) (hroom : s.headroomForOne = true) (i : Nat)
    (event : LogEvent) (accepted : Bool) : LogMoves s (t.writeLog i event accepted) := by
  have hroom' := (headroomForOne_of_view hv).trans hroom
  exact (LogMoves.same hv).trans
    (.one (.write _ hroom' rfl (t.writeLog_joins i event accepted) fun _ => by simp))

/-! ### The end of a grant (R77, R78, R139, R140) -/

/-- A slot without work goes on without. -/
theorem LogMoves.idle (hs : workAt s.heads h = none) (hl : t.log = s.log)
    (hw : ∀ h', workAt t.heads h' = if h' = h then none else workAt s.heads h') : LogMoves s t := by
  refine .same (State.logView_eq hl fun h' => (hw h').trans ?_)
  split
  · rename_i e
    rw [e, hs]
  · rfl

theorem State.setStatus_logged {st : HeadStatus} (hs : workAt s.heads h = none)
    (hst : st.holeGrant = none) : LogMoves s (s.setStatus h st) :=
  .idle hs (by rw [setStatus_eq]) (workAt_setStatus s h hst)

theorem State.endMoveGrant_logged {st : HeadStatus} (hs : workAt s.heads h = none)
    (hst : st.holeGrant = none) : LogMoves s (s.endMoveGrant h st) :=
  .idle hs (by rw [endMoveGrant_eq]) (workAt_endMoveGrant s h hst)

theorem State.endHoleGrant_logged {st : HeadStatus} (hs : workAt s.heads h = some w) (g : HoleGrant)
    (spent : Bool) (hst : st.holeGrant = none) : LogMoves s (s.endHoleGrant h g spent st) :=
  .one (.release h w hs (by rw [endHoleGrant_eq]) (workAt_endHoleGrant s h g spent hst))

/-- The record of a grant that ends takes the place that was kept for it. -/
theorem State.endAndWrite_logged {st : HeadStatus} (hs : workAt s.heads h = some w) (g : HoleGrant)
    (spent : Bool) (hst : st.holeGrant = none) (i : Nat) (event : LogEvent) (accepted : Bool) :
    LogMoves s ((s.endHoleGrant h g spent st).writeLog i event accepted) := by
  refine .one (.report h w ⟨s.log.sequence, i, event, accepted, s.clock⟩ hs rfl ?_ fun h' => ?_)
  · rw [writeLog_joins, endHoleGrant_eq]
    rfl
  · rw [writeLog_heads, workAt_endHoleGrant _ _ _ _ hst]

theorem State.endWithHold_logged {st : HeadStatus} (hs : workAt s.heads h = some w) (hd : Head)
    (g : HoleGrant) (c : DevClass) (hst : st.holeGrant = none) :
    LogMoves s (s.endWithHold h hd g c st) :=
  .trans (.same (s.changeHole_logView g.hole _))
    ((endAndWrite_logged (by simpa using hs) g false hst _ _ _).thenSame (setLastHold_logView ..))

/-- A raising for a head's hole, then the grant's end with the hole held (R15). -/
theorem State.raiseAndHold_logged {st : HeadStatus} (hs : workAt s.heads h = some w) (hd : Head)
    (g : HoleGrant) (c : DevClass) (hst : st.holeGrant = none) (a b : Int) :
    LogMoves s ((s.raiseForHole c g.hole h a b).endWithHold h hd g c st) :=
  .trans (.same (s.raiseForHole_logView c g.hole h a b))
    (endWithHold_logged (by simpa using hs) hd g c hst)

/-- A done report ends the grant after its hole was written and its classes were raised (R75, R76). -/
theorem State.endWithReport_logged (hv : t.logView = s.logView) (hs : workAt s.heads h = some w)
    (hd : Head) (g : HoleGrant) (spent : Bool) (held : Option DevClass) (done : HoleState)
    (event : LogEvent) : LogMoves s (t.endWithReport h hd g spent held done event) := by
  have hended : ∀ f e, LogMoves s (((t.changeHole g.hole f).endHoleGrant h g spent .idle).writeLog
      g.hole e false) := fun f _ =>
    .trans (.same ((t.changeHole_logView g.hole f).trans hv))
      (endAndWrite_logged (s := t.changeHole g.hole f) ((workAt_of_view hv h).trans hs) g spent rfl _ _ _)
  unfold endWithReport
  split
  · exact (hended _ _).thenSame (setLastHold_logView ..)
  · simp only
    split
    · exact (hended _ _).thenSame (testComplete_logView _)
    · exact hended _ _

/-- A head's rail is judged and its trouble noted (R87, R101). -/
theorem LogMoves.judged (hm : LogMoves s t) (a b : HeadState) :
    LogMoves s (t.judgeFreeze.noteTrouble a b) := hm.thenSame (by simp)

end Sys2Proof.Machine
end

section
/-! SUPPORT. The rules and the events that write the log or a head are runs of moves of the log: the heads and
their grants, the terminals, and the rules that write or read a record (R64 to R86, R139 to R143). -/

namespace Sys2Proof.Machine

variable {s t u : State} {h : Slot} {hd : Head} {g : HoleGrant}

/-! ### Heads without a HOLE grant (R64, R68, R83 to R85) -/

theorem ruleAttach_logged (h : Slot) (b : List Byte) (s : State) : LogMoves s (ruleAttach h b s).1 := by
  unfold ruleAttach
  split
  · exact .refl s
  · rename_i hh
    split
    · split
      · unfold State.attachHead
        simp only
        split
        · exact .refl s
        · exact .setHead_idle (by rw [workAt, hh]; rfl) rfl rfl rfl
      · exact .refl s
    · exact .refl s

theorem State.detachHead_logged {r : Rail} (hs : workAt s.heads h = none) :
    LogMoves s (s.detachHead h r) := .setHead_idle hs rfl rfl rfl

theorem ruleDetach_logged (h : Slot) (s : State) : LogMoves s (ruleDetach h s).1 := by
  unfold ruleDetach
  split
  · exact .refl s
  · rename_i hd hh
    split
    · rename_i hst
      exact State.detachHead_logged (workAt_idle hh (by rw [hst]; rfl))
    · exact .refl s

theorem State.putDown_logged (x : Int) (hs : workAt s.heads h = none) :
    LogMoves s (s.putDown h hd x) := by
  have hstand : LogMoves s (s.standAt h hd x .idle) :=
    .setHead_idle (v := some { hd with position := x, status := .idle }) hs rfl rfl rfl
  exact hstand.judged _ _

theorem ruleHaltAt_logged (h : Slot) (b : List Byte) (s : State) : LogMoves s (ruleHaltAt h b s).1 := by
  unfold ruleHaltAt
  split
  · exact .refl s
  · rename_i hd hh
    split
    · rename_i hst
      split
      · refine State.putDown_logged _ (workAt_idle hh ?_)
        rcases hst with hst | hst <;> rw [hst] <;> rfl
      · exact .refl s
    · exact .refl s

/-- A head in trouble holds no HOLE grant (R87). -/
theorem workAt_of_trouble (hh : s.heads[h] = some hd) (htrouble : ¬(!hd.status.inTrouble) = true) :
    workAt s.heads h = none :=
  workAt_idle hh (HeadStatus.holeGrant_of_inTrouble (by simpa using htrouble))

theorem ruleHeadRecover_logged (b : List Byte) (s : State) : LogMoves s (ruleHeadRecover b s).1 := by
  unfold ruleHeadRecover
  split
  · split
    · unfold State.recoverHead
      split
      · exact .refl s
      · rename_i hd hh
        split
        · exact .refl s
        · rename_i htrouble
          simp only
          split
          · exact .refl s
          · exact State.putDown_logged _ (workAt_of_trouble hh htrouble)
    · exact .refl s
  · exact .refl s

theorem ruleHeadEvict_logged (b : List Byte) (s : State) : LogMoves s (ruleHeadEvict b s).1 := by
  unfold ruleHeadEvict
  split
  · exact .refl s
  · split
    · exact .refl s
    · rename_i hd hh
      split
      · exact .refl s
      · rename_i htrouble
        exact (State.detachHead_logged (workAt_of_trouble hh htrouble)).judged _ _

theorem ruleMove_logged (h : Slot) (b : List Byte) (s : State) : LogMoves s (ruleMove h b s).1 := by
  unfold ruleMove
  split
  · exact .refl s
  · rename_i hd hh
    split
    · exact .refl s
    · rename_i hreq
      obtain ⟨-, -, -, hidle⟩ := State.requestRefused_none hreq
      unfold State.moveTo
      split
      · exact .refl s
      · split
        · exact .refl s
        · exact .setHead_idle (workAt_idle hh (by rw [hidle]; rfl)) rfl rfl rfl

/-! ### The grant of a hole: a place is free, and it is kept or filled at once (R69, R71, R141) -/

theorem State.commitHole_logged (c : Eligible) (hroom : s.headroomForOne = true)
    (hs : workAt s.heads h = none) : LogMoves s (s.commitHole h hd c).1 :=
  .one (.grant h (hd.kind, c.index) hroom hs rfl fun h' =>
    workAt_set s.heads h (some { hd with status := .travelHole (s.grantRecord hd c) }) h')

theorem State.holdAtLimit_logged (c : Eligible) (hroom : s.headroomForOne = true) :
    LogMoves s (s.holdAtLimit h hd c).1 :=
  (writeLog_logged (s.changeHole_logView c.index _) hroom ..).thenSame (setLastHold_logView ..)

theorem State.grantHole_logged (c : Eligible) (hroom : s.headroomForOne = true)
    (hs : workAt s.heads h = none) : LogMoves s (s.grantHole h hd c).1 := by
  have hraise := s.raiseForHole_logView .thermalLimit c.index h c.target.dRaw s.params.corrLimit
  have hroom' := (headroomForOne_of_view hraise).trans hroom
  unfold grantHole
  split
  · simp only
    split
    · exact (LogMoves.same hraise).trans (holdAtLimit_logged c hroom')
    · exact (LogMoves.same hraise).trans (commitHole_logged c hroom' ((workAt_of_view hraise h).trans hs))
  · exact commitHole_logged c hroom hs

theorem ruleTake_logged (h : Slot) (b : List Byte) (s : State) : LogMoves s (ruleTake h b s).1 := by
  unfold ruleTake
  split
  · exact .refl s
  · rename_i hd hh
    split
    · exact .refl s
    · rename_i hreq
      obtain ⟨-, -, -, hidle⟩ := State.requestRefused_none hreq
      unfold State.takeHole
      split
      · exact .refl s
      · split
        · exact .refl s
        · split
          · exact .refl s
          · rename_i hroom
            split
            · exact .refl s
            · exact State.grantHole_logged _ (by simpa using hroom) (workAt_idle hh (by rw [hidle]; rfl))

theorem ruleNext_logged (h : Slot) (s : State) : LogMoves s (ruleNext h s).1 := by
  unfold ruleNext
  split
  · exact .refl s
  · rename_i hd hh
    split
    · exact .refl s
    · rename_i hreq
      obtain ⟨-, -, -, hidle⟩ := State.requestRefused_none hreq
      unfold State.nextHole
      split
      · exact .refl s
      · rename_i hroom
        split
        · exact .refl s
        · exact State.grantHole_logged _ (by simpa using hroom) (workAt_idle hh (by rw [hidle]; rfl))

/-! ### Arrival, ABANDON and done reports (R73, R75 to R78) -/

theorem ruleArrived_logged (h : Slot) (s : State) : LogMoves s (ruleArrived h s).1 := by
  unfold ruleArrived
  split
  · exact .refl s
  · rename_i hd hh
    split
    · rename_i g hst
      exact .setHead_idle (v := some { hd with position := g.x, status := .idle })
        (workAt_idle hh (by rw [hst]; rfl)) rfl rfl rfl
    · rename_i g hst
      have hw : workAt s.heads h = some (hd.kind, g.hole) := workAt_grant hh (by rw [hst]; rfl)
      have hstand : ((s.standAt h hd g.x (.work g)).startTimer h .work
          (workLimit s.params hd.kind)).logView = s.logView := State.logView_eq rfl (workAt_set_same hw.symm)
      refine .trans (.same hstand) ?_
      unfold State.judgeArrival
      split
      · exact .refl _
      · simp only
        split
        · exact .same (State.raiseForHole_logView ..)
        · exact State.raiseAndHold_logged ((State.workAt_of_view hstand h).trans hw) hd g .clampLost rfl _ _
    · exact .refl s

theorem State.abandonHole_logged {w : HeadKind × Nat} {st : HeadStatus} (hs : workAt s.heads h = some w)
    (hst : st.holeGrant = none) : LogMoves s (s.abandonHole h hd g st) :=
  .trans (.same (s.changeHole_logView g.hole _)) (endHoleGrant_logged (by simpa using hs) g false hst)

theorem ruleAbandon_logged (h : Slot) (s : State) : LogMoves s (ruleAbandon h s).1 := by
  unfold ruleAbandon
  split
  · exact .refl s
  · rename_i hd hh
    split
    · rename_i g hst
      exact (State.abandonHole_logged (workAt_grant hh (by rw [hst]; rfl)) rfl).thenSame
        (State.noteTrouble_logView ..)
    · rename_i g hst
      exact (State.endMoveGrant_logged (workAt_idle hh (by rw [hst]; rfl)) rfl).thenSame
        (State.noteTrouble_logView ..)
    · rename_i g hst
      exact State.abandonHole_logged (workAt_grant hh (by rw [hst]; rfl)) rfl
    · exact .refl s

theorem ruleDrillDone_logged (h : Slot) (b : List Byte) (s : State) :
    LogMoves s (ruleDrillDone h b s).1 := by
  unfold ruleDrillDone
  split
  · exact .refl s
  · rename_i hd hh
    split
    · rename_i g hst
      split_ifs
      · exact .refl s
      · exact .refl s
      · split
        · exact .refl s
        · refine State.endWithReport_logged ?_ (workAt_grant hh (by rw [hst]; rfl)) ..
          rw [State.raiseIf_logView, State.raiseIf_logView, State.changeHole_logView]
    · exact .refl s

theorem State.setReport_logged (hh : s.heads[h] = some hd) (hst : hd.status = .work g) (r : Rivet)
    (ram : Option Nat) : LogMoves s (s.setReport h hd g r ram).1 := by
  rw [setReport_eq]
  refine endWithReport_logged ?_ (workAt_grant hh (by rw [hst]; rfl)) ..
  rw [raiseOne_logView, changeHole_logView]

theorem ruleSetDone_logged (h : Slot) (s : State) : LogMoves s (ruleSetDone h s).1 := by
  unfold ruleSetDone
  split
  · exact .refl s
  · rename_i hd hh
    split
    · rename_i g hst
      split
      · exact .refl s
      · split
        · exact State.setReport_logged hh hst _ _
        · exact State.setReport_logged hh hst _ _
        · exact .refl s
    · exact .refl s

/-! ### The timer expiry and the break (R82, R86) -/

theorem State.expireTimer_logged (s : State) (h : Slot) : LogMoves s (s.expireTimer h) := by
  unfold expireTimer
  split
  · exact .refl s
  · rename_i hd hh
    simp only
    split
    · rename_i g hst
      exact ((raiseAndHold_logged (workAt_grant hh hst) hd g .workTimeout rfl _ _).thenSame
        (makePending_logView ..)).judged _ _
    · rename_i hst
      exact (endMoveGrant_logged (workAt_idle hh hst) rfl).judged _ _

theorem State.linkBreak_logged (s : State) (h : Slot) : LogMoves s (s.linkBreak h) := by
  unfold linkBreak
  split
  · exact .refl s
  · rename_i hd hh
    have hidle : ∀ {st}, hd.status = st → st.holeGrant = none → workAt s.heads h = none :=
      fun hst hg => workAt_idle hh (by rw [hst, hg])
    have hgrant : ∀ {st g}, hd.status = st → st.holeGrant = some g →
        workAt s.heads h = some (hd.kind, g.hole) := fun hst hg => workAt_grant hh (by rw [hst, hg])
    simp only
    split
    · exact .refl s
    · exact .refl s
    · exact (raiseAndHold_logged (hgrant ‹_› rfl) hd _ .linkBreak rfl _ _).judged _ _
    · exact (raiseAndHold_logged (hgrant ‹_› rfl) hd _ .linkBreak rfl _ _).judged _ _
    · exact (endMoveGrant_logged (hidle ‹_› rfl) rfl).judged _ _
    · exact (setStatus_logged (hidle ‹_› rfl) rfl).judged _ _
    · exact (setStatus_logged (hidle ‹_› rfl) rfl).judged _ _

theorem State.takeBreak_logged (s : State) (p : PortId) : LogMoves s (s.takeBreak p) := by
  have hport : LogMoves s (s.setPort p s.ports[p].afterBreak) := .same rfl
  unfold takeBreak
  simp only
  split
  · exact hport.trans (linkBreak_logged _ _)
  · exact hport

/-! ### Clamp drops and accepted edges (R80, R117, R150 to R152) -/

theorem State.judgeDrop_logged (s : State) (bay : Nat) (h : Slot) : LogMoves s (s.judgeDrop bay h) := by
  unfold judgeDrop
  split
  · exact .refl s
  · rename_i hd hh
    split
    · rename_i g hst
      split
      · simp only
        split
        · exact .same (s.raiseForHole_logView ..)
        · exact (raiseAndHold_logged (workAt_grant hh (by rw [hst]; rfl)) hd g .clampLost rfl _ _).thenSame
            (makePending_logView ..)
      · exact .refl s
    · exact .refl s

theorem State.clampDrop_logged (s : State) (bay : Nat) : LogMoves s (s.clampDrop bay) :=
  .foldl (fun u h => u.judgeDrop_logged bay h) _ s

theorem State.handOnEdge_logged (s : State) (r : Terminal) (active : Bool) :
    LogMoves s (s.handOnEdge r active) := by
  unfold handOnEdge
  split
  · split
    · exact .refl s
    · exact s.clampDrop_logged _
  · split
    · exact .same (s.ramCapture_logView _)
    · exact .refl s
  · exact .refl s

theorem State.acceptEdge_logged (s : State) (n : TermId) (active : Bool) :
    LogMoves s (s.acceptEdge n active) := by
  have hedge : LogMoves s ((s.setTerminal n
      { s.terminals[n] with level := active, candidate := none }).handOnEdge s.terminals[n] active) :=
    .trans (.same (s.setTerminal_logView n _)) (handOnEdge_logged ..)
  unfold acceptEdge
  simp only
  split
  · exact hedge.thenSame (latchEdge_logView ..)
  · exact hedge

theorem State.acceptCandidate_logged (s : State) (n : TermId) : LogMoves s (s.acceptCandidate n) := by
  unfold acceptCandidate
  split
  · exact s.acceptEdge_logged n _
  · exact .refl s

theorem State.acceptDue_logged (s : State) : LogMoves s s.acceptDue := by
  refine .foldl (fun u n => ?_) _ s
  split
  · exact u.acceptCandidate_logged n
  · exact .refl u

theorem State.changePin_logged (s : State) (n : TermId) (high : Bool) :
    LogMoves s (s.changePin n high) := by
  have hterm : ∀ r, LogMoves s ((s.setPin n high).setTerminal n r) := fun _ => .same rfl
  unfold changePin
  simp only
  split
  · unfold judgeRaw
    simp only
    split
    · exact hterm _
    · split
      · exact (hterm _).trans (acceptEdge_logged ..)
      · exact hterm _
  · exact .same rfl

theorem State.leaveMode_logged (s : State) (n : TermId) (old : Terminal) :
    LogMoves s (s.leaveMode n old) := by
  unfold leaveMode
  split
  · split
    · split
      · exact s.clampDrop_logged _
      · exact .refl s
    · exact .refl s
  · split
    · exact .same (s.changeSegments_logView _)
    · exact .refl s
  · exact .refl s

theorem ruleTermConfig_logged (b : List Byte) (s : State) : LogMoves s (ruleTermConfig b s).1 := by
  unfold ruleTermConfig
  split
  · exact .refl s
  · split_ifs
    · exact .refl s
    · exact .refl s
    · exact .refl s
    · exact .trans (.same (s.setTerminal_logView _ _)) (State.leaveMode_logged ..)

theorem State.writeParam_logged {b : List Byte} {effect : Nat → State}
    (he : ∀ v, LogMoves s (effect v)) : LogMoves s (s.writeParam b effect).1 := by
  unfold writeParam
  split
  · exact .refl s
  · exact he _

theorem ruleSetDebounceMs_logged (b : List Byte) (s : State) :
    LogMoves s (ruleSetDebounceMs b s).1 :=
  State.writeParam_logged fun _ => .trans (.same (s.setParams_logView _)) (State.acceptDue_logged _)

/-! ### Records written and read on the supervisor's word (R18, R19, R143) -/

theorem State.acceptHole_logged (hroom : s.headroomForOne = true) (i : Nat) (x : Hole)
    (event : LogEvent) : LogMoves s (s.acceptHole i x event) := by
  have hplan : ∀ q, LogMoves s ((s.setPlan q).writeLog i event true) := fun q =>
    writeLog_logged (s.setPlan_logView q) hroom ..
  unfold acceptHole
  simp only
  split
  · exact (hplan _).thenSame (testComplete_logView _)
  · exact hplan _

theorem ruleHoleReleaseAccept_logged (b : List Byte) (s : State) :
    LogMoves s (ruleHoleReleaseAccept b s).1 := by
  unfold ruleHoleReleaseAccept
  split
  · exact .refl s
  split
  · exact .refl s
  split
  · exact .refl s
  split
  · exact .refl s
  split
  · exact .refl s
  split
  · exact .refl s
  · rename_i hroom
    exact State.acceptHole_logged (by simpa using hroom) ..

theorem ruleHoleExcuse_logged (b : List Byte) (s : State) : LogMoves s (ruleHoleExcuse b s).1 := by
  unfold ruleHoleExcuse
  split
  · exact .refl s
  split
  · exact .refl s
  split
  · exact .refl s
  split_ifs with hst hroom
  · exact .refl s
  · exact .refl s
  · exact (State.writeLog_logged (s.changeHole_logView _ _) (by simpa using hroom) ..).thenSame
      (State.testComplete_logView _)

theorem ruleLogRead_logged (b : List Byte) (s : State) : LogMoves s (ruleLogRead b s).1 := by
  unfold ruleLogRead
  simp only
  split
  · exact .refl s
  · exact .one (.read (u8At b 0) rfl fun _ => rfl)

end Sys2Proof.Machine
end

section
/-! SUPPORT. The rules and the events that leave the log and every HOLE grant as they stand. -/

namespace Sys2Proof.Machine

variable (s : State)

/-! ### PROGRESS and the tray (R72, R106 to R114) -/

theorem ruleProgress_logView (h : Slot) : (ruleProgress h s).1.logView = s.logView := by
  unfold ruleProgress
  split
  · rfl
  · split <;> rfl

theorem ruleFeed_logView (h : Slot) : (ruleFeed h s).1.logView = s.logView := by
  unfold ruleFeed
  split
  · rfl
  · split
    · split_ifs
      · rfl
      · rfl
      · split
        · rfl
        · unfold State.feedHead
          split <;> simp
    · rfl

theorem ruleRivetOut_logView (b : List Byte) : (ruleRivetOut b s).1.logView = s.logView := by
  unfold ruleRivetOut
  simp only
  split
  · rfl
  · split
    · rfl
    · split_ifs
      · rfl
      · exact s.raiseUnbound_logView ..
      · unfold State.placeRivet
        simp only
        split
        · simp [State.handOver]
        · split_ifs <;> rfl

/-! ### The Plan Store (Chapter 1) -/

theorem rulePlanBegin_logView (b : List Byte) : (rulePlanBegin b s).1.logView = s.logView := by
  unfold rulePlanBegin
  split_ifs <;> rfl

theorem rulePlanSegment_logView (b : List Byte) : (rulePlanSegment b s).1.logView = s.logView := by
  unfold rulePlanSegment
  simp only
  split
  · rfl
  · split
    · rfl
    · split_ifs <;> rfl

theorem rulePlanBay_logView (b : List Byte) : (rulePlanBay b s).1.logView = s.logView := by
  unfold rulePlanBay
  simp only
  split_ifs <;> rfl

theorem rulePlanHole_logView (b : List Byte) : (rulePlanHole b s).1.logView = s.logView := by
  unfold rulePlanHole
  split
  · rfl
  · split
    · rfl
    · split <;> rfl

theorem rulePlanSeal_logView : (rulePlanSeal s).1.logView = s.logView := by
  unfold rulePlanSeal
  split
  · rfl
  · split
    · rfl
    · simp [State.takeSegments]

theorem rulePlanAbort_logView : (rulePlanAbort s).1.logView = s.logView := by
  unfold rulePlanAbort
  split <;> rfl

theorem rulePlanRead_logView (b : List Byte) : (rulePlanRead b s).1.logView = s.logView := by
  unfold rulePlanRead
  split_ifs <;> rfl

theorem ruleDatum_logView (b : List Byte) : (ruleDatum b s).1.logView = s.logView := by
  unfold ruleDatum
  split_ifs <;> rfl

theorem ruleHoleReleaseRedo_logView (b : List Byte) :
    (ruleHoleReleaseRedo b s).1.logView = s.logView := by
  unfold ruleHoleReleaseRedo
  split_ifs
  · rfl
  · rfl
  · split
    · rfl
    · split <;> rfl

theorem ruleFrameEnd_logView : (ruleFrameEnd s).1.logView = s.logView := by
  unfold ruleFrameEnd
  split_ifs <;> rfl

/-! ### Fences, deviations and the queries -/

theorem ruleFenceSet_logView (b : List Byte) : (ruleFenceSet b s).1.logView = s.logView := by
  unfold ruleFenceSet
  simp only
  split
  · split
    · split <;> rfl
    · rfl
  · rfl

theorem ruleFenceClear_logView (b : List Byte) : (ruleFenceClear b s).1.logView = s.logView := by
  unfold ruleFenceClear
  split
  · rfl
  · split <;> rfl

theorem ruleDevMode_logView (b : List Byte) : (ruleDevMode b s).1.logView = s.logView := by
  unfold ruleDevMode
  split
  · split <;> rfl
  · rfl

theorem ruleDevClear_logView (b : List Byte) : (ruleDevClear b s).1.logView = s.logView := by
  unfold ruleDevClear
  split <;> rfl

theorem ruleGetParam_logView (b : List Byte) : (ruleGetParam b s).1.logView = s.logView := by
  unfold ruleGetParam
  split <;> rfl

theorem ruleLineQuery_logView (b : List Byte) : (ruleLineQuery b s).1.logView = s.logView := by
  unfold ruleLineQuery
  split <;> rfl

/-! ### Terminals and characters (R154 to R161, R167 to R169) -/

theorem State.takeSample_logView (n : TermId) (code : ProbeCode) :
    (s.takeSample n code).logView = s.logView := by
  unfold takeSample
  simp only
  split
  · split <;> simp [probeReading]
  · split <;> simp [probeFault]

theorem ruleTermWrite_logView (b : List Byte) : (ruleTermWrite b s).1.logView = s.logView := by
  unfold ruleTermWrite
  split <;> rfl

theorem ruleTermAck_logView (b : List Byte) : (ruleTermAck b s).1.logView = s.logView := by
  unfold ruleTermAck
  split
  · rfl
  · exact s.foldl_logView (f := fun acc n => acc.setTerminal n { acc.terminals[n] with pending := false })
      (fun _ _ => rfl) _

theorem ruleTermRead_logView (b : List Byte) : (ruleTermRead b s).1.logView = s.logView := by
  unfold ruleTermRead
  split <;> rfl

theorem State.receiveCharacter_logView (p : PortId) (mark : Bool) (data : Byte) (stopHigh : Bool) :
    (s.receiveCharacter p mark data stopHigh).logView = s.logView := by
  unfold receiveCharacter
  simp only
  split <;> simp

end Sys2Proof.Machine
end

section
/-! SUPPORT. Every step is a run of moves of the log, and so keeps a place for every grant: takings and events,
then the table of commands (R138 to R143). -/

namespace Sys2Proof.Machine

variable {s t u : State} {b : List Byte}

/-! ### Takings and events -/

theorem takeMessage_logged {p : PortId} {kind : Byte} {rule : State → Taken}
    (hr : ∀ u : State, LogMoves u (rule u).1) (h : takeMessage p kind b rule s = .next t) :
    LogMoves s t := by
  have hjudged : ∀ (m : Message) (u : State), LogMoves u (judgeMessage p m rule u).1 := fun m u => by
    unfold judgeMessage
    split_ifs
    · exact .refl u
    · exact .refl u
    · exact hr u
  rcases takeMessage_cases h with ht | ⟨-, ht⟩ <;> rw [ht]
  · exact .refl s
  · exact ((LogMoves.same (s.setPort_logView p _)).trans (hjudged _ _)).thenSame
      ((State.sendNotices_logView _).trans (State.appendReply_logView ..))

/-- A message whose rule leaves the log and the grants. -/
theorem takeMessage_logView {p : PortId} {kind : Byte} {rule : State → Taken}
    (hr : ∀ u : State, (rule u).1.logView = u.logView) (h : takeMessage p kind b rule s = .next t) :
    LogMoves s t := takeMessage_logged (fun u => .same (hr u)) h

theorem takeEvent_logged {due : Bool} {effect : State → State}
    (he : ∀ u : State, LogMoves u (effect u)) (h : takeEvent due effect s = .next t) : LogMoves s t := by
  rcases takeEvent_cases h with ht | ⟨-, -, ht⟩ <;> rw [ht]
  · exact .refl s
  · exact (he s).thenSame (State.sendNotices_logView _)

/-- An event that leaves the log and the grants. -/
theorem takeEvent_logView {due : Bool} {effect : State → State}
    (he : ∀ u : State, (effect u).logView = u.logView) (h : takeEvent due effect s = .next t) :
    LogMoves s t := takeEvent_logged (fun u => .same (he u)) h

/-- An event of a line or a pin follows the level while RESET_N is low, and is taken otherwise. -/
theorem levelOrEvent_logged {due : Bool} {effect : State → State} (hu : u.logView = s.logView)
    (he : ∀ v : State, LogMoves v (effect v))
    (h : (if s.inReset then .next u else takeEvent due effect s) = Host.Outcome.next t) :
    LogMoves s t := by
  split at h
  · exact Host.Outcome.next.inj h ▸ .same hu
  · exact takeEvent_logged he h

/-- A message that is a row's own is taken, and one of another row is ignored (log entry 7). -/
theorem ownRow_logged {own : Bool} {p : PortId} {kind : Byte} {rule : State → Taken}
    (hr : ∀ u : State, LogMoves u (rule u).1)
    (h : (if own then takeMessage p kind b rule s else .next s) = Host.Outcome.next t) :
    LogMoves s t := by
  split at h
  · exact takeMessage_logged hr h
  · exact Host.Outcome.next.inj h ▸ .refl s

theorem otherRow_logged {own : Bool} {p : PortId} {kind : Byte} {rule : State → Taken}
    (hr : ∀ u : State, LogMoves u (rule u).1)
    (h : (if own then .next s else takeMessage p kind b rule s) = Host.Outcome.next t) :
    LogMoves s t := by
  split at h
  · exact Host.Outcome.next.inj h ▸ .refl s
  · exact takeMessage_logged hr h

/-! ### Writes of a parameter (R178) -/

theorem ruleSetParam_logged (b : List Byte) (s : State) : LogMoves s (ruleSetParam b s).1 :=
  State.writeParam_logged fun _ => .same (s.setParams_logView _)

theorem ruleSetProbeHold_logged (b : List Byte) (s : State) : LogMoves s (ruleSetProbeHold b s).1 :=
  State.writeParam_logged fun _ => .same (State.expireDueHolds_logView _)

theorem ruleSetStaleAction_logged (b : List Byte) (s : State) :
    LogMoves s (ruleSetStaleAction b s).1 :=
  State.writeParam_logged fun _ => .same (State.judgeFreeze_logView _)

theorem ruleSetHeatMin_logged (b : List Byte) (s : State) : LogMoves s (ruleSetHeatMin b s).1 :=
  State.writeParam_logged fun _ => .same (s.setParams_logView _)

theorem ruleSetHeatMax_logged (b : List Byte) (s : State) : LogMoves s (ruleSetHeatMax b s).1 :=
  State.writeParam_logged fun _ => .same (s.setParams_logView _)

theorem ruleSetBudget_logged (b : List Byte) (s : State) : LogMoves s (ruleSetBudget b s).1 :=
  State.writeParam_logged fun _ => .same (State.expireClass_logView _ _)

theorem ruleSetLogThreshold_logged (b : List Byte) (s : State) :
    LogMoves s (ruleSetLogThreshold b s).1 := .same (s.setParams_logView _)

/-! ### The commands and the step -/

theorem execPowerOn_logged (h : execPowerOn s = .next t) : LogMoves s t := by
  obtain rfl := Host.Outcome.next.inj h
  exact .one (.restart rfl fun h' => by simp [workAt, State.reset])

/-- Every command is a run of moves of the log. -/
theorem exec_logged (c : Instr) (h : exec c s = .next t) : LogMoves s t := by
  cases c with
  | powerOn => exact execPowerOn_logged h
  | resetNAssert => exact Host.Outcome.next.inj h ▸ .same rfl
  | attach slot b => exact takeMessage_logged (ruleAttach_logged slot b) h
  | detach slot b => exact takeMessage_logged (ruleDetach_logged slot) h
  | next slot b => exact takeMessage_logged (ruleNext_logged slot) h
  | take slot b => exact takeMessage_logged (ruleTake_logged slot b) h
  | move slot b => exact takeMessage_logged (ruleMove_logged slot b) h
  | arrived slot b => exact takeMessage_logged (ruleArrived_logged slot) h
  | progress slot b => exact takeMessage_logView (fun u => ruleProgress_logView u slot) h
  | abandon slot b => exact takeMessage_logged (ruleAbandon_logged slot) h
  | drillDone slot b => exact takeMessage_logged (ruleDrillDone_logged slot b) h
  | feed slot b => exact takeMessage_logView (fun u => ruleFeed_logView u slot) h
  | setDone slot b => exact takeMessage_logged (ruleSetDone_logged slot) h
  | haltAt slot b => exact takeMessage_logged (ruleHaltAt_logged slot b) h
  | headQuery slot b => exact takeMessage_logView (fun _ => rfl) h
  | planBegin b => exact takeMessage_logView (fun u => rulePlanBegin_logView u b) h
  | planSegment b => exact takeMessage_logView (fun u => rulePlanSegment_logView u b) h
  | planBay b => exact takeMessage_logView (fun u => rulePlanBay_logView u b) h
  | planHole b => exact takeMessage_logView (fun u => rulePlanHole_logView u b) h
  | planSeal b => exact takeMessage_logView rulePlanSeal_logView h
  | planAbort b => exact takeMessage_logView rulePlanAbort_logView h
  | planRead b => exact takeMessage_logView (fun u => rulePlanRead_logView u b) h
  | datum b => exact takeMessage_logView (fun u => ruleDatum_logView u b) h
  | fenceSet b => exact takeMessage_logView (fun u => ruleFenceSet_logView u b) h
  | fenceClear b => exact takeMessage_logView (fun u => ruleFenceClear_logView u b) h
  | holeReleaseRedo b => exact otherRow_logged (fun u => .same (ruleHoleReleaseRedo_logView u b)) h
  | holeReleaseAccept b => exact ownRow_logged (ruleHoleReleaseAccept_logged b) h
  | holeExcuse b => exact takeMessage_logged (ruleHoleExcuse_logged b) h
  | headRecover b => exact takeMessage_logged (ruleHeadRecover_logged b) h
  | headEvict b => exact takeMessage_logged (ruleHeadEvict_logged b) h
  | devMode b => exact takeMessage_logView (fun u => ruleDevMode_logView u b) h
  | devClear b => exact takeMessage_logView (fun u => ruleDevClear_logView u b) h
  | devRead b => exact takeMessage_logView (fun _ => rfl) h
  | logRead b => exact takeMessage_logged (ruleLogRead_logged b) h
  | setParam b => exact otherRow_logged (ruleSetParam_logged b) h
  | setParamProbeHold b => exact ownRow_logged (ruleSetProbeHold_logged b) h
  | setParamStaleAction b => exact ownRow_logged (ruleSetStaleAction_logged b) h
  | setParamHeatMin b => exact ownRow_logged (ruleSetHeatMin_logged b) h
  | setParamHeatMax b => exact ownRow_logged (ruleSetHeatMax_logged b) h
  | setParamBudget b => exact ownRow_logged (ruleSetBudget_logged b) h
  | setParamLogThreshold b => exact ownRow_logged (ruleSetLogThreshold_logged b) h
  | setParamDebounceMs b => exact ownRow_logged (ruleSetDebounceMs_logged b) h
  | getParam b => exact takeMessage_logView (fun u => ruleGetParam_logView u b) h
  | termConfig b => exact takeMessage_logged (ruleTermConfig_logged b) h
  | termWrite b => exact takeMessage_logView (fun u => ruleTermWrite_logView u b) h
  | termRead b => exact takeMessage_logView (fun u => ruleTermRead_logView u b) h
  | termAck b => exact takeMessage_logView (fun u => ruleTermAck_logView u b) h
  | heaterClear b => exact takeMessage_logView (fun u => u.setHeat_logView _) h
  | frameEnd b => exact takeMessage_logView ruleFrameEnd_logView h
  | lineQuery b => exact takeMessage_logView (fun u => ruleLineQuery_logView u b) h
  | rivetOut b => exact takeMessage_logView (fun u => ruleRivetOut_logView u b) h
  | heaterQuery b => exact takeMessage_logView (fun _ => rfl) h
  | motionTimerExpiry slot => exact takeEvent_logged (fun u => u.expireTimer_logged slot) h
  | holdExpiry k => exact takeEvent_logView (fun u => u.expireHold_logView _) h
  | rivetExpiry serial => exact takeEvent_logView (fun u => u.setHeat_logView _) h
  | rawChange n high =>
    exact levelOrEvent_logged (u := s.setPin n high) rfl (fun u => u.changePin_logged n high) h
  | acceptance n => exact takeEvent_logged (fun u => u.acceptCandidate_logged n) h
  | probeSample n code => exact takeEvent_logView (fun u => u.takeSample_logView n code) h
  | characterArrival p mark data stopHigh =>
    exact levelOrEvent_logged (s.setPort_logView p _)
      (fun u => .same (u.receiveCharacter_logView p mark data stopHigh)) h
  | gapExpiry p => exact takeEvent_logView (fun u => u.setPort_logView p _) h
  | inBreak p => exact takeEvent_logView (fun u => u.setPort_logView p _) h
  | breakReturn p => exact levelOrEvent_logged (s.setPort_logView p _) (fun u => u.takeBreak_logged p) h
  | frameSent p => exact takeEvent_logView (fun u => u.setPort_logView p _) h
  | unknownKindMessage p kind b => exact otherRow_logged (fun u => .refl u) h
  | frameTransmitStart p => exact takeEvent_logView (fun u => u.setPort_logView p _) h
  | receiveLineFall p =>
    exact levelOrEvent_logged (s.setPort_logView p _) (fun u => .same (u.setPort_logView p _)) h

/-- Every step is a run of moves of the log. -/
theorem step_logged (h : step s = .next t) : LogMoves s t := by
  unfold step at h
  split at h
  · exact Host.Outcome.next.inj h ▸ .same s.tick_logView
  · rename_i c rest _
    have hqueue : LogMoves s { s with pending := rest } := .same rfl
    exact hqueue.trans (exec_logged c h)

/-- Settles O14: a step is a run of moves of the log. A grant is made and a record written only where a place is
free, the record of a grant that ends takes the grant's place, and the numbers follow the counter. -/
theorem stepKeepsALogPlaceForEveryGrant : Obligations.StepKeepsALogPlaceForEveryGrant :=
  fun _ _ hs h => (step_logged h).logKept hs

end Sys2Proof.Machine
end

section
/-! SUPPORT. While RESET_N is low the part drives no pin, takes nothing, and follows the levels of its lines
and pins alone (R163, log entry 3). -/

namespace Sys2Proof.Machine

variable {s t u : State} {p : PortId} {kind : Byte} {b : List Byte} {rule : State → Taken}
  {due own : Bool} {effect : State → State}

theorem SameButLevels.refl (s : State) : SameButLevels s s := ⟨rfl, fun _ => rfl⟩

theorem SameButLevels.lineLevel (s : State) (p : PortId) (low : Bool) :
    SameButLevels s (s.lineLevel p low) := by
  refine ⟨rfl, fun q => ?_⟩
  by_cases e : p = q
  · subst e
    simp [State.lineLevel]
  · have hne : p.val ≠ q.val := fun h => e (Fin.ext h)
    simp [State.lineLevel, hne]

/-- While RESET_N is low no message is taken. -/
theorem takeMessage_inReset (hr : s.inReset = true) (h : takeMessage p kind b rule s = .next t) :
    t = s := by
  have hno : takeMessage p kind b rule s = .next s := takeMessage_not_taken (by simp [State.takes, hr])
  exact (Host.Outcome.next.inj (hno.symm.trans h)).symm

/-- While RESET_N is low no event comes about. -/
theorem takeEvent_inReset (hr : s.inReset = true) (h : takeEvent due effect s = .next t) : t = s := by
  have hno : takeEvent due effect s = .next s := by simp [takeEvent, hr]
  exact (Host.Outcome.next.inj (hno.symm.trans h)).symm

section
variable (hr : s.inReset = true)
include hr

theorem takeMessage_levels (h : takeMessage p kind b rule s = .next t) : SameButLevels s t :=
  takeMessage_inReset hr h ▸ .refl s

theorem takeEvent_levels (h : takeEvent due effect s = .next t) : SameButLevels s t :=
  takeEvent_inReset hr h ▸ .refl s

theorem ownRow_levels (h : (if own then takeMessage p kind b rule s else .next s) = Host.Outcome.next t) :
    SameButLevels s t := by
  split at h
  · exact takeMessage_levels hr h
  · exact Host.Outcome.next.inj h ▸ .refl s

theorem otherRow_levels (h : (if own then .next s else takeMessage p kind b rule s) = Host.Outcome.next t) :
    SameButLevels s t := by
  split at h
  · exact Host.Outcome.next.inj h ▸ .refl s
  · exact takeMessage_levels hr h

/-- An event of a line or a pin is followed as a level and is no event (log entry 3). -/
theorem levelOrEvent_levels (hu : SameButLevels s u)
    (h : (if s.inReset then .next u else takeEvent due effect s) = Host.Outcome.next t) :
    SameButLevels s t := by
  rw [if_pos hr] at h
  exact Host.Outcome.next.inj h ▸ hu

/-- A command while RESET_N is low changes nothing but a level the outside world holds. -/
theorem exec_levels (c : Instr) (hc : c ≠ .powerOn) (h : exec c s = .next t) : SameButLevels s t := by
  cases c
  case powerOn => exact absurd rfl hc
  case resetNAssert =>
    obtain rfl : { s with inReset := true } = t := Host.Outcome.next.inj h
    exact ⟨by rw [← hr], fun _ => rfl⟩
  case rawChange n high => exact levelOrEvent_levels hr (u := s.setPin n high) ⟨rfl, fun _ => rfl⟩ h
  case characterArrival p _ _ _ => exact levelOrEvent_levels hr (.lineLevel s p false) h
  case breakReturn p => exact levelOrEvent_levels hr (.lineLevel s p false) h
  case receiveLineFall p => exact levelOrEvent_levels hr (.lineLevel s p true) h
  case motionTimerExpiry slot => exact takeEvent_levels (effect := fun x => x.expireTimer slot) hr h
  case holdExpiry k => exact takeEvent_levels (effect := fun x => x.expireHold k.val) hr h
  case rivetExpiry serial =>
    exact takeEvent_levels (effect := fun x => x.setHeat (x.heat.expire serial)) hr h
  case acceptance n => exact takeEvent_levels (effect := fun x => x.acceptCandidate n) hr h
  case probeSample n code => exact takeEvent_levels (effect := fun x => x.takeSample n code) hr h
  case gapExpiry p => exact takeEvent_levels (effect := fun x => x.setPort p x.ports[p].discard) hr h
  case inBreak p =>
    exact takeEvent_levels (effect := fun x => x.setPort p { x.ports[p] with inBreak := true }) hr h
  case frameSent p => exact takeEvent_levels (effect := fun x => x.setPort p x.ports[p].frameGone) hr h
  case frameTransmitStart p =>
    exact takeEvent_levels (effect := fun x => x.setPort p { x.ports[p] with sendingFor := some 0 }) hr h
  case holeReleaseRedo => exact otherRow_levels hr h
  case holeReleaseAccept => exact ownRow_levels hr h
  case setParam => exact otherRow_levels hr h
  case setParamProbeHold => exact ownRow_levels hr h
  case setParamStaleAction => exact ownRow_levels hr h
  case setParamHeatMin => exact ownRow_levels hr h
  case setParamHeatMax => exact ownRow_levels hr h
  case setParamBudget => exact ownRow_levels hr h
  case setParamLogThreshold => exact ownRow_levels hr h
  case setParamDebounceMs => exact ownRow_levels hr h
  case unknownKindMessage => exact otherRow_levels hr h
  all_goals exact takeMessage_levels hr h

end

/-- A port after the release of RESET_N: its line counts as low from then on if it stands low (R164). -/
theorem afterReset_port (s : State) (p : PortId) : (mapRow Port.afterReset s.ports)[p] =
    { Port.powerOn with lowFor := if s.ports[p].lowFor.isSome then some 0 else none } := by
  rw [getElem_mapRow, Port.afterReset]
  cases s.ports[p].lowFor <;> rfl

/-- Settles O5: the power-on values by the definition of the reset state, a command while RESET_N is low by
`exec_levels`. -/
theorem resetHeldLowStopsThePartUntilPowerOn : Obligations.ResetHeldLowStopsThePartUntilPowerOn :=
  ⟨fun s => ⟨_, rfl, rfl, afterReset_port s⟩, fun _ => rfl,
    fun s n hr => ⟨if_pos hr, by rw [State.transmitPinsDriven, hr]; rfl⟩,
    fun c _ _ hr hc h => exec_levels hr c hc h⟩

end Sys2Proof.Machine
end

section
/-! SUPPORT. Function signals, permits, the composed signals, the pins they drive, and the bits on a transmit
line (R66, R88, R94, R119, R148, R158 to R160, R165). -/

namespace Sys2Proof.Machine

variable {s : State}

/-- A test of the places of a row holds for one iff it does at one of its indices. -/
theorem any_row_iff {α : Type} {n : Nat} {v : Vector α n} {q : α → Bool} :
    v.toList.any q = true ↔ ∃ i : Fin n, q v[i] = true := by
  rw [List.any_eq_true]
  constructor
  · rintro ⟨a, ha, hq⟩
    obtain ⟨i, hi, rfl⟩ := Vector.getElem_of_mem (Vector.mem_toList_iff.1 ha)
    exact ⟨⟨i, hi⟩, hq⟩
  · rintro ⟨i, hq⟩
    exact ⟨_, by simp, hq⟩

/-! ### Function signals (R66, R148) -/

theorem State.functionSignal_iff {f : TermFunction} : s.functionSignal f = true ↔ ∃ n : TermId,
    s.terminals[n].function = f ∧ s.terminals[n].mode = .switchIn ∧ s.terminals[n].level = true := by
  simp only [functionSignal, any_row_iff, Bool.and_eq_true, beq_iff_eq, and_assoc]

theorem State.clampActive_iff {bay : Nat} : s.clampActive bay = true ↔
    ∃ b : Fin 24, b.val = bay ∧ s.functionSignal (.clampBay b) = true := by
  unfold clampActive
  split
  · rename_i hlt
    constructor
    · exact fun h => ⟨⟨bay, hlt⟩, rfl, h⟩
    · rintro ⟨b, rfl, h⟩
      exact h
  · rename_i hge
    simp only [Bool.false_eq_true, false_iff, not_exists, not_and]
    exact fun b hb => absurd (hb ▸ b.isLt) hge

/-! ### Heads, permits and timers (R88, R94) -/

theorem headStateOf_grant (hd : Head) :
    headStateOf (some hd) ∈ [.travel, .work] ↔ hd.status.hasGrant = true := by
  rw [headStateOf]
  generalize hd.status = st
  cases st <;> simp [HeadStatus.hasGrant]

theorem headStateOf_trouble (hd : Head) :
    headStateOf (some hd) ∈ [.halted, .stale, .faulted] ↔ hd.status.inTrouble = true := by
  rw [headStateOf]
  generalize hd.status = st
  cases st <;> simp [HeadStatus.inTrouble]

theorem State.permit_iff {h : Slot} : s.permit h = true ↔ ∃ hd : Head, s.heads[h] = some hd
    ∧ headStateOf (some hd) ∈ [.travel, .work] ∧ s.lineStop = false ∧ s.frozen hd.rail = false := by
  unfold permit
  cases s.heads[h] with
  | none => simp
  | some hd =>
    simp only [Bool.and_eq_true, headStateOf_grant, Bool.not_eq_true', and_assoc, Option.some.injEq,
      exists_eq_left']

theorem Head.inFeedWait_eq_false_iff {hd : Head} : hd.inFeedWait = false ↔
    ∀ g : HoleGrant, hd.status = .travelHole g ∨ hd.status = .work g → g.phase ≠ some .feedWait := by
  unfold inFeedWait
  cases hd.status <;> simp

theorem State.timerRunning_iff {h : Slot} : s.timerRunning h = true ↔ s.timers[h] ≠ .stopped
    ∧ s.permit h = true ∧ ∀ (hd : Head) (g : HoleGrant), s.heads[h] = some hd →
      hd.status = .travelHole g ∨ hd.status = .work g → g.phase ≠ some .feedWait := by
  unfold timerRunning
  cases s.timers[h] with
  | stopped => simp
  | counting stage limit count =>
    cases hh : s.heads[h] with
    | none => simp [permit_iff, hh]
    | some hd =>
      have hwait : hd.inFeedWait = false ↔ ∀ (hd' : Head) (g : HoleGrant), some hd = some hd' →
          hd'.status = .travelHole g ∨ hd'.status = .work g → g.phase ≠ some .feedWait := by
        simp only [Head.inFeedWait_eq_false_iff, Option.some.injEq, forall_comm (β := HoleGrant),
          forall_eq']
      simp only [Bool.and_eq_true, Bool.not_eq_true', hwait, ne_eq, reduceCtorEq, not_false_eq_true,
        true_and]

/-! ### HEATER_PAUSE and ATTENTION (R119, R159) -/

theorem State.heaterPause_iff : s.heaterPause = true ↔ s.heat.fullMark = true ∨ s.heat.overrun = true
    ∨ s.lineStop = true ∨ s.modeOf .heatWindow = .holding
      ∧ s.dev.flags[DevClass.heatWindow.index] = true := by
  simp [heaterPause, modeOf, or_assoc]

theorem DevClass.index_classRow : ∀ i : Fin 10, classRow[i].index = i := by decide

theorem State.anyFlag_iff :
    s.dev.flags.toList.any id = true ↔ ∃ c : DevClass, s.dev.flags[c.index] = true := by
  rw [any_row_iff]
  exact Function.Surjective.exists (f := DevClass.index) fun i => ⟨_, DevClass.index_classRow i⟩

theorem State.attention_iff : s.attention = true ↔ s.params.logThreshold ≤ s.log.records.length
    ∨ (∃ c : DevClass, s.dev.flags[c.index] = true)
    ∨ ∃ h : Slot, headStateOf s.heads[h] ∈ [.halted, .stale, .faulted] := by
  have htrouble : s.anyTrouble = true
      ↔ ∃ h : Slot, headStateOf s.heads[h] ∈ [.halted, .stale, .faulted] := by
    rw [anyTrouble_iff]
    refine exists_congr fun h => ?_
    cases s.heads[h] with
    | none => simp [headStateOf]
    | some hd => simp only [Option.some.injEq, exists_eq_left', headStateOf_trouble]
  simp only [attention, Bool.or_eq_true, logAttention, decide_eq_true_iff, anyFlag_iff, htrouble, or_assoc]

/-! ### Pins (R158, R163) -/

theorem State.pinDriven_other {n : TermId} (hm : s.terminals[n].mode ≠ .out) : s.pinDriven n = none := by
  unfold pinDriven
  split
  · rfl
  · split
    · exact absurd ‹_› hm
    · rfl

theorem State.pinDriven_out {n : TermId} (hr : s.inReset = false) (hm : s.terminals[n].mode = .out) :
    s.pinDriven n = some (activeThrough s.terminals[n].polarity (s.activeLevel s.terminals[n])) := by
  rw [pinDriven, hr, if_neg Bool.false_ne_true, hm]

theorem some_activeThrough (polarity : Polarity) (active : Bool) : some (activeThrough polarity active)
    = match polarity with | .activeHigh => some active | .activeLow => some (!active) := by
  cases polarity <;> rfl

/-! ### Transmit lines (R165) -/

theorem characterBits_length (mark : Bool) (data : Byte) : (characterBits mark data).length = 11 := by
  simp [characterBits]

theorem characterBits_get (mark : Bool) (data : Byte) (i : Fin 11) : (characterBits mark data)[i.val]? =
    some (if i.val = 0 then false else if i.val = 9 then mark else if i.val = 10 then true
      else data.getLsbD (i.val - 1)) := by
  fin_cases i <;> rfl

/-- Rows of equal length one after the other: the place of an element tells its row. -/
theorem getElem?_flatMap_rows {α β : Type} {f : α → List β} {width : Nat} (hf : ∀ a, (f a).length = width)
    {l : List α} {k : Nat} {a : α} (hk : l[k]? = some a) {i : Nat} (hi : i < width) :
    (l.flatMap f)[k * width + i]? = (f a)[i]? := by
  induction l generalizing k with
  | nil => simp at hk
  | cons x l ih =>
    rw [List.flatMap_cons]
    cases k with
    | zero =>
      obtain rfl : x = a := by simpa using hk
      rw [Nat.zero_mul, Nat.zero_add, List.getElem?_append_left (by rw [hf]; exact hi)]
    | succ k =>
      have hlen : (f x).length ≤ (k + 1) * width + i := by rw [hf, Nat.succ_mul]; omega
      have hplace : (k + 1) * width + i - width = k * width + i := by rw [Nat.succ_mul]; omega
      rw [List.getElem?_append_right hlen, hf, hplace]
      exact ih (by simpa using hk)

theorem State.transmitLevel_driven (hr : s.inReset = false) (p : PortId) :
    s.transmitLevel p = some s.ports[p].transmitHigh := if_pos (by rw [transmitPinsDriven, hr]; rfl)

theorem Port.transmitHigh_idle {q : Port} (h : q.sendingFor = none) : q.transmitHigh = true := by
  simp [transmitHigh, h]

theorem Port.transmitHigh_sending {q : Port} {f : TxFrame} {rest : List TxFrame} {k : Nat} {mark : Bool}
    {data : Byte} (i : Fin 11) (j : Fin 5) (hq : q.transmitQueue = f :: rest)
    (hk : f.characters[k]? = some (mark, data))
    (hs : q.sendingFor = some (k * 55 + i.val * 5 + j.val)) :
    q.transmitHigh = if i.val = 0 then false else if i.val = 9 then mark
      else if i.val = 10 then true else data.getLsbD (i.val - 1) := by
  have hbit : (k * 55 + i.val * 5 + j.val) / Config.unitsPerBit = k * 11 + i.val := by
    show _ / 5 = _
    omega
  have hrow : ∀ c : Bool × Byte, (characterBits c.1 c.2).length = 11 := fun c =>
    characterBits_length c.1 c.2
  have hget : f.bits[k * 11 + i.val]? = (characterBits mark data)[i.val]? := by
    rw [TxFrame.bits, getElem?_flatMap_rows hrow hk i.isLt]
  simp only [transmitHigh, hs, hq, hbit, hget, characterBits_get, Option.getD_some]

/-- Settles O6: each signal by the test that computes it, an OUT pin by the level composed for its function,
and a transmit line by the place of a bit in the frame it sends. -/
theorem signalsAndPinsFollowTheirCauses : Obligations.SignalsAndPinsFollowTheirCauses := by
  refine ⟨fun _ _ => State.functionSignal_iff, fun _ => rfl, fun _ _ => State.clampActive_iff,
    fun _ _ => State.permit_iff, fun _ _ => State.timerRunning_iff, fun _ => State.heaterPause_iff,
    fun _ => State.attention_iff, fun _ _ => State.pinDriven_other, fun s n hr hm => ?_, fun s p hr => ?_⟩
  · intro drive latch
    have hdriven : ∀ active : Bool, s.activeLevel s.terminals[n] = active →
        s.pinDriven n = drive active := fun _ h =>
      (State.pinDriven_out hr hm).trans (h ▸ some_activeThrough ..)
    refine ⟨fun h hf => ?_, fun hf => ?_, fun hf => ?_, fun hf => ?_, fun hf => ?_, fun hf => ?_⟩
    all_goals exact hdriven _ (by rw [State.activeLevel, hf] <;> rfl)
  · rw [State.transmitLevel_driven hr]
    exact ⟨fun h => congrArg some (Port.transmitHigh_idle h), fun f rest k mark data i j hq hk hs =>
      congrArg some (Port.transmitHigh_sending i j hq hk hs)⟩

end Sys2Proof.Machine
end

section
/-! SUPPORT. The conversion of a probe code, and a sound reading (R156, R157). -/

namespace Sys2Proof.Machine

variable {s : State} {r : Terminal} {n : TermId} {code : ProbeCode} {now : Clock}

/-- The converted code as the floor of R157's quotient, saturated. -/
theorem convertCode_of_floor {q : Int} (hlo : q * 4095 ≤ code.toNat * 2500 + 2047)
    (hhi : (code.toNat : Int) * 2500 + 2047 < (q + 1) * 4095) :
    convertCode code = max (-300) (min 1500 (q - 500)) := by
  have hfloor : (((code.toNat * 2500 + 2047) / 4095 : Nat) : Int) = q := by omega
  rw [convertCode, hfloor, Int.sub_eq_add_neg, Int.add_comm]

theorem convertCode_low (h : code.toNat ≤ 327) : convertCode code = -300 := by
  unfold convertCode
  omega

theorem convertCode_high (h : 3276 ≤ code.toNat) : convertCode code = 1500 := by
  unfold convertCode
  omega

theorem convertCode_bounds (code : ProbeCode) : -300 ≤ convertCode code ∧ convertCode code ≤ 1500 := by
  unfold convertCode
  omega

theorem railReading_eq_false (hlo : 1 ≤ code.toNat) (hhi : code.toNat ≤ 4094) :
    railReading code = false := by
  rw [← Bool.not_eq_true, railReading_iff]
  omega

/-- A sound reading is the probe value, and a probe that was OK stays so (R156, R157). -/
theorem Terminal.sample_sound (hread : railReading code = false) :
    (r.sample code now).probeValue = some (convertCode code)
      ∧ (r.probeOk = true → (r.sample code now).probeOk = true) := by
  have hsample := r.sample_eq code now (rail := False) (by simp [hread])
  rw [hsample]
  refine ⟨rfl, fun hok => ?_⟩
  simp [hok]

/-- A sound reading of a probe that is OK reaches the segments that name it (R29). -/
theorem State.takeSample_sound (hread : railReading code = false) (hok : s.terminals[n].probeOk = true) :
    (s.takeSample n code).thermal
      = settleSegments (s.thermal.map (Segment.read n (convertCode code))) := by
  obtain ⟨hvalue, hstays⟩ := Terminal.sample_sound (r := s.terminals[n]) (now := s.clock) hread
  obtain ⟨ports, -, htaken⟩ := s.takeSample_eq n code
  rw [htaken]
  show s.sampledSegments n _ = _
  rw [sampledSegments, hvalue, hstays hok]

/-- Settles O47: the conversion by its quotient and its two bounds, a reading by the sample that takes it. -/
theorem probeCodesConvertToTemperatures : Obligations.ProbeCodesConvertToTemperatures := by
  refine ⟨fun code q _ _ hlo hhi => ⟨?_, convertCode_low, convertCode_high⟩, by decide,
    fun r code now h1 h2 => Terminal.sample_sound (railReading_eq_false h1 h2),
    fun s n code h1 h2 => State.takeSample_sound (railReading_eq_false h1 h2)⟩
  rw [convertCode_of_floor hlo hhi]
  split_ifs <;> omega

end Sys2Proof.Machine
end

section
/-! SUPPORT. The messages TERM_CONFIG, TERM_WRITE and TERM_ACK: what each writes, and what a terminal taken
out of use hands on (R148 to R150, R154, R160). -/

namespace Sys2Proof.Machine

variable {s : State} {b : List Byte} {f : TermFields}

/-! ### TERM_CONFIG (R148 to R150) -/

theorem State.standsElsewhere_iff {n : TermId} {fn : TermFunction} :
    s.standsElsewhere n fn = true ↔ ∃ m : TermId, m ≠ n ∧ s.terminals[m].function = fn := by
  simp [standsElsewhere, indices]

/-- The function may stand on the terminal: it is one that many may have, or it stands on no other (R148). -/
def State.mayStand (s : State) (n : TermId) (fn : TermFunction) : Prop :=
  fn.unique = true → ∀ m : TermId, m ≠ n → s.terminals[m].function ≠ fn

theorem State.mayStand_iff {n : TermId} {fn : TermFunction} :
    s.mayStand n fn ↔ (fn.unique && s.standsElsewhere n fn) = false := by
  rw [mayStand, ← Bool.not_eq_true, Bool.and_eq_true, standsElsewhere_iff]
  push Not
  rfl

/-- A TERM_CONFIG that passes its checks takes effect (R149). -/
theorem ruleTermConfig_passed (hf : termFieldsOf b = some f)
    (hm : s.terminals[f.terminal].mode = .disabled ∨ f.mode = .disabled)
    (hfit : functionFits f.mode f.function = true) (hstand : s.mayStand f.terminal f.function) :
    ruleTermConfig b s = (s.configure f, ⟨.ok, 0, .none⟩) := by
  have hfree : ¬(f.mode ≠ .disabled ∧ s.terminals[f.terminal].mode ≠ .disabled) := fun ⟨h, h'⟩ =>
    hm.elim h' h
  rw [State.mayStand_iff] at hstand
  simp only [ruleTermConfig, hf, if_neg hfree, hfit, hstand]
  rfl

/-- The record a TERM_CONFIG leaves is written. -/
def State.reconfigured (s : State) (f : TermFields) : State :=
  s.setTerminal f.terminal (s.terminals[f.terminal].configured f s.pinHigh[f.terminal] s.clock)

theorem State.configure_eq (s : State) (f : TermFields) :
    s.configure f = (s.reconfigured f).leaveMode f.terminal s.terminals[f.terminal] := rfl

/-- A terminal taken out of use hands a clamp drop on, or the fault of a probe that was OK (R150). -/
theorem State.leaveMode_clamp {n : TermId} {old : Terminal} {bay : Fin 24} (hm : old.mode = .switchIn)
    (hf : old.function = .clampBay bay) (hl : old.level = true) :
    s.leaveMode n old = s.clampDrop bay.val := by
  simp only [leaveMode, hm, hf, hl, if_true]

theorem State.leaveMode_probe {n : TermId} {old : Terminal} (hm : old.mode = .probeIn)
    (hok : old.probeOk = true) : s.leaveMode n old = s.probeFault n := by
  simp only [leaveMode, hm, hok, if_true]

/-- Any other terminal hands nothing on: its signal ends with its mode. -/
theorem State.leaveMode_quiet {n : TermId} {old : Terminal}
    (h : old.mode = .disabled ∨ old.mode = .out
      ∨ old.mode = .switchIn ∧ (old.level = false ∨ ∀ bay : Fin 24, old.function ≠ .clampBay bay)
      ∨ old.mode = .probeIn ∧ old.probeOk = false) : s.leaveMode n old = s := by
  unfold leaveMode
  split
  · rename_i hm
    split
    · rename_i bay hf
      have hl : old.level = false := by simpa [hm, hf] using h
      rw [hl]
      rfl
    · rfl
  · rename_i hm
    have hok : old.probeOk = false := by simpa [hm] using h
    rw [hok]
    rfl
  · rfl

/-- A function whose terminal is taken out of use has no signal (R148, R160). -/
theorem State.reconfigured_signal {fn : TermFunction} (hm : f.mode = .disabled)
    (hother : ∀ n : TermId, n ≠ f.terminal → s.terminals[n].function ≠ fn) :
    (s.reconfigured f).functionSignal fn = false := by
  rw [← Bool.not_eq_true, functionSignal_iff]
  rintro ⟨n, hf, hswitch, -⟩
  rw [reconfigured, setTerminal_get] at hf hswitch
  by_cases e : n = f.terminal
  · rw [if_pos e] at hswitch
    exact absurd (hm.symm.trans hswitch) (by decide)
  · rw [if_neg e] at hf
    exact hother n e hf

/-- The taking of a TERM_CONFIG that passes its checks. -/
theorem termConfig_taken (ht : s.takes supervisorPort ⟨kindTermConfig, b⟩ = true) (hl : b.length = 5)
    (hf : termFieldsOf b = some f)
    (hm : s.terminals[f.terminal].mode = .disabled ∨ f.mode = .disabled)
    (hfit : functionFits f.mode f.function = true) (hstand : s.mayStand f.terminal f.function) :
    exec (.termConfig b) s = .next ((((s.dequeued supervisorPort).configure f).appendReply supervisorPort
      kindTermConfig ⟨.ok, 0, .none⟩).sendNotices) :=
  takeMessage_ruled ht (by decide) (lengthFits_supervisor (n := 5) (by decide) hl)
    (ruleTermConfig_passed (s := s.dequeued supervisorPort) hf hm hfit hstand)

/-! ### TERM_WRITE and TERM_ACK (R154) -/

theorem bitOfCode_toNat (v : Bool) : bitOfCode v.toNat = some v := by cases v <;> rfl

theorem ruleTermWrite_written {n : TermId} {latch enable : Bool} (h0 : u8At b 0 = n.val)
    (h1 : u8At b 1 = latch.toNat) (h2 : u8At b 2 = enable.toNat) : ruleTermWrite b s
      = (s.setTerminal n (s.terminals[n].written latch enable), ⟨.ok, 0, .none⟩) := by
  simp only [ruleTermWrite, indexAt_of_eq h0, h1, h2, bitOfCode_toNat]
  rfl

/-- The bytes of a TERM_ACK name terminals when each is the number of one (R154). -/
theorem terminalsNamed_of_lt {ts : List Byte} (h : ∀ x ∈ ts, x.toNat < 40) :
    ∃ set : List TermId, terminalsNamed ts = some set
      ∧ ∀ n : TermId, n ∈ set ↔ BitVec.ofNat 8 n.val ∈ ts := by
  induction ts with
  | nil => exact ⟨[], rfl, by simp⟩
  | cons x ts ih =>
    obtain ⟨hx, hts⟩ := List.forall_mem_cons.1 h
    obtain ⟨set, hset, hmem⟩ := ih hts
    refine ⟨⟨x.toNat, hx⟩ :: set, by simp [terminalsNamed, hx, hset], fun n => ?_⟩
    have hnumber : n = ⟨x.toNat, hx⟩ ↔ BitVec.ofNat 8 n.val = x := by
      rw [Fin.ext_iff, BitVec.toNat_eq, BitVec.toNat_ofNat, Nat.mod_eq_of_lt (by omega)]
    rw [List.mem_cons, List.mem_cons, hmem, hnumber]

theorem terminalsNamed_none {ts : List Byte} (h : ∃ x ∈ ts, 40 ≤ x.toNat) : terminalsNamed ts = none := by
  induction ts with
  | nil => simp at h
  | cons x ts ih =>
    unfold terminalsNamed
    split
    · rename_i hx
      have hts : ∃ y ∈ ts, 40 ≤ y.toNat := by
        obtain ⟨y, hy, hge⟩ := h
        rcases List.mem_cons.1 hy with rfl | hy
        · omega
        · exact ⟨y, hy, hge⟩
      rw [ih hts]
      rfl
    · rfl

theorem State.acknowledge_frame (s : State) (set : List TermId) :
    s.acknowledge set = { s with terminals := (s.acknowledge set).terminals } := by
  unfold acknowledge
  induction set generalizing s with
  | nil => rfl
  | cons n set ih => exact ih _

theorem State.acknowledge_get (s : State) (set : List TermId) (n : TermId) :
    (s.acknowledge set).terminals[n]
      = { s.terminals[n] with pending := s.terminals[n].pending && !decide (n ∈ set) } := by
  induction set generalizing s with
  | nil => simp [acknowledge]
  | cons m set ih =>
    refine (ih (s.setTerminal m { s.terminals[m] with pending := false })).trans ?_
    rw [setTerminal_get]
    by_cases e : n = m
    · subst e
      simp
    · simp [e]

theorem lengthFits_termAck {ts : List Byte} (h : ts.length < 60) :
    lengthFits supervisorPort kindTermAck (BitVec.ofNat 8 ts.length :: ts) = true := by
  have hcount : ts.length % 256 = ts.length := Nat.mod_eq_of_lt (by omega)
  have hack : (kindTermAck == kindTermAck && roleOf supervisorPort == .supervisor) = true := by decide
  rw [lengthFits, if_pos hack]
  simp [hcount]

/-- A TERM_ACK that names terminals clears their pending bits and reports the ones left (R154). -/
theorem ruleTermAck_acknowledged {x : Byte} {ts : List Byte} {set : List TermId}
    (h : terminalsNamed ts = some set) : ruleTermAck (x :: ts) s = (s.acknowledge set,
      ⟨.ok, 0, .terminalSet ((s.acknowledge set).terminalsWhere Terminal.pending)⟩) := by
  rw [ruleTermAck, List.tail_cons, h]

theorem ruleTermAck_badField {x : Byte} {ts : List Byte} (h : terminalsNamed ts = none) :
    ruleTermAck (x :: ts) s = (s, ⟨.badField, 0, .none⟩) := by
  rw [ruleTermAck, List.tail_cons, h]
  exact refuse_eq (by decide) _ s

/-- A TERM_ACK whose rule changes no port is answered, and no notice is sent. -/
theorem termAck_answered {ts : List Byte} {s' : State} {r : Reply} (hlen : ts.length < 60)
    (hready : s.ready supervisorPort kindTermAck (BitVec.ofNat 8 ts.length :: ts))
    (hr : ruleTermAck (BitVec.ofNat 8 ts.length :: ts) (s.dequeued supervisorPort) = (s', r))
    (hp : s'.ports = (s.dequeued supervisorPort).ports) :
    exec (.termAck (BitVec.ofNat 8 ts.length :: ts)) s
      = .next { s' with ports := repliedPorts s.ports supervisorPort kindTermAck r } :=
  takeMessage_answered hready.2 hready.1 (by decide) (lengthFits_termAck hlen) hr hp

/-- Settles O51: a TERM_CONFIG by the record it writes and what leaving the old mode hands on, TERM_WRITE and
TERM_ACK by their rules. -/
theorem terminalsAreConfiguredAndWritten : Obligations.TerminalsAreConfiguredAndWritten := by
  refine ⟨fun b s f ht hl hf hm hfit hstand => ?_, fun b s n latch enable hready hl h0 h1 h2 => ?_,
    fun ts s hlen hready => ⟨fun hlt => ?_, fun hge => ?_⟩⟩
  · intro old r s1 answer
    have hconfigure : (s.dequeued supervisorPort).configure f = s1.leaveMode f.terminal old :=
      State.configure_eq (s.dequeued supervisorPort) f
    have htaken := termConfig_taken ht hl hf hm hfit hstand
    rw [hconfigure] at htaken
    refine ⟨fun hs hdis => ?_, fun bay hmode hfn hlevel => ?_, fun hmode hok => ?_, fun hquiet => ?_,
      fun fn hmode _ hother => ?_⟩
    · have hrule := ruleTermConfig_passed (s := s.dequeued supervisorPort) hf hm hfit hstand
      rw [hconfigure, State.leaveMode_quiet (.inl hdis)] at hrule
      exact supervisor_answered (n := 5) ⟨ht, hs⟩ (by decide) hl hrule rfl
    · rw [htaken, State.leaveMode_clamp hmode hfn hlevel]
    · rw [htaken, State.leaveMode_probe hmode hok]
    · rw [htaken, State.leaveMode_quiet (.inr hquiet)]
    · exact State.reconfigured_signal (s := s.dequeued supervisorPort) hmode hother
  · exact supervisor_answered (n := 3) hready (by decide) hl
      (ruleTermWrite_written (s := s.dequeued supervisorPort) h0 h1 h2) rfl
  · obtain ⟨set, hset, hmem⟩ := terminalsNamed_of_lt hlt
    have hframe := (s.dequeued supervisorPort).acknowledge_frame set
    have hrow := (s.dequeued supervisorPort).acknowledge_get set
    have hnext := termAck_answered hlen hready (ruleTermAck_acknowledged hset) (by rw [hframe])
    generalize (s.dequeued supervisorPort).acknowledge set = u at hframe hrow hnext
    refine ⟨_, hnext, fun n => ?_, ?_⟩
    · have hn : (n ∈ set) = (BitVec.ofNat 8 n.val ∈ ts) := propext (hmem n)
      simp only [← hn]
      exact hrow n
    · rw [hframe]
      rfl
  · exact termAck_answered (s' := s.dequeued supervisorPort) hlen hready
      (ruleTermAck_badField (terminalsNamed_none hge)) rfl

end Sys2Proof.Machine
end

section
/-! SUPPORT. What leaves the terminals as they are. The rule of a message is a tree of tests: at each of its
ends it refuses, or runs shared operations, and of those only `State.setTerminal` writes a terminal. -/

namespace Sys2Proof.Machine

variable (s : State)

@[simp] theorem refuse_state (kind : Byte) (code : ResultCode) : (refuse kind code s).1 = s := rfl

/-! ### The shared operations -/

@[simp] theorem State.makePending_terminals (p : PortId) (k : NoticeKind) :
    (s.makePending p k).terminals = s.terminals := by rw [makePending_eq]
@[simp] theorem State.clearPending_terminals (p : PortId) (k : NoticeKind) :
    (s.clearPending p k).terminals = s.terminals := rfl
@[simp] theorem State.noteTrouble_terminals (a b : HeadState) :
    (s.noteTrouble a b).terminals = s.terminals := by rw [noteTrouble_eq]
@[simp] theorem State.judgeFreeze_terminals : s.judgeFreeze.terminals = s.terminals := rfl
@[simp] theorem State.placeOn_terminals (r : Rail) (e : Entry) :
    (s.placeOn r e).terminals = s.terminals := rfl
@[simp] theorem State.removeEntry_terminals (r : Rail) (h : Slot) :
    (s.removeEntry r h).terminals = s.terminals := rfl
@[simp] theorem State.startTimer_terminals (h : Slot) (stage : TimerStage) (n : Nat) :
    (s.startTimer h stage n).terminals = s.terminals := rfl
@[simp] theorem State.stopTimer_terminals (h : Slot) : (s.stopTimer h).terminals = s.terminals := rfl
@[simp] theorem State.changeHole_terminals (i : Nat) (f : Hole → Hole) :
    (s.changeHole i f).terminals = s.terminals := rfl
@[simp] theorem State.testComplete_terminals : s.testComplete.terminals = s.terminals := rfl
@[simp] theorem State.writeLog_terminals (i : Nat) (e : LogEvent) (a : Bool) :
    (s.writeLog i e a).terminals = s.terminals := by rw [writeLog_record]
@[simp] theorem State.raiseForHole_terminals (c : DevClass) (i : Nat) (h : Slot) (a b : Int) :
    (s.raiseForHole c i h a b).terminals = s.terminals := by rw [raiseForHole_eq]
@[simp] theorem State.raiseUnbound_terminals (c : DevClass) (a b : Int) :
    (s.raiseUnbound c a b).terminals = s.terminals := by rw [raiseUnbound_eq]
@[simp] theorem State.setStatus_terminals (h : Slot) (st : HeadStatus) :
    (s.setStatus h st).terminals = s.terminals := by rw [setStatus_eq]
@[simp] theorem State.setLastHold_terminals (h : Slot) (i : Nat) (c : DevClass) :
    (s.setLastHold h i c).terminals = s.terminals := by rw [setLastHold_eq]
@[simp] theorem State.endMoveGrant_terminals (h : Slot) (st : HeadStatus) :
    (s.endMoveGrant h st).terminals = s.terminals := by rw [endMoveGrant_eq]
@[simp] theorem State.endHoleGrant_terminals (h : Slot) (g : HoleGrant) (spent : Bool) (st : HeadStatus) :
    (s.endHoleGrant h g spent st).terminals = s.terminals := by rw [endHoleGrant_eq]
@[simp] theorem State.endWithHold_terminals (h : Slot) (hd : Head) (g : HoleGrant) (c : DevClass)
    (st : HeadStatus) : (s.endWithHold h hd g c st).terminals = s.terminals := by simp [endWithHold]
@[simp] theorem State.appendReply_terminals (p : PortId) (kind : Byte) (r : Reply) :
    (s.appendReply p kind r).terminals = s.terminals := rfl
@[simp] theorem State.sendNotices_terminals : s.sendNotices.terminals = s.terminals := by
  rw [sendNotices_eq]

/-- A fold of operations that each leave the terminals leaves them. -/
theorem State.foldl_terminals {α : Type} {f : State → α → State}
    (hf : ∀ u a, (f u a).terminals = u.terminals) (l : List α) :
    (l.foldl f s).terminals = s.terminals := by
  induction l generalizing s with
  | nil => rfl
  | cons a l ih => exact (ih (f s a)).trans (hf s a)

@[simp] theorem State.raiseSubst_terminals (ks : List Nat) : (s.raiseSubst ks).terminals = s.terminals := by
  obtain ⟨ports, -, heq⟩ := s.raiseSubst_eq ks
  rw [heq]

@[simp] theorem State.changeSegments_terminals (f : Segment → Segment) :
    (s.changeSegments f).terminals = s.terminals := raiseSubst_terminals (s.setThermal _) _

@[simp] theorem State.expireHold_terminals (k : Nat) : (s.expireHold k).terminals = s.terminals :=
  raiseSubst_terminals (s.setThermal _) _

@[simp] theorem State.expireDueHolds_terminals : s.expireDueHolds.terminals = s.terminals :=
  s.foldl_terminals (fun u k => by split <;> simp) _

@[simp] theorem State.expireClass_terminals (c : RivetClass) : (s.expireClass c).terminals = s.terminals :=
  s.foldl_terminals (f := fun acc v => acc.setHeat (acc.heat.expire v)) (fun _ _ => rfl) _

@[simp] theorem State.clampDrop_terminals (bay : Nat) : (s.clampDrop bay).terminals = s.terminals := by
  rw [(s.clampDrop_handedOn bay).frame]

@[simp] theorem State.setPhase_terminals (h : Slot) (phase : SetPhase) :
    (s.setPhase h phase).terminals = s.terminals := by
  rw [setPhase_eq]

@[simp] theorem State.linkBreak_terminals (h : Slot) : (s.linkBreak h).terminals = s.terminals := by
  unfold linkBreak
  repeat' split
  all_goals simp

@[simp] theorem State.takeBreak_terminals (p : PortId) : (s.takeBreak p).terminals = s.terminals := by
  unfold takeBreak
  simp only
  split <;> simp

@[simp] theorem State.expireTimer_terminals (h : Slot) : (s.expireTimer h).terminals = s.terminals := by
  unfold expireTimer
  repeat' split
  all_goals simp

theorem State.receiveCharacter_terminals (p : PortId) (mark : Bool) (data : Byte) (stopHigh : Bool) :
    (s.receiveCharacter p mark data stopHigh).terminals = s.terminals := by
  unfold receiveCharacter
  simp only
  split <;> simp

theorem State.tick_terminals : s.tick.terminals = s.terminals := by
  unfold tick
  repeat' split
  all_goals rfl

/-! ### The heads and the tray (R64 to R86, R107 to R114) -/

theorem ruleAttach_terminals (h : Slot) (b : List Byte) : (ruleAttach h b s).1.terminals = s.terminals := by
  unfold ruleAttach State.attachHead
  dsimp only
  repeat' split
  all_goals rfl

theorem ruleDetach_terminals (h : Slot) : (ruleDetach h s).1.terminals = s.terminals := by
  unfold ruleDetach
  repeat' split
  all_goals rfl

theorem State.grantHole_terminals (h : Slot) (hd : Head) (c : Eligible) :
    (s.grantHole h hd c).1.terminals = s.terminals := by
  unfold grantHole
  dsimp only
  repeat' split
  all_goals simp [holdAtLimit, commitHole]

theorem ruleNext_terminals (h : Slot) : (ruleNext h s).1.terminals = s.terminals := by
  unfold ruleNext State.nextHole
  repeat' split
  all_goals simp [State.grantHole_terminals]

theorem ruleTake_terminals (h : Slot) (b : List Byte) : (ruleTake h b s).1.terminals = s.terminals := by
  unfold ruleTake State.takeHole
  repeat' split
  all_goals simp [State.grantHole_terminals]

theorem ruleMove_terminals (h : Slot) (b : List Byte) : (ruleMove h b s).1.terminals = s.terminals := by
  unfold ruleMove State.moveTo
  repeat' split
  all_goals rfl

theorem ruleArrived_terminals (h : Slot) : (ruleArrived h s).1.terminals = s.terminals := by
  unfold ruleArrived State.judgeArrival
  dsimp only
  repeat' split
  all_goals simp [State.standAt]

theorem ruleProgress_terminals (h : Slot) : (ruleProgress h s).1.terminals = s.terminals := by
  unfold ruleProgress
  repeat' split
  all_goals rfl

theorem ruleAbandon_terminals (h : Slot) : (ruleAbandon h s).1.terminals = s.terminals := by
  unfold ruleAbandon
  repeat' split
  all_goals simp [State.abandonHole]

@[simp] theorem State.endWithReport_terminals (h : Slot) (hd : Head) (g : HoleGrant) (spent : Bool)
    (held : Option DevClass) (done : HoleState) (event : LogEvent) :
    (s.endWithReport h hd g spent held done event).terminals = s.terminals := by
  unfold endWithReport
  repeat' split
  all_goals simp

theorem ruleDrillDone_terminals (h : Slot) (b : List Byte) :
    (ruleDrillDone h b s).1.terminals = s.terminals := by
  unfold ruleDrillDone
  repeat' split
  all_goals simp [State.drillReport, apply_ite State.terminals]

theorem ruleSetDone_terminals (h : Slot) : (ruleSetDone h s).1.terminals = s.terminals := by
  unfold ruleSetDone State.setReport
  repeat' split
  all_goals simp

theorem ruleHaltAt_terminals (h : Slot) (b : List Byte) : (ruleHaltAt h b s).1.terminals = s.terminals := by
  unfold ruleHaltAt
  repeat' split
  all_goals simp [State.putDown, State.standAt]

theorem ruleHeadRecover_terminals (b : List Byte) : (ruleHeadRecover b s).1.terminals = s.terminals := by
  unfold ruleHeadRecover State.recoverHead
  dsimp only
  repeat' split
  all_goals simp [State.putDown, State.standAt, refuseOverlap]

theorem ruleHeadEvict_terminals (b : List Byte) : (ruleHeadEvict b s).1.terminals = s.terminals := by
  unfold ruleHeadEvict
  repeat' split
  all_goals simp [State.detachHead]

theorem ruleFeed_terminals (h : Slot) : (ruleFeed h s).1.terminals = s.terminals := by
  unfold ruleFeed State.feedHead
  repeat' split
  all_goals simp

theorem ruleRivetOut_terminals (b : List Byte) : (ruleRivetOut b s).1.terminals = s.terminals := by
  unfold ruleRivetOut State.placeRivet
  dsimp only
  repeat' split
  all_goals simp [State.rejectTemp, State.handOver]

/-! ### The Plan Store (Chapter 1) -/

theorem rulePlanBegin_terminals (b : List Byte) : (rulePlanBegin b s).1.terminals = s.terminals := by
  unfold rulePlanBegin
  repeat' split
  all_goals rfl

theorem rulePlanSegment_terminals (b : List Byte) : (rulePlanSegment b s).1.terminals = s.terminals := by
  unfold rulePlanSegment
  dsimp only
  repeat' split
  all_goals rfl

theorem rulePlanBay_terminals (b : List Byte) : (rulePlanBay b s).1.terminals = s.terminals := by
  unfold rulePlanBay
  dsimp only
  repeat' split
  all_goals rfl

theorem rulePlanHole_terminals (b : List Byte) : (rulePlanHole b s).1.terminals = s.terminals := by
  unfold rulePlanHole
  repeat' split
  all_goals rfl

theorem rulePlanSeal_terminals : (rulePlanSeal s).1.terminals = s.terminals := by
  unfold rulePlanSeal
  repeat' split
  all_goals simp [State.takeSegments]

theorem rulePlanAbort_terminals : (rulePlanAbort s).1.terminals = s.terminals := by
  unfold rulePlanAbort
  repeat' split
  all_goals rfl

theorem rulePlanRead_terminals (b : List Byte) : (rulePlanRead b s).1.terminals = s.terminals := by
  unfold rulePlanRead
  repeat' split
  all_goals rfl

theorem ruleDatum_terminals (b : List Byte) : (ruleDatum b s).1.terminals = s.terminals := by
  unfold ruleDatum
  repeat' split
  all_goals rfl

theorem ruleHoleReleaseRedo_terminals (b : List Byte) :
    (ruleHoleReleaseRedo b s).1.terminals = s.terminals := by
  unfold ruleHoleReleaseRedo
  repeat' split
  all_goals rfl

theorem ruleHoleReleaseAccept_terminals (b : List Byte) :
    (ruleHoleReleaseAccept b s).1.terminals = s.terminals := by
  unfold ruleHoleReleaseAccept State.acceptHole
  dsimp only
  repeat' split
  all_goals simp

theorem ruleHoleExcuse_terminals (b : List Byte) : (ruleHoleExcuse b s).1.terminals = s.terminals := by
  unfold ruleHoleExcuse
  repeat' split
  all_goals simp [State.excuseHole]

theorem ruleFrameEnd_terminals : (ruleFrameEnd s).1.terminals = s.terminals := by
  unfold ruleFrameEnd
  repeat' split
  all_goals rfl

/-! ### Fences, deviations, the log and the queries -/

theorem ruleFenceSet_terminals (b : List Byte) : (ruleFenceSet b s).1.terminals = s.terminals := by
  unfold ruleFenceSet
  dsimp only
  repeat' split
  all_goals rfl

theorem ruleFenceClear_terminals (b : List Byte) : (ruleFenceClear b s).1.terminals = s.terminals := by
  unfold ruleFenceClear
  repeat' split
  all_goals rfl

theorem ruleDevMode_terminals (b : List Byte) : (ruleDevMode b s).1.terminals = s.terminals := by
  unfold ruleDevMode
  repeat' split
  all_goals rfl

theorem ruleDevClear_terminals (b : List Byte) : (ruleDevClear b s).1.terminals = s.terminals := by
  unfold ruleDevClear
  repeat' split
  all_goals rfl

theorem ruleLogRead_terminals (b : List Byte) : (ruleLogRead b s).1.terminals = s.terminals := by
  unfold ruleLogRead
  dsimp only
  repeat' split
  all_goals rfl

theorem ruleGetParam_terminals (b : List Byte) : (ruleGetParam b s).1.terminals = s.terminals := by
  unfold ruleGetParam
  split <;> rfl

theorem ruleTermRead_terminals (b : List Byte) : (ruleTermRead b s).1.terminals = s.terminals := by
  unfold ruleTermRead
  split <;> rfl

theorem ruleLineQuery_terminals (b : List Byte) : (ruleLineQuery b s).1.terminals = s.terminals := by
  unfold ruleLineQuery
  split <;> rfl

/-! ### Writes of a parameter (R178) -/

/-- A write of a parameter is refused, or has its effect with the value stored. -/
theorem State.writeParam_cases (b : List Byte) (effect : Nat → State) :
    (s.writeParam b effect).1 = s ∨ ∃ v : Nat, (s.writeParam b effect).1 = effect v := by
  unfold writeParam
  split
  · exact .inl rfl
  · exact .inr ⟨_, rfl⟩

theorem State.writeParam_terminals (b : List Byte) {effect : Nat → State}
    (he : ∀ v, (effect v).terminals = s.terminals) :
    (s.writeParam b effect).1.terminals = s.terminals := by
  rcases s.writeParam_cases b effect with h | ⟨v, h⟩ <;> rw [h]
  exact he v

theorem ruleSetParam_terminals (b : List Byte) : (ruleSetParam b s).1.terminals = s.terminals :=
  s.writeParam_terminals b fun _ => rfl

theorem ruleSetProbeHold_terminals (b : List Byte) : (ruleSetProbeHold b s).1.terminals = s.terminals :=
  s.writeParam_terminals b fun _ => State.expireDueHolds_terminals _

theorem ruleSetStaleAction_terminals (b : List Byte) :
    (ruleSetStaleAction b s).1.terminals = s.terminals := s.writeParam_terminals b fun _ => rfl

theorem ruleSetHeatMin_terminals (b : List Byte) : (ruleSetHeatMin b s).1.terminals = s.terminals :=
  s.writeParam_terminals b fun _ => rfl

theorem ruleSetHeatMax_terminals (b : List Byte) : (ruleSetHeatMax b s).1.terminals = s.terminals :=
  s.writeParam_terminals b fun _ => rfl

theorem ruleSetBudget_terminals (b : List Byte) : (ruleSetBudget b s).1.terminals = s.terminals :=
  s.writeParam_terminals b fun _ => State.expireClass_terminals _ _

end Sys2Proof.Machine
end

section
/-! SUPPORT. The laws of the terminals: what they ask of one record, the changes of a record that keep them,
and the events and messages that write one (R147 to R157). -/

namespace Sys2Proof.Machine

variable {s t : State} {n : TermId} {r : Terminal}

/-! ### The record of one terminal (R147, R148) -/

/-- The law of one terminal's record, part by part. -/
structure Terminal.Fits (r : Terminal) : Prop where
  function : functionFits r.mode r.function = true
  pending : r.pending = true → r.pendingEnable = true
  switch : r.mode ≠ .switchIn → r.level = false ∧ r.candidate = none ∧ r.pending = false
  candidate : ∀ c : Candidate, r.candidate = some c → c.active ≠ r.level
  probe : r.mode ≠ .probeIn →
    r.probeOk = false ∧ r.probeValue = none ∧ r.lastCode = none ∧ r.runCount = 0
  run : r.runCount ≤ 2
  value : ∀ v : Int, r.probeValue = some v → -300 ≤ v ∧ v ≤ 1500

theorem Terminal.recordFits_iff : r.recordFits = true ↔ r.Fits := by
  have himp : ∀ {p q : Bool}, (!p || q) = true ↔ (p = true → q = true) := by decide
  have hcand : r.candidate.all (fun c => c.active != r.level) = true
      ↔ ∀ c : Candidate, r.candidate = some c → c.active ≠ r.level := by
    cases r.candidate <;> simp
  have hvalue : r.probeValue.all (fun v => decide (-300 ≤ v) && decide (v ≤ 1500)) = true
      ↔ ∀ v : Int, r.probeValue = some v → -300 ≤ v ∧ v ≤ 1500 := by
    cases r.probeValue <;> simp
  have hswitch : (r.mode == .switchIn || (!r.level && r.candidate.isNone && !r.pending)) = true
      ↔ (r.mode ≠ .switchIn → r.level = false ∧ r.candidate = none ∧ r.pending = false) := by
    simp [← or_iff_not_imp_left, and_assoc]
  have hprobe : (r.mode == .probeIn
        || (!r.probeOk && r.probeValue.isNone && r.lastCode.isNone && r.runCount == 0)) = true
      ↔ (r.mode ≠ .probeIn →
        r.probeOk = false ∧ r.probeValue = none ∧ r.lastCode = none ∧ r.runCount = 0) := by
    simp [← or_iff_not_imp_left, and_assoc]
  rw [recordFits]
  simp only [Bool.and_eq_true, decide_eq_true_iff, himp, hcand, hvalue, hswitch, hprobe, and_assoc]
  exact ⟨fun ⟨hfn, hp, hs, hc, hpr, hrun, hv⟩ => ⟨hfn, hp, hs, hc, hpr, hrun, hv⟩,
    fun ⟨hfn, hp, hs, hc, hpr, hrun, hv⟩ => ⟨hfn, hp, hs, hc, hpr, hrun, hv⟩⟩

theorem Terminal.powerOn_fits : Terminal.powerOn.Fits := recordFits_iff.1 rfl

/-- Only a SWITCH_IN terminal has a candidate. -/
theorem Terminal.Fits.mode_of_candidate (h : r.Fits) {c : Candidate} (hc : r.candidate = some c) :
    r.mode = .switchIn := by
  by_contra hne
  obtain ⟨-, hnone, -⟩ := h.switch hne
  exact absurd (hnone.symm.trans hc) (by simp)

/-- An accepted edge: the level is the candidate's, and pending needs its enable (R151, R153). -/
theorem Terminal.Fits.accepted (h : r.Fits) (hm : r.mode = .switchIn) (active : Bool) :
    (r.accepted active).Fits :=
  { h with
    pending := fun hp => (Bool.or_eq_true_iff.1 hp).elim h.pending fun hset =>
      (Bool.and_eq_true_iff.1 hset).1
    switch := fun hne => absurd hm hne
    candidate := fun _ hc => nomatch hc }

/-- A raw level away from the debounced one becomes the candidate (R151). -/
theorem Terminal.Fits.withCandidate (h : r.Fits) (hm : r.mode = .switchIn) {c : Candidate}
    (hc : c.active ≠ r.level) : Fits { r with candidate := some c } :=
  { h with
    switch := fun hne => absurd hm hne
    candidate := fun _ he => Option.some.inj he ▸ hc }

theorem Terminal.Fits.withoutCandidate (h : r.Fits) : Fits { r with candidate := none } :=
  { h with
    switch := fun hne => ⟨(h.switch hne).1, rfl, (h.switch hne).2.2⟩
    candidate := fun _ hc => nomatch hc }

/-- A candidate that is due is accepted, any other waits (R152). -/
theorem Terminal.Fits.judged (h : r.Fits) (debounceMs : Nat) (now : Clock) :
    (r.judged debounceMs now).Fits := by
  unfold Terminal.judged
  split
  · split
    · rename_i hdue
      exact h.accepted hdue.1 _
    · exact h
  · exact h

theorem Terminal.judged_function (r : Terminal) (debounceMs : Nat) (now : Clock) :
    (r.judged debounceMs now).function = r.function := by
  unfold judged
  repeat' split
  all_goals rfl

/-- An acknowledgement takes pending away, or leaves it as it is (R154). -/
theorem Terminal.Fits.acknowledged (h : r.Fits) (left : Bool) :
    Fits { r with pending := r.pending && left } :=
  { h with
    pending := fun hp => h.pending (Bool.and_eq_true_iff.1 hp).1
    switch := fun hne => by
      obtain ⟨hl, hc, hp⟩ := h.switch hne
      exact ⟨hl, hc, by rw [hp, Bool.false_and]⟩ }

/-- A TERM_WRITE: pending stays where its enable does (R154). -/
theorem Terminal.Fits.written (h : r.Fits) (latch enable : Bool) : (r.written latch enable).Fits :=
  { h.acknowledged enable with pending := fun hp => (Bool.and_eq_true_iff.1 hp).2 }

/-- A sample: the run count stays below 3 and the value in its range (R156, R157). -/
theorem Terminal.Fits.sample (h : r.Fits) (hm : r.mode = .probeIn) (code : ProbeCode) (now : Clock) :
    (r.sample code now).Fits := by
  rw [r.sample_eq code now Iff.rfl]
  refine { h with probe := fun hne => absurd hm hne, run := ?_, value := fun v hv => ?_ }
  · dsimp only
    split <;> omega
  · dsimp only at hv
    split at hv
    · exact h.value v hv
    · exact Option.some.inj hv ▸ convertCode_bounds code

theorem Terminal.sample_function (r : Terminal) (code : ProbeCode) (now : Clock) :
    (r.sample code now).function = r.function := by
  rw [r.sample_eq code now Iff.rfl]

/-- A TERM_CONFIG: every field of a mode begins at rest, and only a SWITCH_IN terminal has a level (R150). -/
theorem Terminal.configured_fits {f : TermFields} (hfit : functionFits f.mode f.function = true)
    (r : Terminal) (high : Bool) (now : Clock) : (r.configured f high now).Fits where
  function := hfit
  pending hp := nomatch hp
  switch hne := by
    have hmode : (f.mode == .switchIn) = false := beq_eq_false_iff_ne.2 hne
    exact ⟨by rw [configured, hmode, Bool.false_and], rfl, rfl⟩
  candidate _ hc := nomatch hc
  probe _ := ⟨rfl, rfl, rfl, rfl⟩
  run := Nat.zero_le 2
  value _ hv := nomatch hv

/-! ### The forty terminals (R148) -/

theorem State.terminalsKept_iff : s.terminalsKept ↔ (∀ n : TermId, s.terminals[n].Fits)
    ∧ ∀ n : TermId, s.mayStand n s.terminals[n].function := by
  refine and_congr (forall_congr' fun n => Terminal.recordFits_iff) (forall_congr' fun n => ?_)
  constructor
  · exact fun h hu m hne he => hne (h m hu he.symm).symm
  · intro h m hu he
    by_contra hne
    exact h hu m (Ne.symm hne) he.symm

/-- The law reads the terminals alone. -/
theorem State.terminalsKept_congr (ht : t.terminals = s.terminals) (hs : s.terminalsKept) :
    t.terminalsKept := by
  unfold terminalsKept
  rw [ht]
  exact hs

/-- Records change and no function does. -/
theorem State.terminalsKept_rows (hs : s.terminalsKept) (hfit : ∀ n : TermId, t.terminals[n].Fits)
    (hfn : ∀ n : TermId, t.terminals[n].function = s.terminals[n].function) : t.terminalsKept := by
  obtain ⟨-, hstand⟩ := terminalsKept_iff.1 hs
  refine terminalsKept_iff.2 ⟨hfit, fun n => ?_⟩
  rw [hfn n]
  exact fun hu m hne => hfn m ▸ hstand n hu m hne

/-- One terminal is written, with a function that may stand on it. -/
theorem State.terminalsKept_set (hs : s.terminalsKept) (hr : r.Fits) (hstand : s.mayStand n r.function) :
    (s.setTerminal n r).terminalsKept := by
  obtain ⟨hfit, hothers⟩ := terminalsKept_iff.1 hs
  refine terminalsKept_iff.2 ⟨fun m => ?_, fun m hu k hne => ?_⟩
  · rw [setTerminal_get]
    split
    · exact hr
    · exact hfit m
  · rw [setTerminal_get] at hu ⊢
    rw [setTerminal_get]
    by_cases hm : m = n
    · rw [if_pos hm] at hu ⊢
      rw [if_neg (hm ▸ hne)]
      exact hstand hu k (hm ▸ hne)
    · rw [if_neg hm] at hu ⊢
      by_cases hk : k = n
      · rw [if_pos hk]
        exact fun he => hstand (he ▸ hu) m hm he.symm
      · rw [if_neg hk]
        exact hothers m hu k hne

/-- One terminal is written with the function it has. -/
theorem State.terminalsKept_update (hs : s.terminalsKept) (hr : r.Fits)
    (hfn : r.function = s.terminals[n].function) : (s.setTerminal n r).terminalsKept :=
  terminalsKept_set hs hr (hfn ▸ (terminalsKept_iff.1 hs).2 n)

theorem State.terminalsKept_fits (hs : s.terminalsKept) (n : TermId) : s.terminals[n].Fits :=
  (terminalsKept_iff.1 hs).1 n

/-! ### The events of a terminal (R151, R155) -/

theorem State.acceptEdge_terminalsKept (hs : s.terminalsKept) (hm : s.terminals[n].mode = .switchIn)
    (active : Bool) : (s.acceptEdge n active).terminalsKept := by
  have hkept : (s.setTerminal n (s.terminals[n].accepted active)).terminalsKept :=
    terminalsKept_update hs ((terminalsKept_fits hs n).accepted hm active) rfl
  exact terminalsKept_congr (by rw [acceptEdge_eq]; rfl) hkept

theorem State.acceptCandidate_terminalsKept (hs : s.terminalsKept) (n : TermId) :
    (s.acceptCandidate n).terminalsKept := by
  unfold acceptCandidate
  split
  · rename_i c hc
    exact acceptEdge_terminalsKept hs ((terminalsKept_fits hs n).mode_of_candidate hc) _
  · exact hs

theorem State.acceptDue_terminalsKept (hs : s.terminalsKept) : s.acceptDue.terminalsKept := by
  have hrow : ∀ n : TermId, s.acceptDue.terminals[n] = s.terminals[n].judged s.params.debounceMs s.clock :=
    fun n => s.acceptDue_judged.own n (List.mem_finRange n)
  refine terminalsKept_rows hs (fun n => ?_) fun n => ?_
  · rw [hrow]
    exact (terminalsKept_fits hs n).judged _ _
  · rw [hrow]
    exact Terminal.judged_function ..

theorem State.judgeRaw_terminalsKept (hs : s.terminalsKept) (hm : s.terminals[n].mode = .switchIn)
    (active : Bool) : (s.judgeRaw n active).terminalsKept := by
  have hfit := terminalsKept_fits hs n
  by_cases ha : active = s.terminals[n].level
  · rw [judgeRaw_back ha]
    exact terminalsKept_update hs hfit.withoutCandidate rfl
  · have hcand : (s.withCandidate n active).terminalsKept :=
      terminalsKept_update hs (hfit.withCandidate hm ha) rfl
    rw [judgeRaw_away ha]
    split
    · refine acceptEdge_terminalsKept hcand ?_ _
      rw [withCandidate, setTerminal_get, if_pos rfl]
      exact hm
    · exact hcand

theorem State.changePin_terminalsKept (hs : s.terminalsKept) (n : TermId) (high : Bool) :
    (s.changePin n high).terminalsKept := by
  by_cases hm : s.terminals[n].mode = .switchIn
  · rw [changePin_switch hm]
    exact judgeRaw_terminalsKept (s := s.setPin n high) hs hm _
  · rw [changePin_other hm]
    exact hs

theorem State.takeSample_terminalsKept (hs : s.terminalsKept) (hm : s.terminals[n].mode = .probeIn)
    (code : ProbeCode) : (s.takeSample n code).terminalsKept := by
  have hkept : (s.setTerminal n (s.terminals[n].sample code s.clock)).terminalsKept :=
    terminalsKept_update hs ((terminalsKept_fits hs n).sample hm code _) (Terminal.sample_function ..)
  obtain ⟨ports, -, htaken⟩ := s.takeSample_eq n code
  exact terminalsKept_congr (congrArg State.terminals htaken) hkept

/-! ### The messages of the terminals (R149, R150, R154) -/

@[simp] theorem State.leaveMode_terminals (s : State) (n : TermId) (old : Terminal) :
    (s.leaveMode n old).terminals = s.terminals := by
  unfold leaveMode State.probeFault
  repeat' split
  all_goals simp

theorem ruleTermConfig_terminalsKept (b : List Byte) (hs : s.terminalsKept) :
    (ruleTermConfig b s).1.terminalsKept := by
  unfold ruleTermConfig
  split
  · exact hs
  · rename_i f _
    split_ifs with _ hfit hstand
    · exact hs
    · exact hs
    · exact hs
    · have hfit : functionFits f.mode f.function = true := by simpa using hfit
      have hkept := State.terminalsKept_set (n := f.terminal) hs (Terminal.configured_fits hfit
        s.terminals[f.terminal] s.pinHigh[f.terminal] s.clock)
        (State.mayStand_iff.2 (Bool.eq_false_of_not_eq_true hstand))
      exact State.terminalsKept_congr (State.leaveMode_terminals ..) hkept

theorem ruleTermWrite_terminalsKept (b : List Byte) (hs : s.terminalsKept) :
    (ruleTermWrite b s).1.terminalsKept := by
  unfold ruleTermWrite
  split
  · exact State.terminalsKept_update hs ((State.terminalsKept_fits hs _).written _ _) rfl
  · exact hs

theorem ruleTermAck_terminalsKept (b : List Byte) (hs : s.terminalsKept) :
    (ruleTermAck b s).1.terminalsKept := by
  unfold ruleTermAck
  split
  · exact hs
  · rename_i set _
    refine State.terminalsKept_rows (t := s.acknowledge set) hs (fun n => ?_) fun n =>
      (congrArg Terminal.function (s.acknowledge_get set n)).trans rfl
    rw [State.acknowledge_get]
    exact (State.terminalsKept_fits hs n).acknowledged _

theorem ruleSetDebounceMs_terminalsKept (b : List Byte) (hs : s.terminalsKept) :
    (ruleSetDebounceMs b s).1.terminalsKept := by
  have hstored : ∀ q : Params, (s.setParams q).terminalsKept := fun _ => hs
  rcases s.writeParam_cases b _ with h | ⟨v, h⟩ <;> rw [ruleSetDebounceMs, h]
  · exact hs
  · exact State.acceptDue_terminalsKept (hstored _)

end Sys2Proof.Machine
end

section
/-! SUPPORT. Every step keeps the laws of the terminals: takings and events, then the table of commands (R147,
R148, R150). -/

namespace Sys2Proof.Machine

variable {s t u : State} {p : PortId} {kind : Byte} {b : List Byte} {rule : State → Taken}
  {due own : Bool} {effect : State → State}

/-! ### Takings and events -/

theorem takeMessage_terminalsKept (hr : ∀ u : State, u.terminalsKept → (rule u).1.terminalsKept)
    (hs : s.terminalsKept) (h : takeMessage p kind b rule s = .next t) : t.terminalsKept := by
  rcases takeMessage_cases h with ht | ⟨-, ht⟩ <;> rw [ht]
  · exact hs
  · have hsent : ∀ m : Message, (s.afterTaking p m rule).terminals
        = (judgeMessage p m rule (s.dequeued p)).1.terminals := fun m => State.sendNotices_terminals _
    refine State.terminalsKept_congr (hsent _) ?_
    unfold judgeMessage
    split_ifs
    · exact hs
    · exact hs
    · exact hr (s.dequeued p) hs

/-- A message whose rule leaves the terminals. -/
theorem takeMessage_terminals (hr : ∀ u : State, (rule u).1.terminals = u.terminals) :
    s.terminalsKept → takeMessage p kind b rule s = .next t → t.terminalsKept :=
  takeMessage_terminalsKept fun u => State.terminalsKept_congr (hr u)

theorem takeEvent_terminalsKept (he : due = true → s.terminalsKept → (effect s).terminalsKept)
    (hs : s.terminalsKept) (h : takeEvent due effect s = .next t) : t.terminalsKept := by
  rcases takeEvent_cases h with ht | ⟨-, hdue, ht⟩ <;> rw [ht]
  · exact hs
  · exact State.terminalsKept_congr (State.sendNotices_terminals _) (he hdue hs)

/-- An event that leaves the terminals. -/
theorem takeEvent_terminals (he : ∀ u : State, (effect u).terminals = u.terminals) :
    s.terminalsKept → takeEvent due effect s = .next t → t.terminalsKept :=
  takeEvent_terminalsKept fun _ => State.terminalsKept_congr (he s)

/-- An event of a line or a pin follows the level while RESET_N is low, and is taken otherwise. -/
theorem levelOrEvent_terminalsKept (hu : u.terminals = s.terminals)
    (he : s.terminalsKept → (effect s).terminalsKept) (hs : s.terminalsKept)
    (h : (if s.inReset then .next u else takeEvent due effect s) = Host.Outcome.next t) :
    t.terminalsKept := by
  split at h
  · exact Host.Outcome.next.inj h ▸ State.terminalsKept_congr hu hs
  · exact takeEvent_terminalsKept (fun _ => he) hs h

/-- A message that is a row's own is taken, and one of another row is ignored (log entry 7). -/
theorem ownRow_terminalsKept (hr : ∀ u : State, u.terminalsKept → (rule u).1.terminalsKept)
    (hs : s.terminalsKept)
    (h : (if own then takeMessage p kind b rule s else .next s) = Host.Outcome.next t) :
    t.terminalsKept := by
  split at h
  · exact takeMessage_terminalsKept hr hs h
  · exact Host.Outcome.next.inj h ▸ hs

theorem ownRow_terminals (hr : ∀ u : State, (rule u).1.terminals = u.terminals) :
    s.terminalsKept → (if own then takeMessage p kind b rule s else .next s) = Host.Outcome.next t →
      t.terminalsKept := ownRow_terminalsKept fun u => State.terminalsKept_congr (hr u)

theorem otherRow_terminals (hr : ∀ u : State, (rule u).1.terminals = u.terminals) (hs : s.terminalsKept)
    (h : (if own then .next s else takeMessage p kind b rule s) = Host.Outcome.next t) :
    t.terminalsKept := by
  split at h
  · exact Host.Outcome.next.inj h ▸ hs
  · exact takeMessage_terminals hr hs h

/-! ### The commands and the step -/

/-- At power-on every terminal is DISABLED with the function PLAIN. -/
theorem execPowerOn_terminalsKept (h : execPowerOn s = .next t) : t.terminalsKept := by
  obtain rfl := Host.Outcome.next.inj h
  refine State.terminalsKept_congr (s := State.reset) rfl
    (State.terminalsKept_iff.2 ⟨fun n => ?_, fun n => ?_⟩)
  · rw [reset_terminals]
    exact Terminal.powerOn_fits
  · rw [reset_terminals]
    exact fun hu => nomatch hu

theorem execProbeSample_terminalsKept {n : TermId} {code : ProbeCode} (hs : s.terminalsKept)
    (h : execProbeSample n code s = .next t) : t.terminalsKept := by
  refine takeEvent_terminalsKept (due := s.sampleDue n) (effect := fun x => x.takeSample n code)
    (fun hdue hs => State.takeSample_terminalsKept hs ?_ code) hs h
  simpa using (Bool.and_eq_true_iff.1 hdue).1

/-- Every command keeps the laws of the terminals. -/
theorem exec_terminalsKept (c : Instr) (hs : s.terminalsKept) (h : exec c s = .next t) :
    t.terminalsKept := by
  cases c with
  | powerOn => exact execPowerOn_terminalsKept h
  | resetNAssert => exact Host.Outcome.next.inj h ▸ hs
  | attach slot b => exact takeMessage_terminals (fun u => ruleAttach_terminals u slot b) hs h
  | detach slot b => exact takeMessage_terminals (fun u => ruleDetach_terminals u slot) hs h
  | next slot b => exact takeMessage_terminals (fun u => ruleNext_terminals u slot) hs h
  | take slot b => exact takeMessage_terminals (fun u => ruleTake_terminals u slot b) hs h
  | move slot b => exact takeMessage_terminals (fun u => ruleMove_terminals u slot b) hs h
  | arrived slot b => exact takeMessage_terminals (fun u => ruleArrived_terminals u slot) hs h
  | progress slot b => exact takeMessage_terminals (fun u => ruleProgress_terminals u slot) hs h
  | abandon slot b => exact takeMessage_terminals (fun u => ruleAbandon_terminals u slot) hs h
  | drillDone slot b => exact takeMessage_terminals (fun u => ruleDrillDone_terminals u slot b) hs h
  | feed slot b => exact takeMessage_terminals (fun u => ruleFeed_terminals u slot) hs h
  | setDone slot b => exact takeMessage_terminals (fun u => ruleSetDone_terminals u slot) hs h
  | haltAt slot b => exact takeMessage_terminals (fun u => ruleHaltAt_terminals u slot b) hs h
  | headQuery slot b => exact takeMessage_terminals (fun _ => rfl) hs h
  | planBegin b => exact takeMessage_terminals (fun u => rulePlanBegin_terminals u b) hs h
  | planSegment b => exact takeMessage_terminals (fun u => rulePlanSegment_terminals u b) hs h
  | planBay b => exact takeMessage_terminals (fun u => rulePlanBay_terminals u b) hs h
  | planHole b => exact takeMessage_terminals (fun u => rulePlanHole_terminals u b) hs h
  | planSeal b => exact takeMessage_terminals rulePlanSeal_terminals hs h
  | planAbort b => exact takeMessage_terminals rulePlanAbort_terminals hs h
  | planRead b => exact takeMessage_terminals (fun u => rulePlanRead_terminals u b) hs h
  | datum b => exact takeMessage_terminals (fun u => ruleDatum_terminals u b) hs h
  | fenceSet b => exact takeMessage_terminals (fun u => ruleFenceSet_terminals u b) hs h
  | fenceClear b => exact takeMessage_terminals (fun u => ruleFenceClear_terminals u b) hs h
  | holeReleaseRedo b => exact otherRow_terminals (fun u => ruleHoleReleaseRedo_terminals u b) hs h
  | holeReleaseAccept b => exact ownRow_terminals (fun u => ruleHoleReleaseAccept_terminals u b) hs h
  | holeExcuse b => exact takeMessage_terminals (fun u => ruleHoleExcuse_terminals u b) hs h
  | headRecover b => exact takeMessage_terminals (fun u => ruleHeadRecover_terminals u b) hs h
  | headEvict b => exact takeMessage_terminals (fun u => ruleHeadEvict_terminals u b) hs h
  | devMode b => exact takeMessage_terminals (fun u => ruleDevMode_terminals u b) hs h
  | devClear b => exact takeMessage_terminals (fun u => ruleDevClear_terminals u b) hs h
  | devRead b => exact takeMessage_terminals (fun _ => rfl) hs h
  | logRead b => exact takeMessage_terminals (fun u => ruleLogRead_terminals u b) hs h
  | setParam b => exact otherRow_terminals (fun u => ruleSetParam_terminals u b) hs h
  | setParamProbeHold b => exact ownRow_terminals (fun u => ruleSetProbeHold_terminals u b) hs h
  | setParamStaleAction b => exact ownRow_terminals (fun u => ruleSetStaleAction_terminals u b) hs h
  | setParamHeatMin b => exact ownRow_terminals (fun u => ruleSetHeatMin_terminals u b) hs h
  | setParamHeatMax b => exact ownRow_terminals (fun u => ruleSetHeatMax_terminals u b) hs h
  | setParamBudget b => exact ownRow_terminals (fun u => ruleSetBudget_terminals u b) hs h
  | setParamLogThreshold b => exact ownRow_terminals (fun u => u.setParams_terminals _) hs h
  | setParamDebounceMs b => exact ownRow_terminalsKept (fun _ => ruleSetDebounceMs_terminalsKept b) hs h
  | getParam b => exact takeMessage_terminals (fun u => ruleGetParam_terminals u b) hs h
  | termConfig b => exact takeMessage_terminalsKept (fun _ => ruleTermConfig_terminalsKept b) hs h
  | termWrite b => exact takeMessage_terminalsKept (fun _ => ruleTermWrite_terminalsKept b) hs h
  | termRead b => exact takeMessage_terminals (fun u => ruleTermRead_terminals u b) hs h
  | termAck b => exact takeMessage_terminalsKept (fun _ => ruleTermAck_terminalsKept b) hs h
  | heaterClear b => exact takeMessage_terminals (fun _ => rfl) hs h
  | frameEnd b => exact takeMessage_terminals ruleFrameEnd_terminals hs h
  | lineQuery b => exact takeMessage_terminals (fun u => ruleLineQuery_terminals u b) hs h
  | rivetOut b => exact takeMessage_terminals (fun u => ruleRivetOut_terminals u b) hs h
  | heaterQuery b => exact takeMessage_terminals (fun _ => rfl) hs h
  | motionTimerExpiry slot => exact takeEvent_terminals (fun u => u.expireTimer_terminals slot) hs h
  | holdExpiry k => exact takeEvent_terminals (fun u => u.expireHold_terminals _) hs h
  | rivetExpiry serial => exact takeEvent_terminals (fun u => u.setHeat_terminals _) hs h
  | rawChange n high =>
    exact levelOrEvent_terminalsKept (effect := fun x => x.changePin n high) (s.setPin_terminals n high)
      (fun hs => State.changePin_terminalsKept hs n high) hs h
  | acceptance n =>
    exact takeEvent_terminalsKept (effect := fun x => x.acceptCandidate n)
      (fun _ hs => State.acceptCandidate_terminalsKept hs n) hs h
  | probeSample n code => exact execProbeSample_terminalsKept hs h
  | characterArrival p mark data stopHigh =>
    exact levelOrEvent_terminalsKept (s.setPort_terminals p _)
      (State.terminalsKept_congr (s.receiveCharacter_terminals p mark data stopHigh)) hs h
  | gapExpiry p => exact takeEvent_terminals (fun u => u.setPort_terminals p _) hs h
  | inBreak p => exact takeEvent_terminals (fun u => u.setPort_terminals p _) hs h
  | breakReturn p =>
    exact levelOrEvent_terminalsKept (s.setPort_terminals p _)
      (State.terminalsKept_congr (s.takeBreak_terminals p)) hs h
  | frameSent p => exact takeEvent_terminals (fun u => u.setPort_terminals p _) hs h
  | unknownKindMessage p kind b => exact otherRow_terminals (fun _ => rfl) hs h
  | frameTransmitStart p => exact takeEvent_terminals (fun u => u.setPort_terminals p _) hs h
  | receiveLineFall p =>
    exact levelOrEvent_terminalsKept (s.setPort_terminals p _)
      (State.terminalsKept_congr (s.setPort_terminals p _)) hs h

/-- Settles O21: a command keeps the laws of the terminals, and the passing of time leaves them. -/
theorem stepKeepsTheTerminals : Obligations.StepKeepsTheTerminals := by
  intro s t hs h
  unfold step at h
  split at h
  · exact Host.Outcome.next.inj h ▸ State.terminalsKept_congr s.tick_terminals hs
  · rename_i c rest _
    exact exec_terminalsKept (s := { s with pending := rest }) c hs h

end Sys2Proof.Machine
end

section
/-! SUPPORT. The laws of the device at reset. -/

namespace Sys2Proof.Machine

/-- Settles O22: the power-on values of each block meet its laws. -/
theorem lawsHoldAtReset : Obligations.LawsHoldAtReset := by
  have hports : State.reset.portsKept := fun p => by
    rw [reset_ports]
    decide
  have hsettled : State.reset.settled := fun p _ => by
    rw [reset_ports]
    rfl
  have hrails : State.reset.railsKept := execPowerOn_railsKept (s := State.reset) rfl
  have hthermal : State.reset.thermalKept := execPowerOn_kept (s := State.reset) rfl
  have hterminals : State.reset.terminalsKept := execPowerOn_terminalsKept (s := State.reset) rfl
  exact ⟨hports, hsettled, by decide, by decide, by decide, by decide, by decide, .nil,
    (fun _ hw => nomatch hw), by decide, by decide, hrails, by decide, by decide, by decide, hthermal,
    hterminals⟩

end Sys2Proof.Machine
end
